-- ==== Sys2Proof/Word.lean ====
section
/-! DEFINITION. The word types of the GD9X16 (R4-R6, R61) and the plainest arithmetic on them. -/

namespace Sys2Proof

/-- A 32-bit register or data word (R10). -/
abbrev Word := BitVec 32

/-- A byte. -/
abbrev Byte := BitVec 8

/-- A 4-bit type tag (R61); codes 8 to 15 are reserved and stay representable (R62). -/
abbrev Tag := BitVec 4

/-- A tagged word: 32 data bits and a 4-bit type tag (R61). -/
structure TWord where
  data : Word
  tag  : Tag
  deriving DecidableEq, Repr

namespace Tag
/-- Tag code 0, NONE (R61). -/
def none : Tag := 0
/-- Tag code 1, INT (R61). -/
def int : Tag := 1
/-- Tag code 2, PTR (R61). -/
def ptr : Tag := 2
/-- Tag code 3, CODE (R61). -/
def code : Tag := 3
/-- Tag code 4, KEY (R61). -/
def key : Tag := 4
/-- Tag code 5, LIMB (R61). -/
def limb : Tag := 5
/-- Tag code 6, HANDLE (R61). -/
def handle : Tag := 6
/-- Tag code 7, TIME (R61). -/
def time : Tag := 7
end Tag

/-- The word every cleared register or memory place holds: NONE with data 0 (R61, R82, R481). -/
def TWord.none : TWord := ⟨0, Tag.none⟩

/-- An INT word. -/
def TWord.int (w : Word) : TWord := ⟨w, Tag.int⟩

end Sys2Proof
end

