-- ==== Sys2Proof/Syntax.lean ====
section
/-! DEFINITION. The commands of the device: one constructor of `Instr` per row of spec/opcode_table.json, in the
table's order, with the operands its rule gives the step. Who may send which command is R144 and R367 (`Master`). -/

namespace Sys2Proof

/-- The register blocks of R25. -/
inductive Block where
  | sys | evt | pwr | clk | rst | tim | dual | acu | mort | cox | pke | hsh | cip | ptn | sgn | jnl | sgm
  | eth | fsp | pci | vfm | kst | lcs | tmp | elg | flc | jnt | crd | sdh | nfc | dbg
  deriving DecidableEq, Repr

/-- One register page: a block and its instance number (R24). -/
structure PageRef where
  block : Block
  inst  : Nat
  deriving DecidableEq, Repr

/-- A GTIS processor (R60): tile c.t, the Cox supervisor core of course c, or a Keystone core. -/
inductive ProcId where
  | tile (c t : Fin 16)
  | cox (c : Fin 16)
  | ks (k : Fin 2)
  deriving DecidableEq, Repr

/-- The master of a mortar access (R144, R367): a processor, a unit port, a PCI Express function, the debug master, a mover. -/
inductive Master where
  | proc (p : ProcId)
  | cluster (k : Fin 4)
  | hash (k : Fin 16)
  | cipher (k : Fin 16)
  | partnerCache
  | signerStore
  | journal
  | linkPorts (g : Fin 4)
  | pcie (f : Fin 128)
  | debug
  | mover (east : Bool)
  deriving DecidableEq, Repr

/-- Message kinds of the control lane (R147) that a master issues. -/
inductive MsgKind where
  | read | write | keyWrite
  deriving DecidableEq, Repr

/-- A mortar request message (R147): who sent it, in which stroke, for which course, where it goes and what it carries. -/
structure Msg where
  src    : Master
  /-- A scheduled beat (1) or a free-joint beat (0), R147 SCH. -/
  sched  : Bool
  /-- The OWNER course of a scheduled beat (R147). -/
  owner  : Fin 16
  kind   : MsgKind
  /-- 40-bit physical address of the first byte. -/
  addr   : Nat
  /-- Bytes of the access. -/
  size   : Nat
  data   : List TWord
  /-- The stroke in which the beat was issued (R146). -/
  stroke : Nat
  /-- Destination register of a load, and the address of the issuing instruction (R81). -/
  dest   : Nat
  pc     : Word
  deriving DecidableEq, Repr

/-- Content of a received Ethernet frame, as the filters of R270 tell it apart. -/
inductive EthContent where
  /-- EtherType 0x88B5, envelope carriage (R271). -/
  | envL2 (payload : List Byte)
  /-- IPv4 UDP: source, destination, ports, options present, fragment, payload. -/
  | udp (sip dip sport dport : Nat) (opts frag : Bool) (payload : List Byte)
  /-- IPv4 TCP data of a connection: source address and port, destination port, payload. -/
  | tcp (sip dip sport dport : Nat) (opts frag : Bool) (payload : List Byte)
  /-- EtherType 0x88B8: the GOOSE APDU. -/
  | goose (payload : List Byte)
  /-- A PTP message over Layer 2 or UDP/IPv4 (R276). -/
  | ptp (bytes : List Byte)
  /-- An ARP request for an IPv4 address. -/
  | arp (target : Nat)
  /-- A PRP or HSR supervision frame. -/
  | supervision
  /-- Anything else. -/
  | other
  deriving DecidableEq, Repr

/-- A received Ethernet frame after the MAC (R269, R270, R275). -/
structure EthFrame where
  dst     : Nat
  src     : Nat
  /-- VIDs of the 802.1Q tags, outermost first. -/
  vids    : List Nat
  /-- Bytes of the frame without a PRP trailer. -/
  len     : Nat
  /-- PRP trailer or HSR tag sequence number, where the frame carries one. -/
  redSeq  : Option Nat
  fcsOk   : Bool
  content : EthContent
  deriving DecidableEq, Repr

/-- Key of a reassembly slot (R272): MSGID with the source (MAC address, or IPv4 address and UDP port). -/
structure RasmKey where
  udp   : Bool
  src   : Nat
  sport : Nat
  msgid : Nat
  deriving DecidableEq, Repr

/-- Why a heat is aborted (R126): an ordinary trap code of R96, a late unit, an occupancy mismatch, a lockstep fault. -/
inductive AbortCause where
  | trap (code : Nat)
  | lateUnit
  | occMismatch
  | lockstep
  deriving DecidableEq, Repr

/-- How a lockstep unit fails (R185, R186, R214). -/
inductive UnitFault where
  | mismatch
  | eccUncorr
  deriving DecidableEq, Repr

/-- The requester of a unit command (R171, R172): the master, and for a scheduled command the course and tile pair. -/
structure Requester where
  sched  : Bool
  master : Master
  course : Fin 16
  pair   : Fin 8
  deriving DecidableEq, Repr

/-- The principal of an approval (R376): kind code and identity. -/
structure Principal where
  kind  : Fin 4
  ident : Nat
  deriving DecidableEq, Repr

/-- A PCI Express read ending (R327). -/
inductive ReadEnd where
  | ok | failed
  deriving DecidableEq, Repr

/-- Addressing mode of a tag island request (R467, R469). -/
inductive TagAddr where
  | nonAddressed
  | addressed (uid : Nat)
  | selected
  deriving DecidableEq, Repr

/-- The steps of an anti-tearing record write (R474, R475) before which a field collapse can fall. -/
inductive TearPoint where
  | beforeShadow | beforeFlag | duringFlag (newSelected : Bool) | afterFlag
  deriving DecidableEq, Repr

/-- How an SD command ends (R457). -/
inductive SdEnd where
  | ok (resp : List Word) (blocks : Nat) (data : List Byte)
  | crcError
  deriving DecidableEq, Repr

/-- Where in an SD command the card is removed (R459), with the blocks completed before it. -/
inductive SdRemoval where
  | idleOrRead (blocks : Nat)
  | dataPhase (blocks : Nat)
  | busyPhase (blocks cardBlock : Nat) (block : List Byte)
  deriving DecidableEq, Repr

/-- The badge that an activation finds (R464): type B, highest rate code it allows, and its UID or PUPI. -/
structure BadgeInfo where
  typeB : Bool
  rate  : Nat
  uid   : List Byte
  deriving DecidableEq, Repr

/-- A record write over the air that a field collapse cut (R475): record, new bytes and where the collapse fell. -/
structure TornWrite where
  record : Nat
  data   : List Byte
  point  : TearPoint
  deriving DecidableEq, Repr

/-- Results that ROM obtains at boot from outside the model (R390, R391): the self-test, the helper-data check, the signatures of the
two twins, and in RECOVERY the image on the SD card with its signatures. -/
structure BootInputs where
  selfTestOk : Bool
  helperOk   : Bool
  sigAOk     : Bool
  sigBOk     : Bool
  recovery   : Option (List Byte × Bool)
  /-- The first configuration record whose content in flash no longer is what was written, if any (R394). -/
  recBad     : Option Nat := none
  deriving DecidableEq, Repr

/-- What a plan's program holds that no field of the file says: what the command-class description compiled into it fixes (R259, R260,
R264-R266), and what Keystone firmware's analysis of the paths through it finds (R122 rules 4 to 11, R243). -/
structure Program where
  /-- Protocol of the class, coded as PROTO of a context (R219, R260). -/
  proto   : Nat := 0
  /-- Algorithm of each signature block position (R259). -/
  algs    : List Nat := []
  /-- Rule of R122 among 4 to 11 that the analysis finds broken, 0 for none. -/
  failing : Nat := 0
  /-- The program can store into the address range of its POLICY section (R243). -/
  storesPolicy : Bool := false
  /-- Telemetry classes: the header stroke, the ALG of the block appended (0xF0, 0x01 or 0x20) and its key index (R264-R266). -/
  headerAt : Nat := 0
  upAlg   : Nat := 0xF0
  keyIx   : Nat := 0
  deriving DecidableEq, Repr

/-- The write of MBX_CTL that starts a mailbox request (R321): the request's TAG, and MBX_CTL.IE and VEC. -/
structure Go where
  tag : Nat
  ie  : Bool
  vec : Nat
  deriving DecidableEq, Repr

/-- A queue pair as a migration blob carries it (R339): number, configuration words, heads, tails and phase. -/
structure MigQp where
  q      : Nat
  cfg    : List Word
  sqHead : Nat
  sqTail : Nat
  cqHead : Nat
  cqTail : Nat
  phase  : Bool
  deriving DecidableEq, Repr

/-- A blob taken in by IMPORT, after Keystone firmware has opened it (R339, R340). -/
structure MigBlob where
  dstUid   : Nat
  srcUid   : Nat
  exportId : Nat
  authOk   : Bool
  qps      : Nat
  vecs     : Nat
  /-- Partner set words, and the partners with their HIGH_WATER at the export. -/
  pset     : List (Nat × Word)
  partners : List (Nat × Nat)
  /-- Queue pair state, and the MSI-X entries whose mask bit is clear. -/
  queues   : List MigQp
  unmasked : List Nat
  deriving DecidableEq, Repr

/-- A streamed check-and-mark of pair mode (R361). -/
structure StreamMsg where
  num     : Nat
  partner : Fin 4096
  version : Nat
  mark    : Bool
  seq     : Nat
  tag     : Nat
  set     : Word
  clear   : Word
  rate    : BitVec 4
  tm      : Nat
  cls     : Nat
  deriving DecidableEq, Repr

/-- A beat that reaches its node, with the link directions on which a router corrected a bit of it (R155). -/
structure Arrival where
  msg  : Msg
  corr : List (Fin 120) := []
  deriving DecidableEq, Repr

/-- A word written at a port of a cryptographic unit, with the requester whose beat carries it (R72, R164, R199). -/
structure PortWrite where
  src  : Requester
  word : TWord
  deriving DecidableEq, Repr

/-- What PLAN_LOAD hands to Keystone firmware: the bytes of the file (R117-R121) and what its analysis of the program finds. -/
structure PlanUpload where
  bytes : List Byte
  prog  : Program := {}
  deriving DecidableEq, Repr

/-- What a commit meets outside the request: the level of PAIR_PEER (R360), and COUNTER and VALUE of the OTP statement whose
digest an OPERATION request holds (R396). -/
structure CommitInput where
  pairPeer : Bool := false
  otp      : Option (Nat × Nat) := none
  deriving DecidableEq, Repr

/-- The commands of the device: every step of spec/opcode_table.json. -/
inductive Instr where
  -- register pages and events (R9-R38)
  | registerWrite (m : Master) (addr size : Nat) (v : Word)
  | stkyClear (m : Master) (pg : PageRef) (v hw : Word)
  | faultTimeLoRead (m : Master) (addr : Nat)
  | softReset (m : Master) (pg : PageRef) (v : Word)
  | rwpShadowWrite (m : Master) (addr : Nat) (v : Word)
  | eventRisingEdge (ev : Fin 2048)
  | evtMaskWrite (m : Master) (k : Fin 64) (v : Word)
  | evtPendClear (m : Master) (k : Fin 64) (v rising : Word)
  | evtSwset (m : Master) (v : Word)
  | evtRdataWrite (m : Master) (v : Word)
  -- Ethernet reception (R269-R275)
  | ethFrameReceived (port : Fin 64) (f : EthFrame)
  | reassemblyTimeout (port : Fin 64) (key : RasmKey)
  | dupEntryExpiry (port : Fin 64) (mac seq : Nat)
  | hsrSupervision (port : Fin 64)
  -- the command path and the Cox (R39-R59, R105-R143)
  | classification
  | frameBoundary
  | swapTimeout (c : Fin 16)
  | heatLaunch (c : Fin 16) (entry : Fin 1024)
  | spareSlot (c : Fin 16) (entry : Fin 1024)
  | reissueTimeout (c : Fin 16)
  | lockstepMismatch (c : Fin 16) (p : Fin 8)
  | heatAbort (c : Fin 16) (p : Fin 8) (cause : AbortCause) (tpc : Word)
  | endNoticeWipe (cipher : Bool) (k : Fin 16)
  | egressRelease (c : Fin 16) (p : Fin 8) (compareEqual : Bool)
  | partnerContextRead
  | partnerStateRead
  | checkAndMark
  | bbPendingSend
  | bbLagTimeout (p : Fin 4096)
  | partnerDrain
  | drainComplete
  | ckptPop (m : Master)
  -- partner and signer loads (R235-R239)
  | partnerInstall (m : Master) (v : Word)
  | partnerUpdate (m : Master) (v : Word)
  | partnerEnable (m : Master) (v : Word)
  | partnerDisable (m : Master) (v : Word)
  | partnerErase (m : Master) (v : Word)
  | partnerRestore (m : Master) (v : Word)
  | partnerFence (m : Master) (v : Word)
  | partnerLoadApply
  | signerInstall (m : Master) (v : Word)
  | signerErase (m : Master) (v : Word)
  | signerRevoke (m : Master) (v : Word)
  | signerLoadApply
  -- secure time (R227, R228)
  | timAdj (m : Master) (v : Word)
  | slewComplete
  | timRtcWriteback
  | holdoverExpiry
  -- link ports (R273-R290)
  | uplinkEnvelope (src : Fin 256) (env : List Byte)
  | ethTxDone (port : Fin 64)
  | ethLinkDown (port : Fin 64)
  | ethLinkUp (port : Fin 64) (speed : BitVec 2)
  | serdesLaneFault (port : Fin 64)
  | ethEnableWrite (m : Master) (port : Fin 64) (v : Word)
  | ptpTxGo (m : Master) (port : Fin 64) (v : Word)
  | ptpTxStamped (port : Fin 64)
  | ptpAckWrite (m : Master) (port : Fin 64) (v : Word)
  | ptpTsHiRead (m : Master) (port : Fin 64)
  | sessDataWrite (m : Master) (port : Fin 64) (k : Fin 4) (v : Word)
  | sessionEstablished (port : Fin 64) (n : Fin 256)
  | startdtConfirmed (port : Fin 64) (n : Fin 256)
  | sessionFailure (port : Fin 64) (n : Fin 256)
  | backoffExpiry (port : Fin 64) (n : Fin 256)
  | iec104T1Expiry (port : Fin 64) (n : Fin 256)
  | iec104T2Expiry (port : Fin 64) (n : Fin 256)
  | iec104T3Expiry (port : Fin 64) (n : Fin 256)
  | tcpRetransmitTimeout (port : Fin 64) (n : Fin 256)
  | fsCfgWrite (m : Master) (k : Fin 192) (v : Word)
  | fsFrameReceived (k : Fin 192)
  | fsIdleTimeout (k : Fin 192)
  | fsBreak (k : Fin 192)
  | fsLeadStart (k : Fin 192)
  | fsTxStart (k : Fin 192)
  | fsTxDone (k : Fin 192) (echoed : List Byte)
  | fsDriverRelease (k : Fin 192)
  | fsTurnExpiry (k : Fin 192)
  | l101AckTimeout (k : Fin 192)
  -- mortar and Cox registers (R144-R160, R359, R365)
  | mortarDelivery (msg : Arrival)
  | beatUncorrectable (msg : Msg) (dir : Fin 120)
  | linkIdleLoss (dir : Fin 120)
  | linkTestStart (m : Master) (v : Word)
  | linkTestDone (ok : Bool)
  | ftData1Write (m : Master) (c : Fin 16) (v : Word)
  | ftData1Read (m : Master) (c : Fin 16)
  | resData1Write (m : Master) (v : Word)
  | resData1Read (m : Master)
  | shadowBaseWrite (m : Master) (c : Fin 16) (v : Word)
  | coxPtestStart (m : Master) (c : Fin 16) (v : Word)
  | coxPtestDone (c : Fin 16) (ok : Bool)
  | courseDomainFault (c : Fin 16)
  -- GTIS instructions (R77): one issue by one processor
  | add (p : ProcId) (d a b : Fin 32)
  | sub (p : ProcId) (d a b : Fin 32)
  | and (p : ProcId) (d a b : Fin 32)
  | or (p : ProcId) (d a b : Fin 32)
  | xor (p : ProcId) (d a b : Fin 32)
  | sll (p : ProcId) (d a b : Fin 32)
  | srl (p : ProcId) (d a b : Fin 32)
  | sra (p : ProcId) (d a b : Fin 32)
  | slli (p : ProcId) (d a : Fin 32) (sh : Fin 32)
  | srli (p : ProcId) (d a : Fin 32) (sh : Fin 32)
  | srai (p : ProcId) (d a : Fin 32) (sh : Fin 32)
  | slt (p : ProcId) (d a b : Fin 32)
  | sltu (p : ProcId) (d a b : Fin 32)
  | seq (p : ProcId) (d a b : Fin 32)
  | sel (p : ProcId) (d a b : Fin 32)
  | bswap (p : ProcId) (d a : Fin 32)
  | mul (p : ProcId) (d a b : Fin 32)
  | mulhu (p : ProcId) (d a b : Fin 32)
  | mulh (p : ProcId) (d a b : Fin 32)
  | laddc (p : ProcId) (d a b : Fin 32)
  | lsubb (p : ProcId) (d a b : Fin 32)
  | lmull (p : ProcId) (d a b : Fin 32)
  | lmulh (p : ProcId) (d a b : Fin 32)
  | mov (p : ProcId) (d a : Fin 32)
  | cvt (p : ProcId) (d a : Fin 32) (t : Tag)
  | tagof (p : ProcId) (d a : Fin 32)
  | clrt (p : ProcId) (d : Fin 32)
  | tadd (p : ProcId) (d a b : Fin 32)
  | addi (p : ProcId) (d a : Fin 32) (imm : BitVec 16)
  | andi (p : ProcId) (d a : Fin 32) (imm : BitVec 16)
  | ori (p : ProcId) (d a : Fin 32) (imm : BitVec 16)
  | xori (p : ProcId) (d a : Fin 32) (imm : BitVec 16)
  | slti (p : ProcId) (d a : Fin 32) (imm : BitVec 16)
  | sltiu (p : ProcId) (d a : Fin 32) (imm : BitVec 16)
  | lui (p : ProcId) (d : Fin 32) (imm : BitVec 16)
  | ldw (p : ProcId) (d a : Fin 32) (imm : BitVec 16)
  | ldh (p : ProcId) (d a : Fin 32) (imm : BitVec 16)
  | ldb (p : ProcId) (d a : Fin 32) (imm : BitVec 16)
  | stw (p : ProcId) (src a : Fin 32) (imm : BitVec 16)
  | sth (p : ProcId) (src a : Fin 32) (imm : BitVec 16)
  | stb (p : ProcId) (src a : Fin 32) (imm : BitVec 16)
  | lkey (p : ProcId) (k a : Fin 32) (imm : BitVec 16)
  | skey (p : ProcId) (k a : Fin 32) (imm : BitVec 16)
  | kput (p : ProcId) (k a : Fin 32) (imm : BitVec 16)
  | kwipe (p : ProcId) (a : Fin 32) (imm : BitVec 16)
  | kmov (p : ProcId) (kd ks : Fin 32)
  | kclr (p : ProcId) (kd : Fin 32)
  | ktagof (p : ProcId) (d k : Fin 32)
  | mkey (p : ProcId) (kd a : Fin 32)
  | beq (p : ProcId) (a b : Fin 32) (off : BitVec 16)
  | bne (p : ProcId) (a b : Fin 32) (off : BitVec 16)
  | blt (p : ProcId) (a b : Fin 32) (off : BitVec 16)
  | bge (p : ProcId) (a b : Fin 32) (off : BitVec 16)
  | bltu (p : ProcId) (a b : Fin 32) (off : BitVec 16)
  | bgeu (p : ProcId) (a b : Fin 32) (off : BitVec 16)
  | jmp (p : ProcId) (off : BitVec 26)
  | call (p : ProcId) (off : BitVec 26)
  | jr (p : ProcId) (a : Fin 32)
  | callr (p : ProcId) (a : Fin 32)
  | loop (p : ProcId) (a : Fin 32) (off : BitVec 16)
  | loopi (p : ProcId) (n : Fin 1024) (off : BitVec 16)
  | nop (p : ProcId)
  | ret (p : ProcId)
  | endHeat (p : ProcId)
  | wfe (p : ProcId) (a : Fin 32)
  | wfeComplete (p : ProcId) (delivered : Word)
  | sev (p : ProcId) (a : Fin 32) (line : Fin 32)
  | sevDelivery
  | sevg (p : ProcId) (a : Fin 32)
  | waitc (p : ProcId) (a : Fin 32)
  | waitcComplete (p : ProcId)
  | rdscl (p : ProcId) (d : Fin 32)
  | rdsch (p : ProcId) (d : Fin 32)
  | mfs (p : ProcId) (d : Fin 32) (n : Fin 1024)
  | mts (p : ProcId) (a : Fin 32) (n : Fin 1024)
  | tag (p : ProcId) (d a : Fin 32) (t : Tag)
  | fence (p : ProcId)
  | fenceComplete (p : ProcId)
  | illegalInstruction (p : ProcId) (w : Word)
  | globalLoadResponse (p : ProcId)
  | accessErrorResponse (p : ProcId)
  -- public-key engines (R161-R195)
  | pkeStagingWrite (q : Fin 48) (k : Fin 4) (v : PortWrite)
  | ecdsaP256Verify (r : Requester) (q : Fin 48) (w0 : Word)
  | ecdsaP256Sign (r : Requester) (q : Fin 48) (w0 : Word)
  | ecdhP256 (r : Requester) (q : Fin 48) (w0 : Word)
  | ecdsaP384Verify (r : Requester) (q : Fin 48) (w0 : Word)
  | ecdsaP384Sign (r : Requester) (q : Fin 48) (w0 : Word)
  | ecdhP384 (r : Requester) (q : Fin 48) (w0 : Word)
  | ed25519Verify (r : Requester) (q : Fin 48) (w0 : Word)
  | ed25519Sign (r : Requester) (q : Fin 48) (w0 : Word)
  | x25519 (r : Requester) (q : Fin 48) (w0 : Word)
  | rsa2048Verify (r : Requester) (q : Fin 48) (w0 : Word)
  | rsa3072Verify (r : Requester) (q : Fin 48) (w0 : Word)
  | rsa4096Verify (r : Requester) (q : Fin 48) (w0 : Word)
  | rsa2048CrtSign (r : Requester) (q : Fin 48) (w0 : Word)
  | rsa3072CrtSign (r : Requester) (q : Fin 48) (w0 : Word)
  | rsa4096CrtSign (r : Requester) (q : Fin 48) (w0 : Word)
  | mlDsa65Verify (r : Requester) (q : Fin 48) (w0 : Word)
  | mlDsa65Sign (r : Requester) (q : Fin 48) (w0 : Word)
  | mlDsa87Verify (r : Requester) (q : Fin 48) (w0 : Word)
  | mlDsa87Sign (r : Requester) (q : Fin 48) (w0 : Word)
  | mlKem768Encapsulate (r : Requester) (q : Fin 48) (w0 : Word)
  | mlKem768Decapsulate (r : Requester) (q : Fin 48) (w0 : Word)
  | mlKem1024Encapsulate (r : Requester) (q : Fin 48) (w0 : Word)
  | mlKem1024Decapsulate (r : Requester) (q : Fin 48) (w0 : Word)
  | pkeOperationDone (q : Fin 48)
  | pkeAbort (m : Master) (k : Fin 4) (v : Word)
  | pkeWipeDone (q : Fin 48)
  | pkePairFault (q : Fin 48) (f : UnitFault)
  | pkeOwnedWrite (m : Master) (k : Fin 4) (v : Word)
  | pkeSelftestStart (m : Master) (k : Fin 4) (v : Word)
  | pkeSelftestDone (k : Fin 4) (ok : Bool)
  | pkeFreeAck (m : Master) (k : Fin 4) (v : Word)
  | ucBegin (m : Master) (k : Fin 4) (v : Word)
  | ucDataWrite (m : Master) (k : Fin 4) (v : Word)
  | ucFinish (m : Master) (k : Fin 4) (v : Word)
  | drbgReseed (m : Master) (k : Fin 4) (v : Word)
  -- hash and cipher units (R196-R217)
  | hashStagingWrite (cipher : Bool) (k : Fin 16) (i : Fin 5) (v : PortWrite)
  | keyinWrite (cipher : Bool) (k : Fin 16) (i : Fin 16) (v : TWord) (m : Master)
  | handleWrite (cipher : Bool) (k : Fin 16) (v : TWord) (m : Master)
  | hashSha256 (r : Requester) (k : Fin 16) (w0 : Word)
  | hashSha384 (r : Requester) (k : Fin 16) (w0 : Word)
  | hashSha512 (r : Requester) (k : Fin 16) (w0 : Word)
  | hashSha3x256 (r : Requester) (k : Fin 16) (w0 : Word)
  | hashShake128 (r : Requester) (k : Fin 16) (w0 : Word)
  | hashShake256 (r : Requester) (k : Fin 16) (w0 : Word)
  | hashDone (k : Fin 16)
  | cipherKeyset (r : Requester) (k : Fin 16) (w0 : Word)
  | cipherKeyclr (r : Requester) (k : Fin 16) (w0 : Word)
  | aesCtr (r : Requester) (k : Fin 16) (w0 : Word)
  | gcmEncrypt (r : Requester) (k : Fin 16) (w0 : Word)
  | gcmDecrypt (r : Requester) (k : Fin 16) (w0 : Word)
  | gmacGenerate (r : Requester) (k : Fin 16) (w0 : Word)
  | gmacVerify (r : Requester) (k : Fin 16) (w0 : Word)
  | cipherDone (k : Fin 16)
  | unitAbort (m : Master) (cipher : Bool) (v : Word)
  | unitWipeDone (cipher : Bool) (k : Fin 16)
  | unitPairFault (cipher : Bool) (k : Fin 16) (f : UnitFault)
  | unitOwnedWrite (m : Master) (cipher : Bool) (v : Word)
  | unitSelftestStart (m : Master) (cipher : Bool) (v : Word)
  | unitSelftestDone (cipher : Bool) (ok : Bool)
  | unitFreeAck (m : Master) (cipher : Bool) (v : Word)
  | coverWrite (m : Master) (cipher : Bool) (hi : Bool) (v : Word)
  | partnerContextEcc (p : Fin 4096)
  | signerSlotEcc (n : Fin 1024)
  -- SGRAM and journal (R291-R317)
  | sgramRead (m : Master) (addr size : Nat) (faulty : Bool)
  | sgramWrite (m : Master) (addr : Nat) (data : List TWord)
  | sgramTrainingDone (c : Fin 8) (ok : Bool)
  | sgramPeriodicRetrain (c : Fin 8) (ok : Bool)
  | sgramRefresh (c : Fin 8)
  | sgramSelfRefreshExit (east : Bool)
  | sgramEdcFail (c : Fin 8)
  | sgramDeviceTimeout (c : Fin 8)
  | sgramRetrainStart (m : Master) (c : Fin 8) (v : Word)
  | resilverDone (c : Fin 8) (ok : Bool)
  | moverStart (m : Master) (east : Bool) (v : Word)
  | moverDone (east : Bool)
  | journalFlush
  | journalFlushAck (ok : Bool)
  | journalFlushRetry
  | exportedWrite (m : Master) (v : Word)
  | jnlEnableWrite (m : Master) (v : Word)
  -- host interface (R318-R343)
  | qpConfigWrite (f : Fin 128) (q : Fin 64) (i : Fin 8) (v : Word)
  | sqTailDoorbell (f : Fin 128) (q : Fin 64) (v : Word)
  | cqHeadDoorbell (f : Fin 128) (q : Fin 64) (v : Word)
  | descriptorFetch (f : Fin 128) (q : Fin 64) (desc : List Byte)
  | envelopeReadDone (f : Fin 128) (q : Fin 64) (e : ReadEnd) (bytes : List Byte)
  | completionPost (f : Fin 128) (q : Fin 64)
  | coalTimerExpiry (f : Fin 128) (q : Fin 64)
  | msixVectorUnmask (f : Fin 128) (vec : Fin 128) (whole : Bool)
  | functionLevelReset (f : Fin 128)
  | vfEnableWrite (enable : Bool) (numVfs : Fin 128)
  | pcieLinkDown
  | info (g : Go)
  | setResources (g : Go) (fn qp share jquota : Nat)
  | setPartnerSet (g : Go) (fn : Nat) (bitmap : List Word)
  | setVectors (g : Go) (fn base count : Nat)
  | activate (g : Go) (fn : Nat)
  | drain (g : Go) (fn : Nat)
  | freeze (g : Go) (fn : Nat)
  | thaw (g : Go) (fn : Nat)
  | release (g : Go) (fn : Nat)
  | migrationKey (g : Go)
  | exportFn (g : Go) (fn : Nat) (certOk : Bool) (dstUid off : Nat)
  | importFn (g : Go) (fn : Nat) (blob : MigBlob)
  | planLoad (g : Go) (plan : PlanUpload)
  | approve (g : Go) (req : Nat) (who : Principal) (serial : Nat) (sigOk : Bool)
  | unknownCmd (g : Go) (cmd : Nat)
  | mbxRespond (m : Master) (v : Word)
  | fnActivate (m : Master)
  | fnDrain (m : Master)
  | fnFreeze (m : Master)
  | fnThaw (m : Master)
  | fnRelease (m : Master)
  | fnImported (m : Master)
  | fnAckWrite (m : Master) (v : Word)
  | fnVecWrite (m : Master) (v : Word)
  | vfmCommit (m : Master) (v : Word)
  | psetDataAccess (m : Master) (write : Bool) (v : Word)
  -- pair mode (R360-R366) and service (R56)
  | markStreamReceived (msg : StreamMsg)
  | markAckReceived (num : Nat)
  | releaseNoticeReceived (tag : Nat)
  | pairAckTimeout
  | streamTimeout
  | sisterLinkUp
  | resyncDone (areas : List (Fin 4096 × List Byte))
  | pairKick (m : Master) (v : Word)
  | pairWatchdogExpiry
  | pairPeerLowTimeout
  | serveWrite (m : Master) (v : Word)
  -- access control and dual control (R367-R384)
  | violClear (m : Master) (i : Fin 64) (v : Word) (refusedNow : Bool)
  | dualOpenRegister (m : Master) (v : Word)
  | dualOpenOperation (m : Master) (v : Word)
  | dualOpenUnlock (m : Master) (v : Word)
  | dualDigestReady (r : Fin 4)
  | dualClose (m : Master) (v : Word)
  | approvalSubmit (m : Master) (v : Word)
  | approvalExpiry (r j : Fin 4)
  | dualCommit (m : Master) (v : Word) (c : CommitInput)
  | bootDone (m : Master) (v : Word)
  -- Keystone (R385-R400)
  | keystoneResetRelease (i : BootInputs)
  | xlockWrite (m : Master) (v : Word)
  | pufLockWrite (m : Master) (v : Word)
  | trngRead (m : Master)
  | kstWdogKick (m : Master) (v : Word)
  | kstWatchdogExpiry
  | keystoneFault (doubleTrap : Bool)
  | jointTrained
  | jointFrameSend (toArch : Bool) (typ route : Nat) (words : List TWord)
  | jointFrameReceived (toArch : Bool) (frame : List Byte)
  | jointIdleTimeout
  | jointRekey (m : Master) (v : Word)
  -- life cycle and debug (R401-R415)
  | lcTargetTestLocked (m : Master)
  | lcTargetTestOpen (m : Master)
  | lcTargetProvision (m : Master)
  | lcTargetMission (m : Master) (opTable : Bool)
  | lcTargetReturn (m : Master)
  | lcTargetScrap (m : Master)
  | lcProgramDone (ok : Bool)
  | lcResetDelay
  | debugSubmit (m : Master) (v : Word)
  | debugGrant (m : Master) (v : Word)
  | debugRevoke (m : Master) (v : Word)
  | debugHalt (m : Master) (v : Word)
  | debugStep (m : Master) (v : Word)
  | debugResume (m : Master) (v : Word)
  | certDataWrite (m : Master) (v : Word)
  -- tamper and evidence (R416-R433)
  | monitorTrip (ms : List (Fin 128))
  | eraseZeroiseDone
  | alarmClear (m : Master) (k : Fin 4) (v newTrips : Word)
  | holdRelease (m : Master) (v : Word)
  | tamperTestStart (m : Master) (v : Word)
  | tamperSweep (m : Master) (v : Word)
  | tamperTestDone (ok : Bool)
  | ringClear (m : Master) (v : Word)
  | logAppend (m : Master) (v : Word)
  | logEntryProgrammed (ok : Bool)
  -- flash (R434-R445)
  | flashKey (m : Master) (v : Word)
  | flashSeqTimeout
  | flashProgram (m : Master) (v : Word)
  | sectorErase (m : Master) (v : Word)
  | blockErase (m : Master) (v : Word)
  | flashSuspend (m : Master) (v : Word)
  | flashResume (m : Master) (v : Word)
  | flashSwap (m : Master) (v : Word)
  | flashRetire (m : Master) (v : Word)
  | flashCommandDone (pulses : Nat) (verifyOk : Bool)
  | flashRead (m : Master) (addr : Nat)
  -- cards, SD (R446-R462)
  | cardInsertion (n : Fin 4)
  | cardRemoval (n : Fin 4)
  | cardActivate (m : Master) (n : Fin 4) (v : Word)
  | cardDeactivate (m : Master) (n : Fin 4) (v : Word)
  | atrTimeout (n : Fin 4)
  | atrReceived (n : Fin 4) (atr : List Byte)
  | ppsResponse (n : Fin 4) (rsp : List Byte)
  | cardSend (m : Master) (n : Fin 4) (v : Word)
  | cardExchangeDone (n : Fin 4) (rsp : List Byte)
  | cardWaitTimeout (n : Fin 4)
  | cardBusyTimeout (n : Fin 4)
  | cardClockStop (n : Fin 4)
  | sdCommandGo (m : Master) (v : Word)
  | sdCommandDone (e : SdEnd)
  | sdCommandTimeout
  | sdVoltageSwitch (m : Master) (v : Word) (ok : Bool)
  | sdTune (m : Master) (v : Word) (ok : Bool)
  | sdRewrite (m : Master) (v : Word)
  | sdDiscard (m : Master) (v : Word)
  | sdCardRemoval (w : SdRemoval)
  | sdCardInsertion (wp : Bool)
  -- contactless (R463-R478)
  | nfcPoll (extField : Bool) (badges : Nat)
  | nfcActivate (m : Master) (v : Word) (extField : Bool) (badge : BadgeInfo)
  | nfcDeactivate (m : Master) (v : Word)
  | nfcSend (m : Master) (v : Word)
  | nfcExchangeDone (rsp : List Byte)
  | badgeRemoved
  | nfcBusyTimeout
  | inventory (slots16 : Bool) (maskLen mask : Nat)
  | stayQuiet (a : TagAddr)
  | readSingleBlock (a : TagAddr) (n : Nat)
  | writeSingleBlock (a : TagAddr) (n : Nat) (data : List Byte)
  | readMultipleBlocks (a : TagAddr) (first count : Nat)
  | select (uid : Nat)
  | resetToReady (a : TagAddr)
  | getSystemInformation (a : TagAddr)
  | getRandom (a : TagAddr)
  | presentPassword (a : TagAddr) (pw : Nat) (masked : Word)
  | getPasswordStatus (a : TagAddr)
  | tagUnknownCommand (a : TagAddr) (code : Nat)
  | quietTimerExpiry
  | tagFieldLoss (tear : Option TornWrite)
  | islandPowerUp
  | trecRead (m : Master) (v : Word)
  | trecCommit (m : Master) (v : Word)
  | trecAck (m : Master) (v : Word)
  | passwordSet (m : Master) (v : Word)
  | passwordResetCount (m : Master) (v : Word)
  -- power, clocks, reset (R479-R496)
  | domainIdleExpiry (d : Fin 36)
  | domainWake (d : Fin 36)
  | domainWakeDone (d : Fin 36)
  | domainWakeFail (d : Fin 36)
  | offReq (m : Master) (v : Word)
  | powerFailWarning (late : Bool)
  | deviceReset
  | rstNAssert
  | resetReqDevice (m : Master) (v : Word)
  | resetReqArch (m : Master) (v : Word)
  | resetReqCourse (m : Master) (v : Word)
  | courseResetDone (c : Fin 16)
  | mainPowerOn
  | vbatPowerOn
  | causeClear (m : Master) (v : Word)
  | pllLockLost (stroke : Bool)
  | refClkLost
  | thermalEnter
  | thermalExit
  | fsCharacterReceived (k : Fin 192) (ch : BitVec 9) (parityOk stopOk : Bool)
  | pcieLinkUp (gen width : Nat)
  | jointRetrained
  | mainPowerLoss
  | bankVddioLost (b : Fin 12)
  | bankVddioRestored (b : Fin 12) (high : Bool)
  | pllLockRegained (which : Fin 3)
  | trngHealthChange (ok : Bool)
  deriving DecidableEq, Repr

end Sys2Proof
end

