-- ==== Sys2Proof/Config.lean ====
section
/-! DEFINITION. Free values and the functions that standards outside the spec define. An opaque constant has no body: a
statement about it holds for every value (log entries 1 and 2). -/

namespace Sys2Proof.Config

/-- Fresh word number n of a source the spec calls random: the TRNG, challenges, the tag island's R (log entry 1). -/
opaque freeWord : Nat → BitVec 32
/-- Content of a byte that the spec calls indeterminate (R443, R444, R459): a fresh value per draw (log entry 1). -/
opaque freeByte : Nat → BitVec 8

/-- The reject class of the Arch firmware (R40): entry address, stack top, slim and the local address of its class queue,
which the spec does not give (log entry 1). -/
opaque rejectEntry : BitVec 32
opaque rejectStack : BitVec 32
opaque rejectSlim : BitVec 32
opaque rejectQueue : Nat
/-- Address at which an instance of legacy firmware restarts (R133, log entry 1). -/
opaque legacyEntry : BitVec 32

/-- The classes, and field serial ports as 1024 + port, that a course in legacy mode serves: the legacy configuration, which no command
carries (R132, R288, log entry 28). -/
opaque legacyClasses : Nat → List Nat

/-- The Cox firmware (R391): where it starts, and the stack pointer and limit of its loader (log entry 92). -/
opaque coxEntry : BitVec 32
opaque coxStack : BitVec 32
opaque coxLimit : BitVec 32
/-- A free-mode tile runs at supervisor privilege, as its loader sets it (R66, log entry 92). -/
opaque freeModeSuper : Bool

/-- The course and offset of shared memory that a physical address reaches, where no other target holds it: a mortar target whose
window the spec does not give (R68, R144, R154, log entry 73). -/
opaque sharedWindow : Nat → Option (Nat × Nat)

/-- The check bits of a data word and of a tag: the spec names the codes and gives no matrix (R17, log entry 107). -/
opaque checkBits : BitVec 32 → BitVec 7
opaque tagCheck : BitVec 4 → BitVec 4

/-- The plaintext of a migration blob from what it carries: the spec lists the contents and gives no layout (R339, log entry 109). -/
opaque migPlain : List (List Nat) → List (BitVec 8)

/-- The vendor identifier in OTP (R342), for which the spec gives no value (log entry 1). -/
opaque vendorId : BitVec 16

/-- Strokes from the start of a free engine command, by its OP, to the stroke in which the engine's schedule needs the public key (R173,
log entry 93). -/
opaque keyNeeded : Nat → Nat

/-- The plan authority keys, by ALG, of the key record with a digest among the key records in flash, whose layout the spec does not give
(R395, log entry 95). -/
opaque authorityKeys : List (Nat × BitVec 8) → List (BitVec 8) → List (Nat × List (BitVec 8))

/-- Bytes of the IEC 62351-6 authentication extension that the heat appends to a GOOSE APDU (R263, log entry 101). -/
opaque gooseExtLen : Nat

/-- The corrected PUF response of the die (R392). -/
opaque puf : List (BitVec 8)

end Sys2Proof.Config
end

