-- ==== Sys2Proof/Machine/State.lean ====
section
/-! DEFINITION. The state of the device, one record per block, its reset value, and the reasons a step can stop. -/

namespace Sys2Proof.Machine

/-- Faults of a step. The device has no fault of its own that stops the whole block (R344 keeps service running): the one
constructor is raised by `execMortarDelivery` for a message whose address lies outside the 40-bit physical space, which no
master can send (R154). Safe: the hardware has no such message. -/
inductive Fault where
  | outsideAddressSpace
  deriving DecidableEq, Repr

/-- Refusals of a step. `notModelled` is raised by an arm of `exec` that has no meaning. Safe. -/
inductive Refusal where
  | notModelled (mnemonic : String)
  deriving DecidableEq, Repr

/-- IPv4 addresses and ports of a sent packet; TCP or UDP. -/
structure IpHead where
  src   : Nat
  dst   : Nat
  sport : Nat
  dport : Nat
  tcp   : Bool
  deriving DecidableEq, Repr

/-- An Ethernet frame that a port sends (R270-R279): addresses, the 802.1Q tag (VID and PCP), EtherType, the IP packet that carries the
payload, and the sequence number of a PRP trailer or HSR tag. -/
structure WireFrame where
  dst     : Nat
  src     : Nat
  vlan    : Option (Nat × Nat) := none
  etherType : Nat
  ip      : Option IpHead := none
  red     : Option Nat := none
  payload : List Byte
  deriving DecidableEq, Repr

/-- What the device sends out: event deliveries, interrupts, frames, host writes and notes to Keystone firmware. The list is
the model's own record of what left the block (log entry 5). -/
inductive Output where
  /-- Delivery of an event to the Keystone cores (R34). -/
  | ksEvent (ev : Nat)
  /-- An MSI-X message for a global vector (R341). -/
  | msix (vec : Nat)
  /-- An Ethernet frame carrying a released native frame. -/
  | ethFrame (port tag : Nat) (f : WireFrame)
  /-- A segment of an upward envelope sent by an Ethernet port (R271, R273). -/
  | upward (port : Nat) (f : WireFrame)
  /-- A PTP frame: the bytes of the TX buffer (R276). -/
  | ptpFrame (port : Nat) (bytes : List Byte)
  /-- An ARP answer (R270). -/
  | arpReply (port : Nat)
  /-- An HSR ring frame forwarded to the other port of the pair (R274). -/
  | forwarded (port : Nat) (f : EthFrame)
  /-- A PRP or HSR supervision frame (R274). -/
  | supervision (port : Nat)
  /-- TCP and IEC 104 control traffic of a session (R277): 0 SYN, 1 STARTDT, 2 FIN, 3 S-format, 4 TESTFR, 5 retransmission. -/
  | session (port n kind : Nat)
  /-- Bytes put on a field serial line (R280). -/
  | serial (k tag : Nat) (bytes : List Byte)
  /-- A link answer of IEC 60870-5-2 (R284): 0 single character, 1 function 11, 2 reset of remote link. -/
  | linkAnswer (k kind : Nat)
  /-- A completion entry or an upward envelope written to host memory (R328, R330). -/
  | hostWrite (fn addr : Nat) (bytes : List Byte)
  /-- A message to the sister device: 0 mark, 1 acknowledge, 2 release notice, 3 resend of a context (R361, R362). -/
  | sister (kind a b : Nat)
  /-- A streamed check-and-mark (R361). -/
  | sisterMark (msg : StreamMsg)
  /-- A link frame on the joint: to the Arch die; header, sealed payload and tag (R397). -/
  | joint (toArch : Bool) (frame : List Byte)
  /-- A card, SD or badge transaction started, with its bytes (R449, R457, R464). -/
  | card (slot : Nat) (bytes : List Byte)
  | sdCommand (word arg : Word)
  | badge (bytes : List Byte)
  /-- An answer of the tag island: error code (0 none) and bytes (R468). -/
  | tagAnswer (err : Nat) (bytes : List Byte)
  /-- A fault signalled to a course: cause code as LAST_ABORT (R155, R188). -/
  | courseSignal (c cause : Nat)
  /-- The master of a refused access got an error response (R10, R372). -/
  | errorResponse (m : Master)
  /-- The data a register or memory read returned to its master. -/
  | readData (m : Master) (ws : List TWord)
  deriving DecidableEq, Repr

/-- A mark ring entry (R225). -/
structure RingMark where
  seq    : Nat := 0
  tag    : Nat := 0
  stroke : Nat := 0
  /-- The entry has been written since INSTALL or RESTORE. -/
  used   : Bool := false
  deriving DecidableEq, Repr

/-- A rate counter (R251). -/
structure Rate where
  epoch : Nat := 0
  count : Nat := 0
  deriving DecidableEq, Repr

/-- A partner context (R219): the mutable area by field, the configuration area by byte, and the key array (R221). -/
structure Ctx where
  partner : Nat := 0
  enabled : Bool := false
  ringNext : Nat := 0
  state   : Word := 0
  hw      : Nat := 0
  fence   : Nat := 0
  rate    : List (Nat × Rate) := []
  window  : BitVec 1024 := 0
  ring    : List (Nat × RingMark) := []
  /-- Bytes 0x2C0-0x7FF, by offset. -/
  cfg     : List (Nat × Byte) := []
  /-- Unwrapped session keys by index (R221). -/
  keys    : List (Nat × List Byte) := []
  /-- Withdrawn for an uncorrectable word: reads as zeros (R358). -/
  withdrawn : Bool := false
  deriving DecidableEq, Repr

/-- A class queue entry (R39). Source: 0-255 port number, 256 PF, 256 + n VF n. -/
structure QEntry where
  cls    : Nat := 0
  tag    : Nat := 0
  src    : Nat := 0
  /-- Queue pair and CID of a VF submission, for its completion. -/
  qp     : Nat := 0
  cid    : Nat := 0
  /-- The queue pair's `era` at the fetch. -/
  era    : Nat := 0
  stroke : Nat := 0
  time   : Nat := 0
  valid  : Bool := false
  env    : List Byte := []
  /-- Frames of a telemetry class (R59, R288): the partner the frame was matched to. -/
  partner : Nat := 0
  telemetry : Bool := false
  /-- Place of the entry in its class queue (R42). -/
  slot    : Nat := 0
  deriving DecidableEq, Repr

/-- An occupancy record: RES, ROLE, DEST, START, LENGTH, BEATS (R119). -/
structure Occ where
  res    : Nat
  role   : Nat := 0
  dest   : Nat := 0
  start  : Nat := 0
  length : Nat := 0
  beats  : Nat := 0
  deriving DecidableEq, Repr

/-- A heat plan: the fields of its file (R117-R120), what its program holds beside them, and where the file stands (R124, R393). -/
structure PlanFile where
  cls       : Nat := 0
  version   : Nat := 0
  telemetry : Bool := false
  long      : Bool := false
  total     : Nat := 0
  maxEnv    : Nat := 0
  maxSigned : Nat := 0
  qdepth    : Nat := 1
  sigs      : Nat := 1
  keyfoot   : Nat := 0
  /-- CODE: load address, entry address, stack top, slim and the image words (R118). -/
  codeAt    : Nat := 0
  entry     : Nat := 0
  stackTop  : Nat := 0
  slim      : Nat := 0
  image     : List Word := []
  /-- DATA segments by local address (R118). -/
  data      : List (Nat × List Byte) := []
  /-- OCCUPANCY (R119). -/
  occ       : List Occ := []
  /-- Bindings and the RERUN binding: ENG0, ENG1, HSH0, HSH1, CIP0, with 0xFF unused (R120). -/
  bindings  : List (List Nat) := []
  rerun     : List Nat := []
  /-- SHARED: local addresses and sizes of the class queue and the plan region (R118). -/
  queueOff  : Nat := 0
  queueSize : Nat := 0
  regionOff : Nat := 0
  regionSize : Nat := 0
  /-- The POLICY section, byte for byte (R244). -/
  policy    : List Byte := []
  prog      : Program := {}
  /-- Offset of the file in the flash partition of the plans, its length, and the digest recorded at admission (R124, R393). -/
  flashAt   : Nat := 0
  size      : Nat := 0
  digest    : List Byte := []
  deriving DecidableEq, Repr

/-- A heat in progress (R106, R107). -/
structure Heat where
  pair    : Nat
  cls     : Nat
  entry   : QEntry
  bind    : Nat := 0
  rerun   : Bool := false
  launch  : Nat := 0
  total   : Nat := 0
  /-- Assigned journal slot (R310), `none` when none was free (R51). -/
  slot    : Option Nat := none
  keyfoot : Nat := 0
  /-- Course that owns the class queue entry (the course of the first attempt). -/
  home    : Nat := 0
  /-- Trap code and TPC of the first attempt, for R354. -/
  first   : Option (Nat × Nat) := none
  fencedBy : Option Nat := none
  /-- Units of the binding in use: ENG0, ENG1, HSH0, HSH1, CIP0 (R120). -/
  units   : List Nat := []
  /-- The heat has reached END; it stays listed while its release can still be withdrawn (R347). -/
  ended   : Bool := false
  /-- The context the heat read, and the state words of other partners (R222, R253). -/
  img     : Option Ctx := none
  states  : List Word := []
  /-- STATE was LOCKED at the header stroke of a telemetry heat (R264). -/
  lockHdr : Bool := false
  /-- The egress entry of the policy step is reserved (R50). -/
  resv    : Bool := false
  /-- Verdict and reason fixed at the verdict stroke, and the result of the heat's check-and-mark (R46, R48). -/
  verdict : Option (Nat × Nat) := none
  marked  : Option Bool := none
  /-- The plan under which the heat runs to its end, whatever a swap does (R112). -/
  plan    : PlanFile := {}
  /-- Each signature block's result as its engine gave it, in order (R45). -/
  sigOk   : List Bool := []
  /-- The frame staged in the reserved egress entry (R52), and the upward envelope of a telemetry heat (R264). -/
  frame   : Option (List Byte) := none
  up      : Option (List Byte) := none
  deriving DecidableEq, Repr

/-- An aborted heat that awaits a SPARE entry (R350). -/
structure Waiting where
  heat    : Heat
  detect  : Nat
  deriving DecidableEq, Repr

/-- A frame table or reservation entry: words 0 and 1 (R109, R149). -/
structure TwoWords where
  w0 : Word := 0
  w1 : Word := 0
  deriving DecidableEq, Repr

/-- The Cox and course state (R105-R143, R349-R359). -/
structure Cox where
  ftA     : List (Nat × TwoWords) := []
  ftB     : List (Nat × TwoWords) := []
  resA    : List (Nat × TwoWords) := []
  resB    : List (Nat × TwoWords) := []
  /-- Word 0 written to FT_DATA0, held until FT_DATA1 (R141). -/
  ftHold  : Word := 0
  /-- STS.ACTIVE_BUF: buffer B active. -/
  active  : Bool := false
  /-- A committed swap: the frame of the commit and the courses of the commit (R111, R113). -/
  swap    : Option (Nat × List Nat) := none
  /-- Role in force (R137). -/
  role    : Nat := 0
  /-- STS.READY. -/
  ready   : Bool := false
  /-- Class queue entries waiting, oldest first (R41). -/
  queue   : List QEntry := []
  /-- Entries of the legacy queue, and the classes, and field serial ports as 1024 + port, that the classifier maps to it (R132, R134,
  R288). -/
  legacyQ : List QEntry := []
  legacyMap : List Nat := []
  heats   : List Heat := []
  waiting : List Waiting := []
  /-- Ingress serial of the course (R39). -/
  serial  : Nat := 0
  /-- Launches from shared slots in this frame, per function (R333). -/
  shares  : List (Nat × Nat) := []
  /-- First stroke at which each pair can be launched again (R110). -/
  rest    : List (Nat × Nat) := []
  /-- Pairs and course readmitted at the next boundary (R359). -/
  reopen  : List Nat := []
  /-- Running PTEST: pairs under test and whether the course is (R359). -/
  ptest   : Option (List Nat × Bool) := none
  /-- Pairs (bit 8 the course) with a passing test since their fence. -/
  passed  : List Nat := []
  /-- Stroke of the last uncorrectable shared memory word (R344). -/
  lastUe  : Option Nat := none
  /-- Legacy mode: pairs with a command in progress (R133). -/
  legacyBusy : List (Nat × QEntry) := []
  /-- Units of the page taken by an end notice not yet served: (cipher, pair). -/
  notices : List (Bool × Nat) := []
  deriving DecidableEq, Repr

/-- A GTIS processor (R60-R104). -/
structure Proc where
  /-- b1-b31, words other than NONE 0; b0 reads INT 0 (R63). -/
  b      : List (Nat × TWord) := []
  k      : List (Nat × TWord) := []
  pc     : Word := 0
  cy     : Bool := false
  slim   : Word := 0
  gwin   : BitVec 9 := 0
  ls     : List (Nat × Word) := []
  le     : List (Nat × Word) := []
  lc     : List (Nat × Word) := []
  ldepth : Nat := 0
  /-- MODE[0], MODE[1] (R65). -/
  sched  : Bool := false
  super  : Bool := false
  /-- The processor has a program to issue from. -/
  running : Bool := false
  /-- Stopped by a double trap (R100), by a scheduled trap (R101) or, for Keystone, by a fault (R388). -/
  stopped : Bool := false
  /-- Halted by the debug master, and let run for one instruction (R410). -/
  halted : Bool := false
  stepOne : Bool := false
  /-- Open wait: 1 WFE with its mask, 2 WAITC with its target, 3 FENCE. -/
  wait   : Option (Nat × Nat) := none
  /-- Pending event lines (R91). -/
  lines  : Word := 0
  /-- High word latched by RDSCL (R77). -/
  sclHi  : Word := 0
  tcause : Word := 0
  tpc    : Word := 0
  taddr  : Word := 0
  /-- TSTAT: ACTIVE, PPRIV, SKIP (R97). -/
  tactive : Bool := false
  tppriv  : Bool := false
  tskip   : Bool := false
  tvec   : Word := 0
  ttime  : Nat := 0
  tldepth : Nat := 0
  /-- Earlier global stores not yet acknowledged (R77, FENCE). -/
  outStores : Nat := 0
  /-- Destination register of the load whose response the next instruction waits for (R76). -/
  stall  : Option Nat := none
  /-- Stopped by a double trap: only a reset of the course lets a tile issue again (R100). -/
  dbl    : Bool := false
  deriving DecidableEq, Repr

/-- A response on its way back to a processor (R81, R147). -/
structure Resp where
  proc  : Nat
  /-- Load destination; 32 for a store or KPUT. -/
  dest  : Nat
  /-- 0 word, 1 high or low half, 2 byte: size of the load in bytes. -/
  size  : Nat
  err   : Bool
  ecc   : Bool
  pc    : Word
  /-- Local address for TADDR; of a refusal, the lowest refused byte. -/
  addr  : Word
  data  : TWord
  /-- Last stroke of the TC-9 figure, for a scheduled load (R76, R114). -/
  due   : Option Nat
  /-- The acknowledge of a write, which ends a store and answers nothing else (R147). -/
  ack   : Bool := false
  deriving DecidableEq, Repr

/-- A command a unit is running: its words, requester and the stroke at which it ends (R165, R204, R207). -/
structure UCmd where
  w    : List Word
  req  : Requester
  due  : Nat
  /-- Random bytes drawn in the first stroke (R179); for a hash or cipher command the key or tr it fetched (R200, R204). -/
  rnd  : List Byte := []
  /-- Input words a hash or cipher command fetched (R204, R208). -/
  inp  : List TWord := []
  /-- A free engine command's fetch of its key from the signer store under way: the stroke by which the key is needed; and whether it came
  too late (R173). -/
  fetch : Option Nat := none
  late  : Bool := false
  deriving DecidableEq, Repr

/-- One store, send, END or trap of a tile of a lockstep pair that the other tile has not matched yet (R102): the pair as
8 x course + pair, the tile, the kind (0 store, 1 mortar send, 2 END, 3 trap), what is compared, and the stroke. -/
structure LockItem where
  pair   : Nat
  odd    : Bool
  kind   : Nat
  what   : List Nat
  stroke : Nat
  deriving DecidableEq, Repr

/-- A word of course shared memory written in the present stroke: who wrote it and what it held before (R69). -/
structure ShWrite where
  key    : Nat
  stroke : Nat
  /-- The tile pair whose write stands. -/
  pair   : Nat
  old    : TWord
  deriving DecidableEq, Repr

/-- A scheduled W0 that is at its unit and waits for the stroke in which the unit treats it as arrived (R172, R212): the stroke, the kind
(0 engine, 1 hash, 2 cipher), the pair it names, its requester and the word. -/
structure HeldW0 where
  at_    : Nat
  kind   : Nat
  num    : Nat
  req    : Requester
  w      : Word
  deriving DecidableEq, Repr

/-- A status word of a refused command on its way: the stroke in which it is written, its address, and the word (R174, R212). -/
structure LateStatus where
  at_    : Nat
  addr   : Nat
  word   : TWord
  deriving DecidableEq, Repr

/-- A result that a heat's plan reads: its course and pair, the unit (engine pair, 64 + hash pair, 96 + cipher pair) and stroke s + F
(R45, R126). -/
structure UnitDue where
  course : Nat
  pair   : Nat
  unit   : Nat
  due    : Nat
  deriving DecidableEq, Repr

/-- Unit pair states, with the codes of R180. -/
inductive UState where
  | idle | sched | free | wipe | fenced | test | noUc
  deriving DecidableEq, Repr

/-- A public-key engine pair (R161-R192). -/
structure Pke where
  st    : UState := .noUc
  /-- Staging registers W1-W4 (R171). -/
  stage : List (Nat × Word) := []
  cmd   : Option UCmd := none
  /-- Stroke at which a wipe or self-test ends, and whether the pair enters FENCED then. -/
  due   : Nat := 0
  toFence : Bool := false
  /-- Requester of an aborted command, reported when the wipe ends (R174). -/
  aborted : Option UCmd := none
  /-- A free result not yet acknowledged (FREE_ACK). -/
  result : Bool := false
  passed : Bool := false
  failed : Bool := false
  /-- Stroke at which the last passing self-test ended. -/
  testAt : Option Nat := none
  /-- State held before a self-test (R189). -/
  before : Bool := false
  /-- A commit of 1 to the fence waits for the command to end (R512). -/
  fenceWait : Bool := false
  /-- A commit of 0 waits for the next frame boundary to take the role back (R359). -/
  reopen : Bool := false
  deriving DecidableEq, Repr

/-- One engine cluster's generator and microcode state (R178-R192). -/
structure Cluster where
  ucValid : Bool := false
  loading : Bool := false
  seeded  : Bool := false
  draws   : Nat := 0
  /-- Draws since the last reseed that DRBG_CNT no longer shows after a SOFT_RESET (R195). -/
  uncounted : Nat := 0
  /-- The stroke of the last draw or reseed; the generator as it was at its start; the draws of that stroke by pair, with their bytes,
  and a reseed of that stroke (R179). -/
  dealAt  : Option Nat := none
  seeded0 : Bool := false
  draws0  : Nat := 0
  k0      : List Byte := []
  v0      : List Byte := []
  deals   : List (Nat × Nat) := []
  reseed  : Option (List Byte) := none
  seedSet : List (Nat × Word) := []
  /-- Key and V of the CTR_DRBG (R178). -/
  drbgK   : List Byte := List.replicate 32 0
  drbgV   : List Byte := List.replicate 16 0
  /-- Microcode words, both banks (R191), and words with an uncorrectable error: bank 0 and bank 1. -/
  uc      : List (Nat × Word) := []
  bad0    : List Nat := []
  bad1    : List Nat := []
  deriving DecidableEq, Repr

/-- A hash or cipher unit pair (R196-R217). KEYIN, BUF and OUT are memory at the pair's window. -/
structure HcPair where
  st     : UState := .idle
  stage  : List (Nat × Word) := []
  cmd    : Option UCmd := none
  due    : Nat := 0
  toFence : Bool := false
  aborted : Option UCmd := none
  result : Bool := false
  passed : Bool := false
  failed : Bool := false
  testAt : Option Nat := none
  before : Bool := false
  fenceWait : Bool := false
  reopen : Bool := false
  /-- HANDLE register (R200); 0 when empty. -/
  handle : Word := 0
  /-- Key schedule loaded by KEYSET: the key bytes (R202). -/
  key    : Option (List Byte) := none
  /-- Message bytes absorbed by an open free hash, with its OP (R201, R211). -/
  hash   : Option (Nat × List Byte) := none
  deriving DecidableEq, Repr

/-- A check-and-mark request (R223). -/
structure MarkReq where
  course  : Nat
  pair    : Nat
  seq     : Nat
  tag     : Nat
  partner : Nat
  mark    : Bool
  rates   : BitVec 4
  set     : Word
  clear   : Word
  dest    : Nat
  stroke  : Nat
  /-- Stroke in which the request reached the port (R48). -/
  arrive  : Nat := 0
  /-- The heat's own check-and-mark, whose result its journal step takes (R48). -/
  heat    : Bool := false
  deriving DecidableEq, Repr

/-- A context read request (R222). -/
structure CtxRead where
  course  : Nat
  pair    : Nat := 0
  dest    : Nat
  partner : Nat
  stateOnly : Bool
  stroke  : Nat
  /-- The bytes that go to the destination, as the context was when the request reached the port (R222). -/
  img     : List Byte := []
  deriving DecidableEq, Repr

/-- The partner cache (R218-R240, R361). -/
structure Ptn where
  ctx     : List (Nat × Ctx) := []
  /-- Contexts changed in a stroke: the stroke, the partner, and the context before the first change (R222). -/
  was     : List (Nat × Nat × Ctx) := []
  reads   : List CtxRead := []
  marks   : List MarkReq := []
  /-- Words staged at the two ports, by course and pair: read port word 0, mark port words 0-6. -/
  portW   : List (Nat × Word) := []
  /-- BBRAM pending bits with the stroke at which each was set, and the next partner to send (R230). -/
  bbPend  : List (Nat × Nat) := []
  bbNext  : Nat := 0
  /-- First stroke in which the next high-water can be sent (R230). -/
  bbAt    : Nat := 0
  ckpt    : List (Nat × Nat) := []
  /-- A running load: mode, partner, due stroke (R235). -/
  load    : Option (Nat × Nat × Nat) := none
  /-- Drain asked for (marks refused), and drain complete (R231). -/
  draining : Bool := false
  drained : Bool := false
  /-- Contexts restored since power-up, or in service when SERVE was set (R233). -/
  restored : List Nat := []
  wrapKey : Option (List Byte) := none
  /-- A running signer load: mode, slot, due stroke (R238). -/
  sgnLoad : Option (Nat × Nat × Nat) := none
  deriving DecidableEq, Repr

/-- Secure time (R227, R228). -/
structure Tim where
  /-- Secure time in units of 1/1200 µs. -/
  now     : Nat := 0
  valid   : Bool := false
  /-- Amount still to be slewed out, in the same units, and TIM.STS.SLEWING. -/
  slew    : Int := 0
  slewing : Bool := false
  rtcCont : Bool := false
  /-- A STEP has been committed since power-up (R228). -/
  stepped : Bool := false
  /-- Secure time of the last accepted ADJ or STEP, in µs. -/
  lastDisc : Nat := 0
  deriving DecidableEq, Repr

/-- An alarm ring entry (R427). -/
structure RingAlarm where
  time  : Nat
  cnt   : Nat
  mon   : Nat
  level : Nat
  cell  : Bool
  deriving DecidableEq, Repr

/-- The always-on domain (R227, R230, R395, R416-R427, R488). -/
structure Aon where
  /-- RTC in units of 1/1200 µs. -/
  rtc      : Nat := 0
  interrupted : Bool := true
  holdover : Nat := 3600
  lastDisc : Nat := 0
  /-- BBRAM bytes (R230, R395), and whether it is reported valid. -/
  bbram    : List (Nat × Byte) := []
  bbValid  : Bool := false
  /-- Always-on cycle counter, in units of 1/1200 µs. -/
  cnt      : Nat := 0
  ring     : List RingAlarm := []
  ringOver : Nat := 0
  hold     : Bool := false
  lock     : Bool := false
  /-- BBRAM marked invalid by an Erase since the last boot (TMP.STS.ERASED). -/
  erased   : Bool := false
  mainPower : Bool := false
  vbat     : Bool := false
  /-- Alarms go to the ring (R427). -/
  toRing   : Bool := false
  /-- TIM.STS.VALID held at the last write-back (R429). -/
  timeValid : Bool := false
  shutdown : Option Nat := none
  /-- RST.CAUSE [11:0] and BOOTS (R493). -/
  cause    : Word := 0
  boots    : Nat := 0
  deriving DecidableEq, Repr

/-- An approval place (R378, R379): principal and the wall time of the SUBMIT, in ms. -/
structure App where
  kind  : Nat
  ident : Nat
  atMs  : Nat
  deriving DecidableEq, Repr

/-- A DUAL request slot (R377-R382). State 0 closed, 1 digesting, 2 open. -/
structure Req where
  st      : Nat := 0
  kind    : Nat := 0
  pages   : List PageRef := []
  serial  : Nat := 0
  epoch   : Nat := 0
  digest  : List Byte := []
  /-- Stroke by which the digest is ready. -/
  due     : Nat := 0
  stale   : Bool := false
  granted : Bool := false
  result  : Nat := 0
  page    : Nat := 0
  apps    : List (Nat × App) := []
  /-- Kinds of the approvals held at the commit (R405), and NFC.PW_VAL when the request was opened (R473). -/
  kinds   : List Nat := []
  pwVal   : Word := 0
  deriving DecidableEq, Repr

/-- The DUAL page beyond its registers. -/
structure Dual where
  req    : List (Nat × Req) := []
  opens  : Nat := 0
  boot   : Bool := true
  epochSet : Bool := false
  deriving DecidableEq, Repr

/-- One link direction (R155-R159). -/
structure Link where
  corr   : Nat := 0
  uncorr : Nat := 0
  testOk : Bool := false
  testFail : Bool := false
  /-- Stroke at which the last passing test ended. -/
  testAt : Option Nat := none
  /-- Stroke of the latest uncorrectable beat. -/
  lastUe : Option Nat := none
  deriving DecidableEq, Repr

/-- A replay of an ownership list (R150): course, offset stroke, and the list's entries. -/
structure Replay where
  course : Nat
  start  : Nat
  list   : List TwoWords
  deriving DecidableEq, Repr

/-- What beats on the mesh carry (R147): a request; the response to one, with the request it answers; the context that a read
port sends, and the result of a check-and-mark (R222, R223). -/
inductive Body where
  | req (m : Msg)
  | resp (m : Msg) (r : Resp)
  | ctx (q : CtxRead)
  | mark (q : MarkReq) (ok : Option Bool)
  /-- The public key that an engine pair fetches for a free command (R173). -/
  | key (q : Nat)
  deriving DecidableEq, Repr

/-- Beats on their way through the mesh (R146-R153): the link directions of their route and how many the head has crossed. -/
structure Flight where
  body  : Body
  sched : Bool
  /-- OWNER of a scheduled beat. -/
  owner : Nat
  /-- ACU number of the endpoint that sends, its place among the inputs of its router (R152). -/
  acu   : Nat := 0
  route : List Nat
  /-- Stroke of issue of the first beat. -/
  start : Nat
  beats : Nat := 1
  /-- The route was changed by a fence (R155, R357). -/
  alt   : Bool := false
  /-- A free beat: hops crossed, and the stroke at which it came into the router it is in. -/
  hop   : Nat := 0
  head  : Nat := 0
  deriving DecidableEq, Repr

/-- The fabric (R144-R160). -/
structure Mort where
  link    : List (Nat × Link) := []
  test    : Option Nat := none
  replays : List Replay := []
  /-- Requests travelling to their target. -/
  msgs    : List Msg := []
  resps   : List Resp := []
  /-- Beats in the mesh, in the order in which they were issued. -/
  flights : List Flight := []
  /-- MORT.FREE_WAIT: the longest wait of a free beat at a router (R152). -/
  freeWait : Nat := 0
  /-- RES_DATA0 held until RES_DATA1 (R160). -/
  resHold : Word := 0
  deriving DecidableEq, Repr

/-- A journal slot of a course ring (R310): 0 free, 1 assigned, 2 flushable. -/
structure JSlot where
  st    : Nat := 0
  /-- END stroke, for the flush order (R312). -/
  endAt : Nat := 0
  /-- Function the record counts against (R334): 0 none, 1 + f. -/
  fn    : Nat := 0
  deriving DecidableEq, Repr

/-- The journal engine (R310-R317). Slots are keyed 256 × course + slot. -/
structure Jnl where
  slots    : List (Nat × JSlot) := []
  flushing : Option Nat := none
  /-- The record being flushed as stored, and whether its lines have been written to a live copy each. -/
  rec_     : List Byte := []
  wrote    : Bool := false
  next     : Nat := 0
  exported : Nat := 0
  /-- Time of the next retry (R314), in units of 1/1200 µs. -/
  retry    : Option Nat := none
  genesis  : List (Nat × Word) := []
  deriving DecidableEq, Repr

/-- One SGRAM channel (R291-R309): 0 off, 1 active, 2 fenced, 3 resilver. -/
structure SgmCh where
  st       : Nat := 0
  trained  : Bool := false
  training : Bool := false
  selfRef  : Bool := false
  keyed    : Bool := false
  survivor : Bool := false
  /-- Key set delivered over the key channel (R295). -/
  key      : List TWord := []
  /-- Tree: MINOR and MAJOR fields (R299). -/
  minor    : List (Nat × Nat) := []
  major    : List (Nat × Nat) := []
  root     : List (Nat × Nat) := []
  /-- Times of recent lines that failed R297, in units of 1/1200 µs (R306). -/
  fails    : List Nat := []
  lastRetrain : Nat := 0
  resilver : Nat := 0
  deriving DecidableEq, Repr

/-- A reassembly slot (R272). -/
structure Rasm where
  key   : RasmKey
  segs  : Nat
  got   : List (Nat × List Byte)
  since : Nat
  deriving DecidableEq, Repr

/-- A session (R277). State codes as the rule's table. -/
structure Sess where
  data0 : Word := 0
  data1 : Word := 0
  data2 : Word := 0
  data3 : Word := 0
  st    : Nat := 0
  /-- I-format frames sent and not acknowledged, and received and not acknowledged. -/
  sent  : Nat := 0
  vs    : Nat := 0
  recv  : Nat := 0
  vr    : Nat := 0
  testing : Bool := false
  /-- Time of the last change of state, and the times t1, t2 and t3 count from, in units of 1/1200 µs. -/
  since : Nat := 0
  t1At  : Nat := 0
  t2At  : Nat := 0
  t3At  : Nat := 0
  deriving DecidableEq, Repr

/-- An egress queue entry (R50): reserved, staged or released. -/
structure Egress where
  tag      : Nat
  course   : Nat := 0
  pair     : Nat := 0
  partner  : Nat := 0
  bytes    : List Byte := []
  released : Bool := false
  /-- Release stroke. -/
  at_      : Nat := 0
  deriving DecidableEq, Repr

/-- An Ethernet port (R269-R279, R289). -/
structure Eth where
  link    : Bool := false
  speed   : Nat := 0
  rasm    : List Rasm := []
  /-- Duplicate table of the pair, oldest first: source MAC, sequence, time (R275). -/
  dup     : List (Nat × Nat × Nat) := []
  sess    : List (Nat × Sess) := []
  /-- Uplink queue: port where the telemetry arrived, and the envelope (R273). -/
  uplink  : List (Nat × List Byte) := []
  msgid   : Nat := 0
  /-- Sequence number of the next frame of the pair (R274). -/
  redSeq  : Nat := 0
  ptpBusy : Bool := false
  tsValid : Bool := false
  tsStamp : Nat := 0
  head    : Nat := 0
  count   : Nat := 0
  deriving DecidableEq, Repr

/-- Phases of a serial transmitter (R282): idle, lead, sending, lag, response window. -/
inductive FsPhase where
  | idle | ready | lead | sending | lag | turn
  deriving DecidableEq, Repr

/-- What a serial transmitter sends: a released frame, a reset of remote link to an address, the retry copy (R284). -/
inductive FsTx where
  | frame (e : Egress) | linkReset (a : Nat) | copy (e : Egress)
  deriving DecidableEq, Repr

/-- A field serial port (R280-R290). -/
structure Fsp where
  phase : FsPhase := .idle
  /-- Time of the last phase change, in units of 1/1200 µs. -/
  since : Nat := 0
  /-- Stroke at which the port became ready for the next frame (R282). -/
  ready : Nat := 0
  de    : Bool := false
  brk   : Bool := false
  tx    : Option FsTx := none
  /-- Received characters of the frame in progress, and the time of the last one. -/
  rx    : List Byte := []
  rxLast : Nat := 0
  /-- The frame in progress has been discarded; its other characters are ignored. -/
  rxBad : Bool := false
  /-- IEC 60870-5-2 link (R284): addresses reset with the FCB of the next frame, FCB last received by address, retries used, awaiting a
  confirmation, repeating the last transmission, and the retry copy. -/
  links : List (Nat × Bool) := []
  rxFcb : List (Nat × Bool) := []
  tries : Nat := 0
  await : Bool := false
  again : Bool := false
  copy  : Option Egress := none
  deriving DecidableEq, Repr

/-- A completion entry waiting to be posted (R328, R329). -/
structure Cpl where
  bytes : List Byte
  /-- The upward envelope that goes with an UPWARD entry (R330). -/
  up    : List Byte := []
  tag   : Nat := 0
  /-- No earlier than this stroke. -/
  at_   : Nat
  deriving DecidableEq, Repr

/-- A queue pair (R323-R330). -/
structure Qp where
  cfg     : List (Nat × Word) := []
  sqHead  : Nat := 0
  sqTail  : Nat := 0
  cqTail  : Nat := 0
  cqHead  : Nat := 0
  phase   : Bool := true
  /-- Completion entries reserved by fetches and upward envelopes (R326, R330), and written but not consumed. -/
  reserved : Nat := 0
  cqUsed  : Nat := 0
  /-- A descriptor fetched whose envelope is being read. -/
  desc    : Option (List Byte) := none
  cpls    : List Cpl := []
  /-- How often the queue pair has been disabled: completions of commands fetched before that are discarded (R323). -/
  era     : Nat := 0
  /-- Entries not yet signalled and the time of the oldest (R341). -/
  unsig   : Nat := 0
  unsigAt : Nat := 0
  deriving DecidableEq, Repr

/-- Function states with the codes of VFM.FN_STS (R335). -/
inductive FnState where
  | quiet | active | draining | frozen
  deriving DecidableEq, Repr

/-- A PCI Express function (R318-R343). -/
structure Fn where
  st      : FnState := .quiet
  settled : Bool := false
  exported : Bool := false
  ack     : Bool := false
  inflight : Nat := 0
  qp      : Nat := 0
  qpNext  : Nat := 0
  share   : Nat := 0xFFFF
  shareNext : Nat := 0xFFFF
  jquota  : Nat := 256
  jquotaNext : Nat := 256
  vecBase : Nat := 0
  vecCount : Nat := 0
  pset    : List (Nat × Word) := []
  psetNext : List (Nat × Word) := []
  /-- FREEZE written, waiting for the frame boundary (R337). -/
  freezing : Bool := false
  /-- MSI-X: function mask, vectors whose mask bit has been cleared (the table resets masked), PBA bits (R341). -/
  maskAll : Bool := false
  unmasked : List Nat := []
  pba     : List Nat := []
  deriving DecidableEq, Repr

/-- The PCI Express endpoint and VFM page beyond their registers. -/
structure Pci where
  fn      : List (Nat × Fn) := []
  qp      : List (Nat × Qp) := []
  dlUp    : Bool := false
  gen     : Nat := 0
  width   : Nat := 0
  numVfs  : Nat := 0
  vfEnable : Bool := false
  ari     : Bool := false
  /-- MBX_STS: BUSY, DONE, LOST (R321); MBX_CTL: IE and VEC. -/
  busy    : Bool := false
  done    : Bool := false
  lost    : Bool := false
  mbxIe   : Bool := false
  mbxVec  : Nat := 0
  /-- A COMMIT waits for a boundary (R331). -/
  commit  : Bool := false
  /-- Next queue pair of the round robin (R326). -/
  robin   : Nat := 0
  exportId : Nat := 0
  /-- Last EXPORT_ID imported per source (R340). -/
  imports : List (Nat × Nat) := []
  /-- Upward or verdict completions discarded by a link down count here through CNT. -/
  crs     : Bool := false
  deriving DecidableEq, Repr

/-- Keystone state beyond its registers (R385-R399). Stage 0 ROM, 1 firmware, 2 RECOVERY, 3 FAIL, 4 STOPPED. -/
structure Kst where
  stage   : Nat := 0
  twin    : Bool := false
  trngOk  : Bool := false
  newSeal : Bool := false
  /-- Time of the last watchdog kick. -/
  kick    : Nat := 0
  /-- Main image in SRAM: VERSION. -/
  version : Nat := 0
  /-- Wall time at which a drained device reset takes effect (R388). -/
  resetAt : Option Nat := none
  /-- The high-water record counted as lost at power-up (R233). -/
  hwLost  : Bool := false
  /-- The first configuration record that does not authenticate as flash gives it, and SERVE held for one (R394). -/
  recBad  : Option Nat := none
  cfgFail : Bool := false
  deriving DecidableEq, Repr

/-- A link frame a sender keeps for resending (R398), with the stroke at which it was sent. -/
structure Kept where
  epoch  : Nat
  fcnt   : Nat
  typ    : Nat
  route  : Nat
  words  : List TWord
  stroke : Nat
  deriving DecidableEq, Repr

/-- One direction of the joint (R397, R398). -/
structure JDir where
  /-- Sender: epoch, counter of the next frame, counter of the last frame sent, a REKEY not yet taken, the last 64 frames. -/
  epoch  : Nat := 0
  next   : Nat := 0
  sent   : Nat := 0
  rekey  : Bool := false
  kept   : List Kept := []
  /-- Frames sent in an epoch that has ended. -/
  ended  : List (Nat × Nat) := []
  /-- Receiver: epoch and counter expected next, and the counter last accepted. -/
  exEp   : Nat := 0
  exFc   : Nat := 0
  got    : Nat := 0
  deriving DecidableEq, Repr

/-- A link frame as its receiver reads it: the header, the opened payload, and whether its tag verifies (R397, R398). -/
structure LinkFrame where
  typ    : Nat
  fcnt   : Nat
  epoch  : Nat
  route  : Nat
  words  : List TWord
  tagOk  : Bool
  deriving DecidableEq, Repr

/-- The joint (R397-R400): TX is the Keystone-to-Arch direction. -/
structure Jnt where
  up      : Bool := false
  keyed   : Bool := false
  root    : List Byte := []
  tx      : JDir := {}
  rx      : JDir := {}
  /-- Wall time of the last frame received by the Keystone die. -/
  lastRx  : Nat := 0
  /-- Wall times of the last frames discarded, newest first (monitor 126). -/
  lost    : List Nat := []
  deriving DecidableEq, Repr

/-- Life cycle (R401-R414). -/
structure Lcs where
  word    : BitVec 64 := 0
  tokens  : List (Nat × BitVec 64) := []
  busy    : Bool := false
  erased  : Bool := false
  result  : Nat := 0
  fails   : Nat := 0
  /-- Running transition: target word, token to program, wall time at which the reset follows. -/
  target  : Option (BitVec 64) := none
  tokTarget : Option (Nat × BitVec 64) := none
  /-- Time of the START. -/
  since   : Nat := 0
  resetAt : Option Nat := none
  /-- OTP: UID, trim and digests programmed; seed; counters; authority slots and revocations; token digests. -/
  uid     : Nat := 0
  trim    : Bool := false
  tokDigest : List (Nat × List Byte) := []
  seed    : List (Nat × Byte) := []
  counter : List (Nat × Nat) := []
  authority : List (Nat × List Byte) := []
  revoked : List Nat := []
  enrolled : Bool := false
  returnRecord : Bool := false
  scrapDone : Bool := false
  deriving DecidableEq, Repr

/-- Debug master (R410-R415). -/
structure Dbg where
  /-- OBSERVE, WRITE, HALT, KS, PROVISION, SCRAP in force by certificate. -/
  rights  : BitVec 6 := 0
  pending : Bool := false
  port    : Bool := false
  chal    : List Word := []
  cert    : List (Nat × Word) := []
  deriving DecidableEq, Repr

/-- An evidence log entry before its SEQ and CHAIN (R429). -/
structure LogEntry where
  typ    : Nat
  level  : Nat := 0
  source : Nat := 0
  time   : Nat := 0
  cnt    : Nat := 0
  valid  : Bool := false
  /-- FLAGS.ON_CELL. -/
  cell   : Bool := false
  data   : List Byte := []
  deriving DecidableEq, Repr

/-- Tamper block and evidence log beyond their registers (R416-R433). -/
structure Tmp where
  live    : BitVec 128 := 0
  /-- Channels still to test, first the one under test (R428). -/
  testing : List Nat := []
  sweep   : Bool := false
  qTamper : List LogEntry := []
  qFirm   : List LogEntry := []
  /-- Next slot (R430). -/
  next    : Nat := 0
  /-- Erase in progress: zeroisation done, and log queue still to empty (R425). -/
  erasing : Bool := false
  zeroed  : Bool := false
  deriving DecidableEq, Repr

/-- A running or suspended flash command: code, offset, SELECT or data. -/
structure FCmd where
  code : Nat
  off  : Nat
  data : List Byte := []
  deriving DecidableEq, Repr

/-- A configuration record in flash (R394): the page images of a committed REGISTER request with its digest, authenticated with GMAC
under the record key. -/
structure CfgRec where
  pages  : List (PageRef × List Byte)
  digest : List Byte
  iv     : List Byte
  tag    : List Byte
  deriving DecidableEq, Repr

/-- Flash controller beyond its registers (R434-R445). Erased bytes read 0xFF. -/
structure Flc where
  bytes  : List (Nat × Byte) := []
  /-- Words with an uncorrectable error or indeterminate content. -/
  bad    : List Nat := []
  /-- Sequence: 0 none, 1 first key, 2 unlocked, 3 code written, 4 + k PROGRAM data words written. -/
  seq    : Nat := 0
  seqAt  : Nat := 0
  seqCode : Nat := 0
  seqAddr : Nat := 0
  seqData : List Word := []
  run    : Option FCmd := none
  susp   : Option FCmd := none
  suspCount : Nat := 0
  pend   : Option FCmd := none
  done   : Bool := false
  error  : Bool := false
  code   : Nat := 0
  /-- Spares used per bank. -/
  spares0 : Nat := 0
  spares1 : Nat := 0
  swapSel : Bool := false
  swapValid : Bool := false
  swapSeq : Nat := 0
  /-- The checkpoint partition: the last high-water recorded for each partner (R232). -/
  ckpt   : List (Nat × Nat) := []
  /-- Configuration records, oldest first (R394), and the frame table and reservation list last in force on each course (R391 step 10, log
  entry 103). -/
  cfg    : List CfgRec := []
  tabs   : List (Nat × List (Nat × TwoWords) × List (Nat × TwoWords)) := []
  deriving DecidableEq, Repr

/-- A card slot (R446-R453). State codes of SSTS.STATE. -/
structure Crd where
  st     : Nat := 0
  cls    : Nat := 0
  proto  : Bool := false
  clkStop : Bool := false
  done   : Bool := false
  result : Nat := 0
  change : Bool := false
  rxlen  : Nat := 0
  atrlen : Nat := 0
  fidi   : Nat := 0x11
  div    : Nat := 15
  /-- The card's clock stop indicator; the activation runs without PPS (R448); a PPS is awaited; its TA1. -/
  canStop : Bool := false
  noPps  : Bool := false
  ppsWait : Bool := false
  ta1    : Nat := 0x11
  divFi  : Nat := 3
  /-- Guard time, WI, IFSC, BWI with CWI and the check code: TC1, TC2, TA3, TB3 and TC3 of the ATR (R447, R449). -/
  guard  : Nat := 0
  wi     : Nat := 10
  ifsc   : Nat := 32
  bwi    : Nat := 0x4D
  crc    : Bool := false
  /-- Recoveries used in the exchange (R450). -/
  tries  : Nat := 0
  /-- Time of the exchange start, or of the end of the last one (R451, R452). -/
  since  : Nat := 0
  deriving DecidableEq, Repr

/-- SD host (R455-R462). -/
structure Sdh where
  present : Bool := false
  wp      : Bool := false
  v18     : Bool := false
  mode    : Nat := 0
  busy    : Bool := false
  retain  : Bool := false
  done    : Bool := false
  change  : Bool := false
  kept    : List Byte := []
  /-- Running command word, and whether it is the rewrite of R459. -/
  cmd     : Word := 0
  rewrite : Bool := false
  inited  : Bool := false
  deriving DecidableEq, Repr

/-- Contactless reader (R463-R466) and tag island (R467-R477). -/
structure Nfc where
  /-- Reader: RSTS.STATE, TYPE, RATE, DONE, CHANGE, RESULT and RXLEN; badges that answered the last poll. -/
  st     : Nat := 0
  typ    : Bool := false
  rate   : Nat := 0
  done   : Bool := false
  change : Bool := false
  result : Nat := 0
  rxlen  : Nat := 0
  badges : Nat := 0
  rfOn   : Bool := false
  /-- Time of the last poll, and of the start of an exchange. -/
  pollAt : Nat := 0
  since  : Nat := 0
  /-- STS.EXT_FIELD, and the time at which the external field was last seen (R463). -/
  ext    : Bool := false
  extAt  : Option Nat := none
  /-- TREC_CTL.DONE, and a mailbox request for service contact not yet acknowledged (R477). -/
  trecDone : Bool := false
  contact : Bool := false
  /-- Island memory, 8 KiB non-volatile, by offset (R471): records and flags. -/
  mem    : List (Nat × Byte) := []
  /-- The system area: passwords, failure counters, QTIME, the work-in-progress byte (a record number, or 0xFF) and the torn count
  (R471, R474). -/
  pw     : List (Nat × Word) := []
  fail   : List (Nat × Nat) := []
  qtime  : Nat := 10
  wip    : Nat := 0xFF
  torn   : Nat := 0
  /-- Start of the quiet timer, while it runs (R469). -/
  quiet  : Option Nat := none
  /-- Field of an external reader; SELECTED; the number R of GET RANDOM; the password in force (R469, R472). -/
  field  : Bool := false
  selected : Bool := false
  random : Option (BitVec 16) := none
  inForce : Option Nat := none
  deriving DecidableEq, Repr

/-- Domain states with the codes of PWR.DOM_STS (R491). -/
inductive DomState where
  | off | waking | on | selfRefresh
  deriving DecidableEq, Repr

/-- Power, clocks and reset beyond their registers (R479-R493). -/
structure Pwr where
  /-- Arch domains 7-35 by number; the default is `off`. -/
  dom    : List (Nat × DomState) := []
  /-- Time since which a domain wakes, and at which it last was needed or forced on (R480). -/
  wakeAt : List (Nat × Nat) := []
  needAt : List (Nat × Nat) := []
  /-- Wall time of the warning in force. -/
  warn   : Option Nat := none
  paddle : Bool := false
  hot    : Bool := false
  refOk  : Bool := true
  strokeLock : Bool := true
  ksLock : Bool := true
  perst  : Bool := true
  /-- Courses in a course reset (R490), and the time at which each began. -/
  courseRst : List (Nat × Nat) := []
  /-- Field serial banks whose VDDIO lies outside both ranges, and banks that run at 3.3 V (R496). -/
  vioBad  : List Nat := []
  vioHigh : List Nat := []
  deriving DecidableEq, Repr

/-- Pair mode (R360-R366). Role 0 off, 1 ACTIVE, 2 STANDBY, 3 DEMOTED. -/
structure PairMode where
  role    : Nat := 0
  peer    : Bool := false
  link    : Bool := false
  eligible : Bool := false
  alone   : Bool := false
  resync  : Bool := false
  /-- Stream number of the next mark sent, and next expected. -/
  send    : Nat := 0
  expect  : Nat := 0
  kick    : Nat := 0
  /-- Marks sent and not acknowledged: number, ingress tag. -/
  unacked : List (Nat × Nat) := []
  /-- Releases waiting for an acknowledgement: egress port, tag, release stroke. -/
  held    : List (Nat × Nat × Nat) := []
  /-- Streamed command marks without a release notice: partner, sequence, tag, class. -/
  open_   : List (Nat × Nat × Nat × Nat) := []
  lastMsg : Nat := 0
  deriving DecidableEq, Repr

/-- The device. Memory bytes are keyed by physical address, with model keys at and above 2^40 for memories that have no
physical address (log entry 3). -/
structure State where
  /-- Commands waiting, first in, first out. -/
  pending : List Instr
  /-- Register cells that differ from their reset value, keyed by `regKey`. -/
  regs    : List (Nat × Word)
  /-- Holding registers of LO/HI pairs (R30). -/
  held    : List (Nat × Word)
  mem     : List Host.Cell
  /-- Type tags of memory words that are not NONE, keyed by word address. -/
  tags    : List (Nat × Nat)
  /-- Word addresses that hold an uncorrectable error (R17). -/
  badWords : List Nat
  /-- Routes of the event router (EVT.RDATA) that differ from reset. -/
  routes  : List (Nat × Word)
  /-- Pending events already delivered (R34). -/
  sent    : List Nat
  /-- Software events raised in this stroke (R35), SEVG raises under way, and SEV deliveries in flight: due stroke, course,
  tile mask, line (R93). -/
  swNow   : List Nat
  sevg    : List Nat
  sevs    : List (Nat × Nat × Nat × Nat)
  stroke  : Nat
  archOn  : Bool
  /-- Joint copy of the stroke counter: none reads all ones (R31). -/
  ksCopy  : Option Nat
  /-- Wall time in units of 1/1200 µs (a stroke at race rate). -/
  wall    : Nat
  acuBase   : List (Nat × Word)
  acuAttr   : List (Nat × Word)
  acuBaseSh : List (Nat × Word)
  acuAttrSh : List (Nat × Word)
  /-- Contexts whose region registers hold an uncorrectable error (R375). -/
  acuEcc  : List Nat
  dual    : Dual
  mort    : Mort
  cox     : List (Nat × Cox)
  /-- Admitted plans, and plan files taken in that a frame table swap will admit (R122, R124). -/
  plans   : List PlanFile
  intake  : List PlanFile
  /-- Stroke at which a combined audit last passed (R123, R359). -/
  audit   : Option Nat
  procs   : List (Nat × Proc)
  pke     : List (Nat × Pke)
  cluster : List (Nat × Cluster)
  hsh     : List (Nat × HcPair)
  cip     : List (Nat × HcPair)
  ptn     : Ptn
  tim     : Tim
  aon     : Aon
  jnl     : Jnl
  sgm     : List (Nat × SgmCh)
  /-- Movers running: west, east. -/
  moverW  : Bool
  moverE  : Bool
  eth     : List (Nat × Eth)
  fsp     : List (Nat × Fsp)
  egress  : List (Nat × List Egress)
  pci     : Pci
  kst     : Kst
  jnt     : Jnt
  lcs     : Lcs
  dbg     : Dbg
  tmp     : Tmp
  flc     : Flc
  crd     : List (Nat × Crd)
  sdh     : Sdh
  nfc     : Nfc
  pwr     : Pwr
  pairM   : PairMode
  /-- Envelopes received and not yet classified: source, queue pair, cid, ingress stroke, bytes, telemetry class and partner. -/
  ingress : List QEntry
  /-- Ingress tags released and not yet off the pins (R53). -/
  released : List Nat
  /-- Event sources whose level the router last saw at 1 (R34). -/
  evtHigh : List Nat
  /-- Stores, sends, ENDs and traps of lockstep tiles not matched yet (R102). -/
  lock : List LockItem
  /-- Pairs, as 8 x course + pair, whose lockstep compare failed (R102). -/
  lockBad : List Nat
  /-- Words of course shared memory written in the present stroke (R69). -/
  shLog : List ShWrite
  /-- Scheduled W0 words at their units, not yet treated as arrived (R172, R212). -/
  heldW0 : List HeldW0
  /-- Status words of refused commands, still to be written (R174). -/
  late : List LateStatus
  /-- Results that heats' plans read, not yet there (R45, R126). -/
  unitDue : List UnitDue
  /-- Signals of faults to courses, not yet taken up: course, pair and cause (R126, R151, R155, R188). -/
  sigs : List (Nat × Nat × Nat)
  /-- Anti-rollback floor of each class's plans (R117, R122, R393). -/
  planFloor : List (Nat × Nat)
  /-- Plans that no active table names any more, with the courses that hold their images, until no heat runs under them (R112, R125). -/
  dropping : List (PlanFile × List Nat)
  /-- Tile pairs whose whole key plane is to be wiped when no heat runs on them (R125). -/
  planWipe : List (Nat × Nat)
  /-- Count of free values drawn (the model's own field). -/
  free    : Nat
  out     : List Output
  deriving DecidableEq, Repr

/-- The processors at reset: the Cox supervisor cores and the Keystone cores run at supervisor privilege always (R66); every other
field as at processor reset (R63). -/
def coldProcs : List (Nat × Proc) := (List.range 18).map fun i => (256 + i, { super := true })

/-- The device right after reset (R488, VBAT and main power-on, before Keystone ROM runs): registers at the reset values of
their tables, memories empty, courses and units as their chapters give them. -/
def State.reset : State where
  pending := []
  regs := []
  held := []
  mem := []
  tags := []
  badWords := []
  routes := []
  sent := []
  swNow := []
  sevg := []
  sevs := []
  stroke := 0
  archOn := false
  ksCopy := none
  wall := 0
  acuBase := []
  acuAttr := []
  acuBaseSh := []
  acuAttrSh := []
  acuEcc := []
  dual := {}
  mort := {}
  cox := [(15, { role := 1 })]
  plans := []
  intake := []
  audit := none
  procs := coldProcs
  pke := []
  cluster := []
  hsh := []
  cip := []
  ptn := {}
  tim := {}
  aon := { mainPower := true, vbat := true, cause := 3 }
  jnl := {}
  sgm := []
  moverW := false
  moverE := false
  eth := []
  fsp := []
  egress := []
  pci := {}
  kst := {}
  jnt := {}
  lcs := {}
  dbg := { chal := [Config.freeWord 0, Config.freeWord 1, Config.freeWord 2, Config.freeWord 3] }
  tmp := {}
  flc := {}
  crd := []
  sdh := {}
  nfc := {}
  pwr := {}
  pairM := {}
  ingress := []
  released := []
  evtHigh := []
  lock := []
  lockBad := []
  shLog := []
  heldW0 := []
  late := []
  unitDue := []
  sigs := []
  planFloor := []
  dropping := []
  planWipe := []
  free := 4
  out := []

/-- Canonical form of a sparse map with default `d`: keys strictly rising, no entry equal to the default. -/
def Sparse.wf {α : Type} [DecidableEq α] (d : α) : List (Nat × α) → Bool
  | [] => true
  | [(_, v)] => decide (v ≠ d)
  | (k, v) :: (k', v') :: r => decide (v ≠ d) && decide (k < k') && Sparse.wf d ((k', v') :: r)

/-- Canonical form of memory: bytes with default 0, tags with default NONE (R13). -/
def Memory.wf (s : State) : Bool := Sparse.wf (0 : BitVec 8) s.mem && Sparse.wf 0 s.tags

end Sys2Proof.Machine
end

