-- ==== Sys2Proof/Machine/RegTable.lean ====
section
/-! DEFINITION. The register table of every page, field by field type, as the register tables of the spec give it
(R27, R38, R56, R137-R143, R158-R160, R195, R217, R240-R242, R289, R290, R315-R317, R342, R343, R365, R366, R383, R384,
R399, R400, R414, R415, R432, R433, R445, R461, R462, R478, R491-R493). -/

namespace Sys2Proof.Machine

/-- A register or register array of a page: offset, count and stride, and the masks of its field types (R9). -/
structure RegRow where
  off    : Nat
  n      : Nat := 1
  stride : Nat := 4
  rw     : Word := 0
  w1c    : Word := 0
  rwp    : Word := 0
  wo     : Word := 0
  sc     : Word := 0
  reset  : Word := 0
  deriving DecidableEq, Repr

end Sys2Proof.Machine

namespace Sys2Proof

/-- Block codes of R25. -/
def Block.code : Block → Nat
  | .sys => 0x0
  | .evt => 0x1
  | .pwr => 0x2
  | .clk => 0x3
  | .rst => 0x4
  | .tim => 0x5
  | .dual => 0x8
  | .acu => 0x9
  | .mort => 0xA
  | .cox => 0x10
  | .pke => 0x18
  | .hsh => 0x19
  | .cip => 0x1A
  | .ptn => 0x20
  | .sgn => 0x21
  | .jnl => 0x22
  | .sgm => 0x28
  | .eth => 0x30
  | .fsp => 0x31
  | .pci => 0x38
  | .vfm => 0x39
  | .kst => 0x40
  | .lcs => 0x41
  | .tmp => 0x42
  | .elg => 0x43
  | .flc => 0x44
  | .jnt => 0x45
  | .crd => 0x48
  | .sdh => 0x49
  | .nfc => 0x4A
  | .dbg => 0x4F

/-- Number of instances of a page (R25). -/
def Block.insts : Block → Nat
  | .sys => 1
  | .evt => 1
  | .pwr => 1
  | .clk => 1
  | .rst => 1
  | .tim => 1
  | .dual => 1
  | .acu => 64
  | .mort => 1
  | .cox => 16
  | .pke => 4
  | .hsh => 1
  | .cip => 1
  | .ptn => 1
  | .sgn => 1
  | .jnl => 1
  | .sgm => 8
  | .eth => 64
  | .fsp => 12
  | .pci => 1
  | .vfm => 1
  | .kst => 1
  | .lcs => 1
  | .tmp => 1
  | .elg => 1
  | .flc => 1
  | .jnt => 1
  | .crd => 1
  | .sdh => 1
  | .nfc => 1
  | .dbg => 1

/-- All blocks. -/
def Block.all : List Block :=
  [.sys, .evt, .pwr, .clk, .rst, .tim, .dual, .acu, .mort, .cox, .pke, .hsh, .cip, .ptn, .sgn, .jnl, .sgm, .eth, .fsp, .pci, .vfm, .kst, .lcs, .tmp, .elg, .flc, .jnt, .crd, .sdh, .nfc, .dbg]

end Sys2Proof

namespace Sys2Proof.Machine


/-- Mask of the defined STKY bits of a page (R27). -/
def stkyMask : Block → Word
  | .sys => 0x3F
  | .evt => 0x3
  | .pwr => 0x7
  | .clk => 0xF
  | .rst => 0x3
  | .tim => 0xF
  | .dual => 0xF
  | .acu => 0x7
  | .mort => 0x3F
  | .cox => 0xFFF
  | .pke => 0x7F
  | .hsh => 0x7F
  | .cip => 0x7F
  | .ptn => 0x7F
  | .sgn => 0x3
  | .jnl => 0x1F
  | .sgm => 0xFF
  | .eth => 0xFFF
  | .fsp => 0x7
  | .pci => 0x7F
  | .vfm => 0x3
  | .kst => 0x3F
  | .lcs => 0x1F
  | .tmp => 0x3F
  | .elg => 0x3F
  | .flc => 0x3FF
  | .jnt => 0x1F
  | .crd => 0x7
  | .sdh => 0x1FF
  | .nfc => 0xFF
  | .dbg => 0xF

/-- CTL bits of a page that hold a written value: ENABLE and block-defined RW bits (R27). -/
def ctlMask : Block → Word
  | .kst => 0xD
  | _ => 1

/-- PAGE_CAP of a page instance (R22, R38, R136, R157, R193, R215, R240 and the other register tables). -/
def pageCap (b : Block) (i : Nat) : Word :=
  match b with
  | .sys => 0xFE804610
  | .evt => 0x00000800
  | .pwr => 0x00000764
  | .clk => 0x00000708
  | .rst => 0x0000000C
  | .tim => 0x00000001
  | .dual => 0x00001044
  | .acu => if i < 16 then 0x00005003 else if i = 59 then 0x00001080 else if i = 60 then 0x00001001 else 0x00003001
  | .mort => 0x00668F24
  | .cox => 0x00018010
  | .pke => 0x07FF0318
  | .hsh => 0x003F0420
  | .cip => 0x001F0420
  | .ptn => 0x04201000
  | .sgn => 0x00000400
  | .jnl => 0x00400000
  | .sgm => 0x00280108
  | .eth => if i < 8 then 0x00001009 else 0x0000100E
  | .fsp => 0x000001F0
  | .pci => 0x03003FD8
  | .vfm => 0x04040800
  | .kst => 0x00000303
  | .lcs => 0x00000008
  | .tmp => 0x00040480
  | .elg => 0x01008000
  | .flc => 0x00100102
  | .jnt => 0x00000140
  | .crd => 0x000000FC
  | .sdh => 0x00006807
  | .nfc => 0x00037807
  | .dbg => 0x00000600

/-- EVT_BASE.BASE of a page instance (R37 and the block chapters). -/
def evtBase (b : Block) (i : Nat) : Nat :=
  match b with
  | .sys => 0
  | .evt => 8
  | .pwr => 16
  | .clk => 24
  | .rst => 32
  | .tim => 48
  | .dual => 52
  | .acu => 1696 + i
  | .mort => 56
  | .cox => 192 + 16 * i
  | .pke => 448 + 24 * i
  | .hsh => 544
  | .cip => 576
  | .ptn => 608
  | .sgn => 624
  | .jnl => 632
  | .sgm => 672 + 8 * i
  | .eth => 736 + 8 * i
  | .fsp => 1248 + 32 * i
  | .pci => 1632
  | .vfm => 1648
  | .kst => 1760
  | .lcs => 1772
  | .tmp => 1776
  | .elg => 1780
  | .flc => 1784
  | .jnt => 1768
  | .crd => 1824
  | .sdh => 1836
  | .nfc => 1844
  | .dbg => 60

/-- EVT_BASE.COUNT of a page. -/
def evtCount : Block → Nat
  | .sys => 8
  | .evt => 8
  | .pwr => 8
  | .clk => 8
  | .rst => 8
  | .tim => 4
  | .dual => 4
  | .acu => 1
  | .mort => 4
  | .cox => 16
  | .pke => 24
  | .hsh => 32
  | .cip => 32
  | .ptn => 16
  | .sgn => 8
  | .jnl => 8
  | .sgm => 8
  | .eth => 8
  | .fsp => 32
  | .pci => 16
  | .vfm => 48
  | .kst => 8
  | .lcs => 4
  | .tmp => 4
  | .elg => 4
  | .flc => 8
  | .jnt => 4
  | .crd => 12
  | .sdh => 8
  | .nfc => 12
  | .dbg => 4

/-- Registers of the SYS page (R56/R366). -/
def sysRows : List RegRow :=
  [{ off := 0x40, rw := 0x100 },
   { off := 0x44, rwp := 0x1 },
   { off := 0x48, rwp := 0xFFF, reset := 0x3E8 },
   { off := 0x4C },
   { off := 0x50, wo := 0x1 }]

/-- Registers of the EVT page (R38). -/
def evtRows : List RegRow :=
  [{ off := 0x40, rw := 0x7FF },
   { off := 0x44, rw := 0xFFF0FFFF },
   { off := 0x48, wo := 0x7FF },
   { off := 0x100, n := 64, stride := 4, w1c := 0xFFFFFFFF },
   { off := 0x200, n := 64, stride := 4, rw := 0xFFFFFFFF, reset := 0xFFFFFFFF },
   { off := 0x300, n := 64, stride := 4 }]

/-- Registers of the PWR page (R491). -/
def pwrRows : List RegRow :=
  [{ off := 0x40, n := 3, stride := 4 },
   { off := 0x4C, n := 2, stride := 4 },
   { off := 0x54, rw := 0xCFFFFF80, reset := 0xCFFFFF80 },
   { off := 0x58, rw := 0x7, reset := 0x7 },
   { off := 0x5C, rw := 0xFFFFFFFF },
   { off := 0x60, rw := 0xF },
   { off := 0x64, rw := 0x3F, sc := 0x40 },
   { off := 0x68, rw := 0xFFFF, reset := 0x3E8 },
   { off := 0x6C }]

/-- Registers of the CLK page (R492). -/
def clkRows : List RegRow :=
  [{ off := 0x40, rwp := 0x1 },
   { off := 0x44, rw := 0xFFFF01, reset := 0x5F6401 },
   { off := 0x50, n := 9, stride := 4 }]

/-- Registers of the RST page (R493). -/
def rstRows : List RegRow :=
  [{ off := 0x40 },
   { off := 0x44, wo := 0x1 },
   { off := 0x48, rw := 0xF00, sc := 0x7 }]

/-- Registers of the TIM page (R242). -/
def timRows : List RegRow :=
  [{ off := 0x40 },
   { off := 0x44 },
   { off := 0x48, rw := 0x1FFFF, reset := 0xE10 },
   { off := 0x4C, rw := 0xFFFFF, reset := 0x3E8 },
   { off := 0x50, wo := 0xFFFFFFFF },
   { off := 0x54, rwp := 0xFFFFFFFF },
   { off := 0x58, rwp := 0xFFFFFFFF },
   { off := 0x5C, rw := 0xFFFFFFFF },
   { off := 0x60, rw := 0xFFFFFFFF },
   { off := 0x64 },
   { off := 0x68 }]

/-- Registers of the DUAL page (R384). -/
def dualRows : List RegRow :=
  [{ off := 0x40, rwp := 0x1F, reset := 0xF },
   { off := 0x44, rw := 0xFFFFFFFF },
   { off := 0x48, rw := 0xFFFFFFFF },
   { off := 0x4C, rw := 0x3 },
   { off := 0x50, rw := 0x1FC, sc := 0x3 },
   { off := 0x54 },
   { off := 0x58, n := 8, stride := 4, rw := 0xFFFFFFFF },
   { off := 0x80, n := 4, stride := 4 },
   { off := 0x90, n := 12, stride := 4 },
   { off := 0xC0, n := 12, stride := 4, rw := 0xFFFFFFFF },
   { off := 0xF0, rw := 0xFFFFFFFF },
   { off := 0xF4, rw := 0xFFFFFFFF },
   { off := 0xF8, rw := 0xF, sc := 0x10 },
   { off := 0xFC, rw := 0x3, sc := 0x4 },
   { off := 0x100, n := 4, stride := 4 },
   { off := 0x110, n := 4, stride := 4 }]

/-- Registers of the ACU page (R383). -/
def acuRows : List RegRow :=
  [{ off := 0x40, rw := 0x7F },
   { off := 0x44 },
   { off := 0x48 },
   { off := 0x4C },
   { off := 0x50 },
   { off := 0x54 },
   { off := 0x58 },
   { off := 0x5C, wo := 0x1 },
   { off := 0x100, n := 16, stride := 8, rwp := 0xFFFFFFFF },
   { off := 0x104, n := 16, stride := 8, rwp := 0xFF07FF }]

/-- Registers of the MORT page (R158). -/
def mortRows : List RegRow :=
  [{ off := 0x40, rw := 0x7F },
   { off := 0x44 },
   { off := 0x48, sc := 0x1 },
   { off := 0x50, n := 3, stride := 4, rwp := 0xFFFFFFFF },
   { off := 0x5C, rwp := 0xFFFFFF },
   { off := 0x60 },
   { off := 0x70, rw := 0xFFFF },
   { off := 0x74, rw := 0xFFFFFFFF },
   { off := 0x78, rw := 0xFFFFFFFF }]

/-- Registers of the COX page (R137). -/
def coxRows : List RegRow :=
  [{ off := 0x40, rwp := 0x3 },
   { off := 0x44, rwp := 0x1 },
   { off := 0x48, rw := 0x7FF },
   { off := 0x4C, rw := 0xFFFFFFFF },
   { off := 0x50, rw := 0xFFFFFFFF },
   { off := 0x54, rw := 0xFFFF0001 },
   { off := 0x58 },
   { off := 0x5C },
   { off := 0x60 },
   { off := 0x64, rwp := 0x3FF },
   { off := 0x68, rwp := 0x1FF },
   { off := 0x6C, rw := 0x8F, sc := 0x10 },
   { off := 0x70 },
   { off := 0x74, rw := 0x7FFFF }]

/-- Registers of the PKE page (R195). -/
def pkeRows : List RegRow :=
  [{ off := 0x40, n := 2, stride := 4 },
   { off := 0x48, rw := 0xFFF },
   { off := 0x4C, rwp := 0xFFF },
   { off := 0x50, wo := 0xF },
   { off := 0x54, rw := 0xF, sc := 0x10 },
   { off := 0x58, wo := 0xFFF },
   { off := 0x5C, wo := 0xFF03 },
   { off := 0x60, rw := 0xFFF },
   { off := 0x64, wo := 0xFFFFFFFF },
   { off := 0x68 },
   { off := 0x6C, wo := 0x1 },
   { off := 0x70 },
   { off := 0x80, n := 12, stride := 4, wo := 0xFFFFFFFF },
   { off := 0xB0 },
   { off := 0xB4 },
   { off := 0xB8 },
   { off := 0xBC }]

/-- Registers of the HSH page (R217). -/
def hshRows : List RegRow :=
  [{ off := 0x40, n := 2, stride := 4 },
   { off := 0x48, rw := 0xFFFF },
   { off := 0x4C, rwp := 0xFFFF },
   { off := 0x50, wo := 0xF },
   { off := 0x54, rw := 0xF, sc := 0x10 },
   { off := 0x58, wo := 0xFFFF },
   { off := 0x5C },
   { off := 0x60 },
   { off := 0x64 },
   { off := 0x68, rw := 0xFFFFFFFF },
   { off := 0x6C, rw := 0xFFFFFFFF },
   { off := 0x70 }]

/-- Registers of the CIP page (R217). -/
def cipRows : List RegRow :=
  [{ off := 0x40, n := 2, stride := 4 },
   { off := 0x48, rw := 0xFFFF },
   { off := 0x4C, rwp := 0xFFFF },
   { off := 0x50, wo := 0xF },
   { off := 0x54, rw := 0xF, sc := 0x10 },
   { off := 0x58, wo := 0xFFFF },
   { off := 0x5C },
   { off := 0x60 },
   { off := 0x64 },
   { off := 0x68, rw := 0xFFFFFFFF },
   { off := 0x6C, rw := 0xFFFFFFFF },
   { off := 0x70 }]

/-- Registers of the PTN page (R240). -/
def ptnRows : List RegRow :=
  [{ off := 0x40, rw := 0xFFFF, sc := 0x10000 },
   { off := 0x44, w1c := 0x2 },
   { off := 0x48, rw := 0xFFFFFFFF },
   { off := 0x4C, rw := 0xFFFFFFFF },
   { off := 0x50, rw := 0xFFFFFFFF },
   { off := 0x54, rw := 0xFFFFFFFF },
   { off := 0x58 },
   { off := 0x5C },
   { off := 0x60 },
   { off := 0x64, sc := 0x1 },
   { off := 0x68 }]

/-- Registers of the SGN page (R241). -/
def sgnRows : List RegRow :=
  [{ off := 0x40, rw := 0x1FFF, sc := 0x10000 },
   { off := 0x44, w1c := 0x2 }]

/-- Registers of the JNL page (R317). -/
def jnlRows : List RegRow :=
  [{ off := 0x40, rw := 0x1 },
   { off := 0x44, rw := 0xFFFFFFFF },
   { off := 0x48, rw := 0xFFFFFFFF },
   { off := 0x50, n := 12, stride := 4, wo := 0xFFFFFFFF },
   { off := 0x80 },
   { off := 0x84 },
   { off := 0x88, rw := 0xFFFFFFFF },
   { off := 0x8C, rw := 0xFFFFFFFF },
   { off := 0x90, n := 12, stride := 4 },
   { off := 0xC0 },
   { off := 0xC4 }]

/-- Registers of the SGM page (R315). -/
def sgmRows : List RegRow :=
  [{ off := 0x40, rwp := 0x1 },
   { off := 0x44, sc := 0x1 },
   { off := 0x48 },
   { off := 0x4C },
   { off := 0x50 },
   { off := 0x54 },
   { off := 0x58 },
   { off := 0x80, n := 8, stride := 4, rwp := 0x1FFFFFFF },
   { off := 0xA0, rw := 0xFFFFFFFF },
   { off := 0xA4, rw := 0xFFFFFFFF },
   { off := 0xA8, rw := 0xFFFFFFFF },
   { off := 0xAC, rw := 0xFFFFFFFF },
   { off := 0xB0, rw := 0xFFFFFF },
   { off := 0xB4, w1c := 0x2, sc := 0x1 }]

/-- Registers of the ETH page (R289). -/
def ethRows : List RegRow :=
  [{ off := 0x40, rw := 0x7FFFF },
   { off := 0x44, rw := 0xFFFFFFFF },
   { off := 0x48, rw := 0xFFFF },
   { off := 0x4C, rw := 0x7FFF },
   { off := 0x50, n := 8, stride := 4, rw := 0x1FFF },
   { off := 0x70, rw := 0xFFFFFFFF },
   { off := 0x74, rw := 0xFFFF },
   { off := 0x78, rw := 0xFFBF },
   { off := 0x7C, rw := 0xFFFFFFFF },
   { off := 0x80, rw := 0xFFFF },
   { off := 0x84, rw := 0xFFFFFFFF },
   { off := 0x88, rw := 0xFFFF },
   { off := 0x90, n := 8, stride := 8, rw := 0xFFFFFFFF },
   { off := 0x94, n := 8, stride := 8, rw := 0x1FFFF },
   { off := 0xD0, rw := 0xFF },
   { off := 0xD4, rw := 0xFFFFFFFF },
   { off := 0xD8, rw := 0x3FFFFFFF },
   { off := 0xDC, rw := 0xFFFFFFFF },
   { off := 0xE0, rw := 0xFFFF },
   { off := 0xE4 }] ++
  [{ off := 0xE8 },
   { off := 0xEC },
   { off := 0x100 },
   { off := 0x104, wo := 0x1 },
   { off := 0x108, rw := 0xFF, sc := 0x100 },
   { off := 0x10C },
   { off := 0x110 },
   { off := 0x400, n := 256, stride := 4 },
   { off := 0x800, n := 64, stride := 4, rw := 0xFFFFFFFF }]

/-- Registers of the FSP page (R290). -/
def fspRows : List RegRow :=
  [{ off := 0x40 },
   { off := 0x100, n := 16, stride := 64, rw := 0x3FFFFF, reset := 0x2 },
   { off := 0x104, n := 16, stride := 64, rw := 0x7FFFFF, reset := 0x30D4 },
   { off := 0x108, n := 16, stride := 64, rw := 0xFFFF },
   { off := 0x10C, n := 16, stride := 64, rw := 0xFFFFFF, reset := 0x3 },
   { off := 0x110, n := 16, stride := 64, rw := 0x1FFFFF, reset := 0xC83 },
   { off := 0x114, n := 16, stride := 64, rw := 0xFFBF },
   { off := 0x118, n := 16, stride := 64 },
   { off := 0x11C, n := 16, stride := 64, w1c := 0x7FF },
   { off := 0x120, n := 16, stride := 64, rw := 0x7FF },
   { off := 0x124, n := 16, stride := 64 },
   { off := 0x128, n := 16, stride := 64 },
   { off := 0x12C, n := 16, stride := 64 },
   { off := 0x130, n := 16, stride := 64 }]

/-- Registers of the PCI page (R342). -/
def pciRows : List RegRow :=
  [{ off := 0x40, reset := 0x90160000 },
   { off := 0x44, wo := 0x2 },
   { off := 0x48, rw := 0x7, reset := 0x5 },
   { off := 0x4C },
   { off := 0x400, n := 256, stride := 4 },
   { off := 0x800, n := 256, stride := 4, rw := 0xFFFFFFFF }]

/-- Registers of the VFM page (R343). -/
def vfmRows : List RegRow :=
  [{ off := 0x40, rw := 0x7F },
   { off := 0x44, rw := 0x10 },
   { off := 0x48, wo := 0x7 },
   { off := 0x4C, rw := 0x7F },
   { off := 0x50, rw := 0x1FFFFFFF, reset := 0x100FFFF },
   { off := 0x54, rw := 0x7FFFF },
   { off := 0x58, sc := 0x1 },
   { off := 0x5C, rw := 0x7F },
   { off := 0x60, rw := 0xFFFFFFFF },
   { off := 0x64 }]

/-- Registers of the KST page (R399). -/
def kstRows : List RegRow :=
  [{ off := 0x40, rw := 0x1FFFFF },
   { off := 0x44 },
   { off := 0x48 },
   { off := 0x4C },
   { off := 0x50 },
   { off := 0x54, rw := 0x1FFFF, reset := 0x3E8 },
   { off := 0x58, wo := 0x1 }]

/-- Registers of the LCS page (R414). -/
def lcsRows : List RegRow :=
  [{ off := 0x40 },
   { off := 0x44 },
   { off := 0x48 },
   { off := 0x4C, rw := 0xF, sc := 0x10 },
   { off := 0x50, n := 4, stride := 4, wo := 0xFFFFFFFF }]

/-- Registers of the TMP page (R432). -/
def tmpRows : List RegRow :=
  [{ off := 0x40, n := 4, stride := 4, w1c := 0xFFFFFFFF },
   { off := 0x50, n := 4, stride := 4 },
   { off := 0x60, n := 3, stride := 4, rwp := 0xFFFFFFFF, reset := 0xFFFFFFFF },
   { off := 0x6C, rwp := 0xFFFFFFFF, reset := 0xE1FFFFFF },
   { off := 0x70, rwp := 0xFFFFFFFF, reset := 0x55555555 },
   { off := 0x74, rwp := 0xFFFFFFFF, reset := 0xAA555555 },
   { off := 0x78, n := 5, stride := 4, rwp := 0xFFFFFFFF, reset := 0xAAAAAAAA },
   { off := 0x8C, rwp := 0xFFFFFFFF, reset := 0x2003FFAA },
   { off := 0x90, rw := 0x7F, sc := 0x180 },
   { off := 0x94, n := 4, stride := 4, w1c := 0xFFFFFFFF },
   { off := 0xA4, wo := 0x1 },
   { off := 0xA8 },
   { off := 0xAC, rwp := 0x55 },
   { off := 0xB0 },
   { off := 0xB4, wo := 0x1 },
   { off := 0x400, n := 256, stride := 4 }]

/-- Registers of the ELG page (R433). -/
def elgRows : List RegRow :=
  [{ off := 0x40 },
   { off := 0x44, rw := 0xFFFF00FF },
   { off := 0x48, n := 6, stride := 4, rw := 0xFFFFFFFF },
   { off := 0x60, n := 2, stride := 4, rw := 0xFFFFFFFF },
   { off := 0x68, sc := 0x1 },
   { off := 0x70, n := 4, stride := 4 },
   { off := 0x80 }]

/-- Registers of the FLC page (R445). -/
def flcRows : List RegRow :=
  [{ off := 0x40, wo := 0xFFFF },
   { off := 0x44, wo := 0xF },
   { off := 0x48, rw := 0x1FFFFFF },
   { off := 0x4C, n := 8, stride := 4, wo := 0xFFFFFFFF },
   { off := 0x6C, rw := 0x3F, reset := 0x18 },
   { off := 0x70 },
   { off := 0x74 },
   { off := 0x78 },
   { off := 0x7C },
   { off := 0x80, w1c := 0x80000000 }]

/-- Registers of the JNT page (R400). -/
def jntRows : List RegRow :=
  [{ off := 0x40 },
   { off := 0x44 },
   { off := 0x48 },
   { off := 0x4C },
   { off := 0x50 }]

/-- Registers of the CRD page (R461). -/
def crdRows : List RegRow :=
  [{ off := 0x100, n := 4, stride := 64, rw := 0xFFFF01FF, reset := 0x7530001F },
   { off := 0x104, n := 4, stride := 64, rw := 0x1FF0, sc := 0x7 },
   { off := 0x108, n := 4, stride := 64, w1c := 0x1080 },
   { off := 0x10C, n := 4, stride := 64, reset := 0xF11 },
   { off := 0x110, n := 4, stride := 64, w1c := 0xF },
   { off := 0x400, n := 768, stride := 4, rw := 0xFFFFFFFF }]

/-- Registers of the SDH page (R462). -/
def sdhRows : List RegRow :=
  [{ off := 0x40, rw := 0x73 },
   { off := 0x44, rw := 0xFFFFFFFF },
   { off := 0x48, rw := 0x7FF, sc := 0x80000000 },
   { off := 0x4C, rw := 0xFFFF },
   { off := 0x50, rw := 0xFFFFFFFF },
   { off := 0x54, n := 4, stride := 4 },
   { off := 0x64 },
   { off := 0x68 },
   { off := 0x6C, sc := 0x3 },
   { off := 0x70, sc := 0x3 }]

/-- Registers of the NFC page (R478). -/
def nfcRows : List RegRow :=
  [{ off := 0x40, rw := 0xFFFFFF1F, reset := 0x7530191E },
   { off := 0x44, rw := 0x1FF0, sc := 0x7 },
   { off := 0x48, w1c := 0x840 },
   { off := 0x4C, n := 3, stride := 4 },
   { off := 0x60, rw := 0x7F },
   { off := 0x64, w1c := 0x8, wo := 0x10, sc := 0x3 },
   { off := 0x68, n := 8, stride := 4, rw := 0xFFFFFFFF },
   { off := 0x88, rw := 0x3 },
   { off := 0x8C, wo := 0xFFFFFFFF },
   { off := 0x90, sc := 0x3 },
   { off := 0x94 },
   { off := 0x98, rw := 0x3F, reset := 0xA },
   { off := 0x400, n := 80, stride := 4, rw := 0xFFFFFFFF },
   { off := 0x540, n := 80, stride := 4 }]

/-- Registers of the DBG page (R415). -/
def dbgRows : List RegRow :=
  [{ off := 0x40, n := 4, stride := 4 },
   { off := 0x50, sc := 0x1 },
   { off := 0x54, rw := 0x13F },
   { off := 0x58, rw := 0x1FF, sc := 0xE00 },
   { off := 0x60, rw := 0x7FF },
   { off := 0x64, wo := 0xFFFFFFFF }]

/-- The register rows of a page. -/
def regRows : Block → List RegRow
  | .sys => sysRows
  | .evt => evtRows
  | .pwr => pwrRows
  | .clk => clkRows
  | .rst => rstRows
  | .tim => timRows
  | .dual => dualRows
  | .acu => acuRows
  | .mort => mortRows
  | .cox => coxRows
  | .pke => pkeRows
  | .hsh => hshRows
  | .cip => cipRows
  | .ptn => ptnRows
  | .sgn => sgnRows
  | .jnl => jnlRows
  | .sgm => sgmRows
  | .eth => ethRows
  | .fsp => fspRows
  | .pci => pciRows
  | .vfm => vfmRows
  | .kst => kstRows
  | .lcs => lcsRows
  | .tmp => tmpRows
  | .elg => elgRows
  | .flc => flcRows
  | .jnt => jntRows
  | .crd => crdRows
  | .sdh => sdhRows
  | .nfc => nfcRows
  | .dbg => dbgRows

/-! Register offsets, named as the spec names the registers. -/

/-- SYS.SVC. -/
abbrev Off.SYS_SVC : Nat := 0x40
/-- SYS.SVC_HOLD. -/
abbrev Off.SYS_SVC_HOLD : Nat := 0x44
/-- SYS.PAIR_CFG. -/
abbrev Off.SYS_PAIR_CFG : Nat := 0x48
/-- SYS.PAIR_STS. -/
abbrev Off.SYS_PAIR_STS : Nat := 0x4C
/-- SYS.PAIR_KICK. -/
abbrev Off.SYS_PAIR_KICK : Nat := 0x50
/-- EVT.RSEL. -/
abbrev Off.EVT_RSEL : Nat := 0x40
/-- EVT.RDATA. -/
abbrev Off.EVT_RDATA : Nat := 0x44
/-- EVT.SWSET. -/
abbrev Off.EVT_SWSET : Nat := 0x48
/-- EVT.PEND (first of 64). -/
abbrev Off.EVT_PEND : Nat := 0x100
/-- EVT.MASK (first of 64). -/
abbrev Off.EVT_MASK : Nat := 0x200
/-- EVT.RAW (first of 64). -/
abbrev Off.EVT_RAW : Nat := 0x300
/-- PWR.DOM_STS (first of 3). -/
abbrev Off.PWR_DOM_STS : Nat := 0x40
/-- PWR.NEED (first of 2). -/
abbrev Off.PWR_NEED : Nat := 0x4C
/-- PWR.AUTO_0. -/
abbrev Off.PWR_AUTO_0 : Nat := 0x54
/-- PWR.AUTO_1. -/
abbrev Off.PWR_AUTO_1 : Nat := 0x58
/-- PWR.FORCE_0. -/
abbrev Off.PWR_FORCE_0 : Nat := 0x5C
/-- PWR.FORCE_1. -/
abbrev Off.PWR_FORCE_1 : Nat := 0x60
/-- PWR.OFF_REQ. -/
abbrev Off.PWR_OFF_REQ : Nat := 0x64
/-- PWR.IDLE_HOLD. -/
abbrev Off.PWR_IDLE_HOLD : Nat := 0x68
/-- PWR.WAKE_CNT. -/
abbrev Off.PWR_WAKE_CNT : Nat := 0x6C
/-- CLK.RATE. -/
abbrev Off.CLK_RATE : Nat := 0x40
/-- CLK.THERMAL. -/
abbrev Off.CLK_THERMAL : Nat := 0x44
/-- CLK.RUN (first of 9). -/
abbrev Off.CLK_RUN : Nat := 0x50
/-- RST.CAUSE. -/
abbrev Off.RST_CAUSE : Nat := 0x40
/-- RST.CAUSE_CLR. -/
abbrev Off.RST_CAUSE_CLR : Nat := 0x44
/-- RST.REQ. -/
abbrev Off.RST_REQ : Nat := 0x48
/-- TIM.NOW_LO. -/
abbrev Off.TIM_NOW_LO : Nat := 0x40
/-- TIM.NOW_HI. -/
abbrev Off.TIM_NOW_HI : Nat := 0x44
/-- TIM.HOLDOVER. -/
abbrev Off.TIM_HOLDOVER : Nat := 0x48
/-- TIM.STEP_MAX. -/
abbrev Off.TIM_STEP_MAX : Nat := 0x4C
/-- TIM.ADJ. -/
abbrev Off.TIM_ADJ : Nat := 0x50
/-- TIM.STEP_LO. -/
abbrev Off.TIM_STEP_LO : Nat := 0x54
/-- TIM.STEP_HI. -/
abbrev Off.TIM_STEP_HI : Nat := 0x58
/-- TIM.PTP_SEL_0. -/
abbrev Off.TIM_PTP_SEL_0 : Nat := 0x5C
/-- TIM.PTP_SEL_1. -/
abbrev Off.TIM_PTP_SEL_1 : Nat := 0x60
/-- TIM.SHUT_LO. -/
abbrev Off.TIM_SHUT_LO : Nat := 0x64
/-- TIM.SHUT_HI. -/
abbrev Off.TIM_SHUT_HI : Nat := 0x68
/-- DUAL.RULE. -/
abbrev Off.DUAL_RULE : Nat := 0x40
/-- DUAL.EPOCH_LO. -/
abbrev Off.DUAL_EPOCH_LO : Nat := 0x44
/-- DUAL.EPOCH_HI. -/
abbrev Off.DUAL_EPOCH_HI : Nat := 0x48
/-- DUAL.REQ_SEL. -/
abbrev Off.DUAL_REQ_SEL : Nat := 0x4C
/-- DUAL.REQ_CTL. -/
abbrev Off.DUAL_REQ_CTL : Nat := 0x50
/-- DUAL.REQ_STS. -/
abbrev Off.DUAL_REQ_STS : Nat := 0x54
/-- DUAL.PAGE (first of 8). -/
abbrev Off.DUAL_PAGE : Nat := 0x58
/-- DUAL.NONCE (first of 4). -/
abbrev Off.DUAL_NONCE : Nat := 0x80
/-- DUAL.DIGEST (first of 12). -/
abbrev Off.DUAL_DIGEST : Nat := 0x90
/-- DUAL.OPDIG (first of 12). -/
abbrev Off.DUAL_OPDIG : Nat := 0xC0
/-- DUAL.APP_ID. -/
abbrev Off.DUAL_APP_ID : Nat := 0xF0
/-- DUAL.APP_SERIAL. -/
abbrev Off.DUAL_APP_SERIAL : Nat := 0xF4
/-- DUAL.APP_CTL. -/
abbrev Off.DUAL_APP_CTL : Nat := 0xF8
/-- DUAL.COMMIT. -/
abbrev Off.DUAL_COMMIT : Nat := 0xFC
/-- DUAL.APP_STS (first of 4). -/
abbrev Off.DUAL_APP_STS : Nat := 0x100
/-- DUAL.APP_WHO (first of 4). -/
abbrev Off.DUAL_APP_WHO : Nat := 0x110
/-- ACU.CTX_SEL. -/
abbrev Off.ACU_CTX_SEL : Nat := 0x40
/-- ACU.VIOL_INFO. -/
abbrev Off.ACU_VIOL_INFO : Nat := 0x44
/-- ACU.VIOL_ADDR_LO. -/
abbrev Off.ACU_VIOL_ADDR_LO : Nat := 0x48
/-- ACU.VIOL_ADDR_HI. -/
abbrev Off.ACU_VIOL_ADDR_HI : Nat := 0x4C
/-- ACU.VIOL_TIME_LO. -/
abbrev Off.ACU_VIOL_TIME_LO : Nat := 0x50
/-- ACU.VIOL_TIME_HI. -/
abbrev Off.ACU_VIOL_TIME_HI : Nat := 0x54
/-- ACU.VIOL_CNT. -/
abbrev Off.ACU_VIOL_CNT : Nat := 0x58
/-- ACU.VIOL_CLR. -/
abbrev Off.ACU_VIOL_CLR : Nat := 0x5C
/-- ACU.BASE (first of 16). -/
abbrev Off.ACU_BASE : Nat := 0x100
/-- ACU.ATTR (first of 16). -/
abbrev Off.ACU_ATTR : Nat := 0x104
/-- MORT.LINK_SEL. -/
abbrev Off.MORT_LINK_SEL : Nat := 0x40
/-- MORT.LINK_STS. -/
abbrev Off.MORT_LINK_STS : Nat := 0x44
/-- MORT.LINK_TEST. -/
abbrev Off.MORT_LINK_TEST : Nat := 0x48
/-- MORT.FENCE_0_2 (first of 3). -/
abbrev Off.MORT_FENCE_0_2 : Nat := 0x50
/-- MORT.FENCE_3. -/
abbrev Off.MORT_FENCE_3 : Nat := 0x5C
/-- MORT.FREE_WAIT. -/
abbrev Off.MORT_FREE_WAIT : Nat := 0x60
/-- MORT.RES_ADDR. -/
abbrev Off.MORT_RES_ADDR : Nat := 0x70
/-- MORT.RES_DATA0. -/
abbrev Off.MORT_RES_DATA0 : Nat := 0x74
/-- MORT.RES_DATA1. -/
abbrev Off.MORT_RES_DATA1 : Nat := 0x78
/-- COX.ROLE. -/
abbrev Off.COX_ROLE : Nat := 0x40
/-- COX.FT_SWAP. -/
abbrev Off.COX_FT_SWAP : Nat := 0x44
/-- COX.FT_ADDR. -/
abbrev Off.COX_FT_ADDR : Nat := 0x48
/-- COX.FT_DATA0. -/
abbrev Off.COX_FT_DATA0 : Nat := 0x4C
/-- COX.FT_DATA1. -/
abbrev Off.COX_FT_DATA1 : Nat := 0x50
/-- COX.FT_AUDIT. -/
abbrev Off.COX_FT_AUDIT : Nat := 0x54
/-- COX.ABORTS. -/
abbrev Off.COX_ABORTS : Nat := 0x58
/-- COX.LAST_ABORT. -/
abbrev Off.COX_LAST_ABORT : Nat := 0x5C
/-- COX.HALT. -/
abbrev Off.COX_HALT : Nat := 0x60
/-- COX.LEGACY. -/
abbrev Off.COX_LEGACY : Nat := 0x64
/-- COX.PFENCE. -/
abbrev Off.COX_PFENCE : Nat := 0x68
/-- COX.PTEST. -/
abbrev Off.COX_PTEST : Nat := 0x6C
/-- COX.REISSUE. -/
abbrev Off.COX_REISSUE : Nat := 0x70
/-- COX.SHADOW. -/
abbrev Off.COX_SHADOW : Nat := 0x74
/-- PKE.PAIR_STS (first of 2). -/
abbrev Off.PKE_PAIR_STS : Nat := 0x40
/-- PKE.OWNED. -/
abbrev Off.PKE_OWNED : Nat := 0x48
/-- PKE.FENCE. -/
abbrev Off.PKE_FENCE : Nat := 0x4C
/-- PKE.ABORT. -/
abbrev Off.PKE_ABORT : Nat := 0x50
/-- PKE.SELFTEST. -/
abbrev Off.PKE_SELFTEST : Nat := 0x54
/-- PKE.FREE_ACK. -/
abbrev Off.PKE_FREE_ACK : Nat := 0x58
/-- PKE.UC_CTL. -/
abbrev Off.PKE_UC_CTL : Nat := 0x5C
/-- PKE.UC_ADDR. -/
abbrev Off.PKE_UC_ADDR : Nat := 0x60
/-- PKE.UC_DATA. -/
abbrev Off.PKE_UC_DATA : Nat := 0x64
/-- PKE.UC_VER. -/
abbrev Off.PKE_UC_VER : Nat := 0x68
/-- PKE.DRBG_CTL. -/
abbrev Off.PKE_DRBG_CTL : Nat := 0x6C
/-- PKE.DRBG_CNT. -/
abbrev Off.PKE_DRBG_CNT : Nat := 0x70
/-- PKE.DRBG_SEED (first of 12). -/
abbrev Off.PKE_DRBG_SEED : Nat := 0x80
/-- PKE.CNT_0. -/
abbrev Off.PKE_CNT_0 : Nat := 0xB0
/-- PKE.CNT_1. -/
abbrev Off.PKE_CNT_1 : Nat := 0xB4
/-- PKE.LAST_REFUSE. -/
abbrev Off.PKE_LAST_REFUSE : Nat := 0xB8
/-- PKE.SUBST. -/
abbrev Off.PKE_SUBST : Nat := 0xBC
/-- HSH.PAIR_STS (first of 2). -/
abbrev Off.HSH_PAIR_STS : Nat := 0x40
/-- HSH.OWNED. -/
abbrev Off.HSH_OWNED : Nat := 0x48
/-- HSH.FENCE. -/
abbrev Off.HSH_FENCE : Nat := 0x4C
/-- HSH.ABORT. -/
abbrev Off.HSH_ABORT : Nat := 0x50
/-- HSH.SELFTEST. -/
abbrev Off.HSH_SELFTEST : Nat := 0x54
/-- HSH.FREE_ACK. -/
abbrev Off.HSH_FREE_ACK : Nat := 0x58
/-- HSH.CNT_0. -/
abbrev Off.HSH_CNT_0 : Nat := 0x5C
/-- HSH.CNT_1. -/
abbrev Off.HSH_CNT_1 : Nat := 0x60
/-- HSH.LAST_REFUSE. -/
abbrev Off.HSH_LAST_REFUSE : Nat := 0x64
/-- HSH.COVER_0. -/
abbrev Off.HSH_COVER_0 : Nat := 0x68
/-- HSH.COVER_1. -/
abbrev Off.HSH_COVER_1 : Nat := 0x6C
/-- HSH.SUBST. -/
abbrev Off.HSH_SUBST : Nat := 0x70
/-- CIP.PAIR_STS (first of 2). -/
abbrev Off.CIP_PAIR_STS : Nat := 0x40
/-- CIP.OWNED. -/
abbrev Off.CIP_OWNED : Nat := 0x48
/-- CIP.FENCE. -/
abbrev Off.CIP_FENCE : Nat := 0x4C
/-- CIP.ABORT. -/
abbrev Off.CIP_ABORT : Nat := 0x50
/-- CIP.SELFTEST. -/
abbrev Off.CIP_SELFTEST : Nat := 0x54
/-- CIP.FREE_ACK. -/
abbrev Off.CIP_FREE_ACK : Nat := 0x58
/-- CIP.CNT_0. -/
abbrev Off.CIP_CNT_0 : Nat := 0x5C
/-- CIP.CNT_1. -/
abbrev Off.CIP_CNT_1 : Nat := 0x60
/-- CIP.LAST_REFUSE. -/
abbrev Off.CIP_LAST_REFUSE : Nat := 0x64
/-- CIP.COVER_0. -/
abbrev Off.CIP_COVER_0 : Nat := 0x68
/-- CIP.COVER_1. -/
abbrev Off.CIP_COVER_1 : Nat := 0x6C
/-- CIP.SUBST. -/
abbrev Off.CIP_SUBST : Nat := 0x70
/-- PTN.LOAD_CMD. -/
abbrev Off.PTN_LOAD_CMD : Nat := 0x40
/-- PTN.LOAD_STS. -/
abbrev Off.PTN_LOAD_STS : Nat := 0x44
/-- PTN.LOAD_ARG_LO. -/
abbrev Off.PTN_LOAD_ARG_LO : Nat := 0x48
/-- PTN.LOAD_ARG_HI. -/
abbrev Off.PTN_LOAD_ARG_HI : Nat := 0x4C
/-- PTN.FENCE_LO. -/
abbrev Off.PTN_FENCE_LO : Nat := 0x50
/-- PTN.FENCE_HI. -/
abbrev Off.PTN_FENCE_HI : Nat := 0x54
/-- PTN.CKPT. -/
abbrev Off.PTN_CKPT : Nat := 0x58
/-- PTN.CKPT_HW_LO. -/
abbrev Off.PTN_CKPT_HW_LO : Nat := 0x5C
/-- PTN.CKPT_HW_HI. -/
abbrev Off.PTN_CKPT_HW_HI : Nat := 0x60
/-- PTN.BB_CTL. -/
abbrev Off.PTN_BB_CTL : Nat := 0x64
/-- PTN.MARK_CNT. -/
abbrev Off.PTN_MARK_CNT : Nat := 0x68
/-- SGN.LOAD_CMD. -/
abbrev Off.SGN_LOAD_CMD : Nat := 0x40
/-- SGN.LOAD_STS. -/
abbrev Off.SGN_LOAD_STS : Nat := 0x44
/-- JNL.CFG. -/
abbrev Off.JNL_CFG : Nat := 0x40
/-- JNL.RING_BASE_LO. -/
abbrev Off.JNL_RING_BASE_LO : Nat := 0x44
/-- JNL.RING_BASE_HI. -/
abbrev Off.JNL_RING_BASE_HI : Nat := 0x48
/-- JNL.GENESIS (first of 12). -/
abbrev Off.JNL_GENESIS : Nat := 0x50
/-- JNL.NEXT_LO. -/
abbrev Off.JNL_NEXT_LO : Nat := 0x80
/-- JNL.NEXT_HI. -/
abbrev Off.JNL_NEXT_HI : Nat := 0x84
/-- JNL.EXPORTED_LO. -/
abbrev Off.JNL_EXPORTED_LO : Nat := 0x88
/-- JNL.EXPORTED_HI. -/
abbrev Off.JNL_EXPORTED_HI : Nat := 0x8C
/-- JNL.HEAD (first of 12). -/
abbrev Off.JNL_HEAD : Nat := 0x90
/-- JNL.PENDING. -/
abbrev Off.JNL_PENDING : Nat := 0xC0
/-- JNL.LOST. -/
abbrev Off.JNL_LOST : Nat := 0xC4
/-- SGM.FENCE. -/
abbrev Off.SGM_FENCE : Nat := 0x40
/-- SGM.RETRAIN. -/
abbrev Off.SGM_RETRAIN : Nat := 0x44
/-- SGM.CORR_CNT. -/
abbrev Off.SGM_CORR_CNT : Nat := 0x48
/-- SGM.UNCORR_CNT. -/
abbrev Off.SGM_UNCORR_CNT : Nat := 0x4C
/-- SGM.FAIL_ADDR_LO. -/
abbrev Off.SGM_FAIL_ADDR_LO : Nat := 0x50
/-- SGM.FAIL_ADDR_HI. -/
abbrev Off.SGM_FAIL_ADDR_HI : Nat := 0x54
/-- SGM.RESILVER. -/
abbrev Off.SGM_RESILVER : Nat := 0x58
/-- SGM.REGION (first of 8). -/
abbrev Off.SGM_REGION : Nat := 0x80
/-- SGM.MOV_SRC_LO. -/
abbrev Off.SGM_MOV_SRC_LO : Nat := 0xA0
/-- SGM.MOV_SRC_HI. -/
abbrev Off.SGM_MOV_SRC_HI : Nat := 0xA4
/-- SGM.MOV_DST_LO. -/
abbrev Off.SGM_MOV_DST_LO : Nat := 0xA8
/-- SGM.MOV_DST_HI. -/
abbrev Off.SGM_MOV_DST_HI : Nat := 0xAC
/-- SGM.MOV_LEN. -/
abbrev Off.SGM_MOV_LEN : Nat := 0xB0
/-- SGM.MOV_CTL. -/
abbrev Off.SGM_MOV_CTL : Nat := 0xB4
/-- ETH.MODE. -/
abbrev Off.ETH_MODE : Nat := 0x40
/-- ETH.MAC_LO. -/
abbrev Off.ETH_MAC_LO : Nat := 0x44
/-- ETH.MAC_HI. -/
abbrev Off.ETH_MAC_HI : Nat := 0x48
/-- ETH.VLAN. -/
abbrev Off.ETH_VLAN : Nat := 0x4C
/-- ETH.VID (first of 8). -/
abbrev Off.ETH_VID : Nat := 0x50
/-- ETH.IPV4. -/
abbrev Off.ETH_IPV4 : Nat := 0x70
/-- ETH.UDP. -/
abbrev Off.ETH_UDP : Nat := 0x74
/-- ETH.UPLINK. -/
abbrev Off.ETH_UPLINK : Nat := 0x78
/-- ETH.UPL_MAC_LO. -/
abbrev Off.ETH_UPL_MAC_LO : Nat := 0x7C
/-- ETH.UPL_MAC_HI. -/
abbrev Off.ETH_UPL_MAC_HI : Nat := 0x80
/-- ETH.UPL_IP. -/
abbrev Off.ETH_UPL_IP : Nat := 0x84
/-- ETH.UPL_UDP. -/
abbrev Off.ETH_UPL_UDP : Nat := 0x88
/-- ETH.MCAST_LO (first of 8). -/
abbrev Off.ETH_MCAST_LO : Nat := 0x90
/-- ETH.MCAST_HI (first of 8). -/
abbrev Off.ETH_MCAST_HI : Nat := 0x94
/-- ETH.SESS_SEL. -/
abbrev Off.ETH_SESS_SEL : Nat := 0xD0
/-- ETH.SESS_DATA0. -/
abbrev Off.ETH_SESS_DATA0 : Nat := 0xD4
/-- ETH.SESS_DATA1. -/
abbrev Off.ETH_SESS_DATA1 : Nat := 0xD8
/-- ETH.SESS_DATA2. -/
abbrev Off.ETH_SESS_DATA2 : Nat := 0xDC
/-- ETH.SESS_DATA3. -/
abbrev Off.ETH_SESS_DATA3 : Nat := 0xE0
/-- ETH.DROP_LO. -/
abbrev Off.ETH_DROP_LO : Nat := 0xE4
/-- ETH.DROP_HI. -/
abbrev Off.ETH_DROP_HI : Nat := 0xE8
/-- ETH.CNT. -/
abbrev Off.ETH_CNT : Nat := 0xEC
/-- ETH.PTP_RX. -/
abbrev Off.ETH_PTP_RX : Nat := 0x100
/-- ETH.PTP_ACK. -/
abbrev Off.ETH_PTP_ACK : Nat := 0x104
/-- ETH.PTP_TX. -/
abbrev Off.ETH_PTP_TX : Nat := 0x108
/-- ETH.PTP_TS_LO. -/
abbrev Off.ETH_PTP_TS_LO : Nat := 0x10C
/-- ETH.PTP_TS_HI. -/
abbrev Off.ETH_PTP_TS_HI : Nat := 0x110
/-- ETH.PTP_RX_RING (first of 256). -/
abbrev Off.ETH_PTP_RX_RING : Nat := 0x400
/-- ETH.PTP_TX_BUF (first of 64). -/
abbrev Off.ETH_PTP_TX_BUF : Nat := 0x800
/-- FSP.BANK. -/
abbrev Off.FSP_BANK : Nat := 0x40
/-- FSP.CFG (first of 16). -/
abbrev Off.FSP_CFG : Nat := 0x100
/-- FSP.BAUD (first of 16). -/
abbrev Off.FSP_BAUD : Nat := 0x104
/-- FSP.DE (first of 16). -/
abbrev Off.FSP_DE : Nat := 0x108
/-- FSP.GAP (first of 16). -/
abbrev Off.FSP_GAP : Nat := 0x10C
/-- FSP.L101 (first of 16). -/
abbrev Off.FSP_L101 : Nat := 0x110
/-- FSP.UPLINK (first of 16). -/
abbrev Off.FSP_UPLINK : Nat := 0x114
/-- FSP.PSTS (first of 16). -/
abbrev Off.FSP_PSTS : Nat := 0x118
/-- FSP.PSTKY (first of 16). -/
abbrev Off.FSP_PSTKY : Nat := 0x11C
/-- FSP.PSTKY_EN (first of 16). -/
abbrev Off.FSP_PSTKY_EN : Nat := 0x120
/-- FSP.DROP_LO (first of 16). -/
abbrev Off.FSP_DROP_LO : Nat := 0x124
/-- FSP.DROP_HI (first of 16). -/
abbrev Off.FSP_DROP_HI : Nat := 0x128
/-- FSP.DROP_CNT (first of 16). -/
abbrev Off.FSP_DROP_CNT : Nat := 0x12C
/-- FSP.FRAMES (first of 16). -/
abbrev Off.FSP_FRAMES : Nat := 0x130
/-- PCI.IDS. -/
abbrev Off.PCI_IDS : Nat := 0x40
/-- PCI.MBX. -/
abbrev Off.PCI_MBX : Nat := 0x44
/-- PCI.TARGET. -/
abbrev Off.PCI_TARGET : Nat := 0x48
/-- PCI.CNT. -/
abbrev Off.PCI_CNT : Nat := 0x4C
/-- PCI.MBX_REQ (first of 256). -/
abbrev Off.PCI_MBX_REQ : Nat := 0x400
/-- PCI.MBX_RSP (first of 256). -/
abbrev Off.PCI_MBX_RSP : Nat := 0x800
/-- VFM.FN_SEL. -/
abbrev Off.VFM_FN_SEL : Nat := 0x40
/-- VFM.FN_STS. -/
abbrev Off.VFM_FN_STS : Nat := 0x44
/-- VFM.FN_CMD. -/
abbrev Off.VFM_FN_CMD : Nat := 0x48
/-- VFM.FN_QP. -/
abbrev Off.VFM_FN_QP : Nat := 0x4C
/-- VFM.FN_SHARE. -/
abbrev Off.VFM_FN_SHARE : Nat := 0x50
/-- VFM.FN_VEC. -/
abbrev Off.VFM_FN_VEC : Nat := 0x54
/-- VFM.COMMIT. -/
abbrev Off.VFM_COMMIT : Nat := 0x58
/-- VFM.PSET_ADDR. -/
abbrev Off.VFM_PSET_ADDR : Nat := 0x5C
/-- VFM.PSET_DATA. -/
abbrev Off.VFM_PSET_DATA : Nat := 0x60
/-- VFM.JHELD. -/
abbrev Off.VFM_JHELD : Nat := 0x64
/-- KST.XSIZE. -/
abbrev Off.KST_XSIZE : Nat := 0x40
/-- KST.TRNG. -/
abbrev Off.KST_TRNG : Nat := 0x44
/-- KST.UID_LO. -/
abbrev Off.KST_UID_LO : Nat := 0x48
/-- KST.UID_HI. -/
abbrev Off.KST_UID_HI : Nat := 0x4C
/-- KST.FW_VER. -/
abbrev Off.KST_FW_VER : Nat := 0x50
/-- KST.WDOG. -/
abbrev Off.KST_WDOG : Nat := 0x54
/-- KST.WDOG_KICK. -/
abbrev Off.KST_WDOG_KICK : Nat := 0x58
/-- LCS.LC_LO. -/
abbrev Off.LCS_LC_LO : Nat := 0x40
/-- LCS.LC_HI. -/
abbrev Off.LCS_LC_HI : Nat := 0x44
/-- LCS.TOK_STS. -/
abbrev Off.LCS_TOK_STS : Nat := 0x48
/-- LCS.CMD. -/
abbrev Off.LCS_CMD : Nat := 0x4C
/-- LCS.UNLOCK (first of 4). -/
abbrev Off.LCS_UNLOCK : Nat := 0x50
/-- TMP.ALARM (first of 4). -/
abbrev Off.TMP_ALARM : Nat := 0x40
/-- TMP.LIVE (first of 4). -/
abbrev Off.TMP_LIVE : Nat := 0x50
/-- TMP.MON_EN_0_2 (first of 3). -/
abbrev Off.TMP_MON_EN_0_2 : Nat := 0x60
/-- TMP.MON_EN_3. -/
abbrev Off.TMP_MON_EN_3 : Nat := 0x6C
/-- TMP.RESP_0. -/
abbrev Off.TMP_RESP_0 : Nat := 0x70
/-- TMP.RESP_1. -/
abbrev Off.TMP_RESP_1 : Nat := 0x74
/-- TMP.RESP_2_6 (first of 5). -/
abbrev Off.TMP_RESP_2_6 : Nat := 0x78
/-- TMP.RESP_7. -/
abbrev Off.TMP_RESP_7 : Nat := 0x8C
/-- TMP.TEST. -/
abbrev Off.TMP_TEST : Nat := 0x90
/-- TMP.TFAIL (first of 4). -/
abbrev Off.TMP_TFAIL : Nat := 0x94
/-- TMP.HOLD_REL. -/
abbrev Off.TMP_HOLD_REL : Nat := 0xA4
/-- TMP.LOCK_SERIAL. -/
abbrev Off.TMP_LOCK_SERIAL : Nat := 0xA8
/-- TMP.LOOP_CFG. -/
abbrev Off.TMP_LOOP_CFG : Nat := 0xAC
/-- TMP.RING_CNT. -/
abbrev Off.TMP_RING_CNT : Nat := 0xB0
/-- TMP.RING_CLR. -/
abbrev Off.TMP_RING_CLR : Nat := 0xB4
/-- TMP.RING (first of 256). -/
abbrev Off.TMP_RING : Nat := 0x400
/-- ELG.NEXT. -/
abbrev Off.ELG_NEXT : Nat := 0x40
/-- ELG.APPEND_0. -/
abbrev Off.ELG_APPEND_0 : Nat := 0x44
/-- ELG.APPEND_1_6 (first of 6). -/
abbrev Off.ELG_APPEND_1_6 : Nat := 0x48
/-- ELG.APPEND_7_8 (first of 2). -/
abbrev Off.ELG_APPEND_7_8 : Nat := 0x60
/-- ELG.APPEND_CTL. -/
abbrev Off.ELG_APPEND_CTL : Nat := 0x68
/-- ELG.HEAD (first of 4). -/
abbrev Off.ELG_HEAD : Nat := 0x70
/-- ELG.OVER. -/
abbrev Off.ELG_OVER : Nat := 0x80
/-- FLC.KEY. -/
abbrev Off.FLC_KEY : Nat := 0x40
/-- FLC.CMD. -/
abbrev Off.FLC_CMD : Nat := 0x44
/-- FLC.ADDR. -/
abbrev Off.FLC_ADDR : Nat := 0x48
/-- FLC.DATA (first of 8). -/
abbrev Off.FLC_DATA : Nat := 0x4C
/-- FLC.WEAR_THR. -/
abbrev Off.FLC_WEAR_THR : Nat := 0x6C
/-- FLC.WEAR_ADDR. -/
abbrev Off.FLC_WEAR_ADDR : Nat := 0x70
/-- FLC.SWAP_STS. -/
abbrev Off.FLC_SWAP_STS : Nat := 0x74
/-- FLC.SWAP_SEQ. -/
abbrev Off.FLC_SWAP_SEQ : Nat := 0x78
/-- FLC.RETIRED. -/
abbrev Off.FLC_RETIRED : Nat := 0x7C
/-- FLC.INTR. -/
abbrev Off.FLC_INTR : Nat := 0x80
/-- JNT.EPOCH_TX. -/
abbrev Off.JNT_EPOCH_TX : Nat := 0x40
/-- JNT.EPOCH_RX. -/
abbrev Off.JNT_EPOCH_RX : Nat := 0x44
/-- JNT.FCNT_TX. -/
abbrev Off.JNT_FCNT_TX : Nat := 0x48
/-- JNT.FCNT_RX. -/
abbrev Off.JNT_FCNT_RX : Nat := 0x4C
/-- JNT.CNT. -/
abbrev Off.JNT_CNT : Nat := 0x50
/-- CRD.SCFG (first of 4). -/
abbrev Off.CRD_SCFG : Nat := 0x100
/-- CRD.SCMD (first of 4). -/
abbrev Off.CRD_SCMD : Nat := 0x104
/-- CRD.SSTS (first of 4). -/
abbrev Off.CRD_SSTS : Nat := 0x108
/-- CRD.FIDI (first of 4). -/
abbrev Off.CRD_FIDI : Nat := 0x10C
/-- CRD.PSTKY (first of 4). -/
abbrev Off.CRD_PSTKY : Nat := 0x110
/-- CRD.BUFS (first of 768). -/
abbrev Off.CRD_BUFS : Nat := 0x400
/-- SDH.CFG. -/
abbrev Off.SDH_CFG : Nat := 0x40
/-- SDH.ARG. -/
abbrev Off.SDH_ARG : Nat := 0x44
/-- SDH.CMD. -/
abbrev Off.SDH_CMD : Nat := 0x48
/-- SDH.BLKCNT. -/
abbrev Off.SDH_BLKCNT : Nat := 0x4C
/-- SDH.DMA_ADDR. -/
abbrev Off.SDH_DMA_ADDR : Nat := 0x50
/-- SDH.RESP (first of 4). -/
abbrev Off.SDH_RESP : Nat := 0x54
/-- SDH.BLK_DONE. -/
abbrev Off.SDH_BLK_DONE : Nat := 0x64
/-- SDH.GONE_ADDR. -/
abbrev Off.SDH_GONE_ADDR : Nat := 0x68
/-- SDH.REWRITE. -/
abbrev Off.SDH_REWRITE : Nat := 0x6C
/-- SDH.SWITCH. -/
abbrev Off.SDH_SWITCH : Nat := 0x70
/-- NFC.RCFG. -/
abbrev Off.NFC_RCFG : Nat := 0x40
/-- NFC.RCMD. -/
abbrev Off.NFC_RCMD : Nat := 0x44
/-- NFC.RSTS. -/
abbrev Off.NFC_RSTS : Nat := 0x48
/-- NFC.RUID (first of 3). -/
abbrev Off.NFC_RUID : Nat := 0x4C
/-- NFC.TREC_SEL. -/
abbrev Off.NFC_TREC_SEL : Nat := 0x60
/-- NFC.TREC_CTL. -/
abbrev Off.NFC_TREC_CTL : Nat := 0x64
/-- NFC.TDATA (first of 8). -/
abbrev Off.NFC_TDATA : Nat := 0x68
/-- NFC.PW_SEL. -/
abbrev Off.NFC_PW_SEL : Nat := 0x88
/-- NFC.PW_VAL. -/
abbrev Off.NFC_PW_VAL : Nat := 0x8C
/-- NFC.PW_CMD. -/
abbrev Off.NFC_PW_CMD : Nat := 0x90
/-- NFC.PW_CNT. -/
abbrev Off.NFC_PW_CNT : Nat := 0x94
/-- NFC.QTIME. -/
abbrev Off.NFC_QTIME : Nat := 0x98
/-- NFC.TX_BUF (first of 80). -/
abbrev Off.NFC_TX_BUF : Nat := 0x400
/-- NFC.RX_BUF (first of 80). -/
abbrev Off.NFC_RX_BUF : Nat := 0x540
/-- DBG.CHAL (first of 4). -/
abbrev Off.DBG_CHAL : Nat := 0x40
/-- DBG.REQ. -/
abbrev Off.DBG_REQ : Nat := 0x50
/-- DBG.GRANT. -/
abbrev Off.DBG_GRANT : Nat := 0x54
/-- DBG.HALT. -/
abbrev Off.DBG_HALT : Nat := 0x58
/-- DBG.CERT_ADDR. -/
abbrev Off.DBG_CERT_ADDR : Nat := 0x60
/-- DBG.CERT_DATA. -/
abbrev Off.DBG_CERT_DATA : Nat := 0x64

end Sys2Proof.Machine
end

