-- ==== Sys2Proof/Machine/Ops.lean ====
section
/-! DEFINITION. Named operations over the state: sparse maps, registers, memory, sticky records, events, access checks. -/

namespace Sys2Proof

/-- Pages of the Keystone die, which capture the joint copy of the counter (R31). -/
def Block.onKeystone : Block → Bool
  | .kst | .lcs | .tmp | .elg | .flc | .jnt | .crd | .sdh | .nfc => true
  | _ => false

/-- Processor key of the sparse processor map. -/
def ProcId.key : ProcId → Nat
  | .tile c t => c.val * 16 + t.val
  | .cox c => 256 + c.val
  | .ks k => 272 + k.val

/-- The processor's course, for tiles and Cox supervisor cores. -/
def ProcId.course : ProcId → Nat
  | .tile c _ => c.val
  | .cox c => c.val
  | .ks _ => 0

/-- The processor is a Keystone core. -/
def ProcId.isKs : ProcId → Bool
  | .ks _ => true
  | _ => false

/-- The ACU of a master port (R144, R367). -/
def Master.acu : Master → Nat
  | .proc (.tile c _) => c.val
  | .proc (.cox c) => c.val
  | .proc (.ks _) => 63
  | .cluster k => 16 + k.val
  | .hash k => 20 + k.val
  | .cipher k => 36 + k.val
  | .partnerCache => 52
  | .signerStore => 53
  | .journal => 54
  | .linkPorts g => 55 + g.val
  | .pcie _ => 59
  | .debug => 60
  | .mover east => if east then 62 else 61

/-- MASTER field of VIOL_INFO (R383). -/
def Master.number : Master → Nat
  | .proc (.tile _ t) => t.val
  | .proc (.cox _) => 16
  | _ => 0

/-- The master is a Keystone core. -/
def Master.isKs : Master → Bool
  | .proc (.ks _) => true
  | _ => false

/-- Pages that take writes from the Keystone cores only, as a whole page (R513, R375, R414, R432, R440, R461, R462, R478,
R493, R343). -/
def Block.ksPage : Block → Bool
  | .acu | .dual | .rst | .vfm | .tmp | .lcs | .flc | .crd | .sdh | .nfc => true
  | _ => false

end Sys2Proof

namespace Sys2Proof.Machine

/-! ### Sparse maps -/

/-- Entry of a sparse map, `d` where nothing is listed. -/
def Sparse.get {α : Type} (d : α) : List (Nat × α) → Nat → α
  | [], _ => d
  | (k, v) :: r, q => if k = q then v else Sparse.get d r q

/-- Insertion at the key's place in rising order. -/
def Sparse.ins {α : Type} (q : Nat) (x : α) : List (Nat × α) → List (Nat × α)
  | [] => [(q, x)]
  | (k, v) :: r => if q < k then (q, x) :: (k, v) :: r else (k, v) :: Sparse.ins q x r

/-- Removal of a key. -/
def Sparse.del {α : Type} (q : Nat) : List (Nat × α) → List (Nat × α)
  | [] => []
  | (k, v) :: r => if k = q then Sparse.del q r else (k, v) :: Sparse.del q r

/-- Write of a sparse map: writing the default removes the entry. -/
def Sparse.set {α : Type} [DecidableEq α] (d : α) (m : List (Nat × α)) (q : Nat) (x : α) : List (Nat × α) :=
  if x = d then Sparse.del q m else Sparse.ins q x (Sparse.del q m)

/-- Update of one entry. -/
def Sparse.upd {α : Type} [DecidableEq α] (d : α) (m : List (Nat × α)) (q : Nat) (f : α → α) : List (Nat × α) :=
  Sparse.set d m q (f (Sparse.get d m q))

/-! ### Small arithmetic -/

/-- Bits [lo + w - 1 : lo] as a number (R5). -/
def fld (v : Word) (lo w : Nat) : Nat := (v.toNat >>> lo) % 2 ^ w
/-- One bit of a word. -/
def bit (v : Word) (n : Nat) : Bool := v.getLsbD n
/-- A word with one bit replaced. -/
def putBit (v : Word) (n : Nat) (b : Bool) : Word :=
  if b then v ||| ((1 : Word) <<< n) else v &&& ~~~((1 : Word) <<< n)
/-- A word with a field replaced. -/
def putFld (v : Word) (lo w x : Nat) : Word :=
  (v &&& ~~~(BitVec.ofNat 32 ((2 ^ w - 1) * 2 ^ lo))) ||| BitVec.ofNat 32 ((x % 2 ^ w) * 2 ^ lo)
/-- A number as a word. -/
def w32 (n : Nat) : Word := BitVec.ofNat 32 n
/-- A Boolean as one bit at a place. -/
def flag (b : Bool) (n : Nat) : Word := if b then (1 : Word) <<< n else 0
/-- Saturating increment (counters of the register tables). -/
def satInc (n lim : Nat) : Nat := if n < lim then n + 1 else n
/-- Little-endian bytes of a number (R6). -/
def leBytes : Nat → Nat → List Byte
  | 0, _ => []
  | n + 1, v => BitVec.ofNat 8 v :: leBytes n (v / 256)
/-- Number of a little-endian byte string. -/
def leNat : List Byte → Nat
  | [] => 0
  | b :: r => b.toNat + 256 * leNat r
/-- n bytes of a string from an offset, and the little-endian number they hold (R6). -/
def slice (b : List Byte) (o n : Nat) : List Byte := (b.drop o).take n
def natAt (b : List Byte) (o n : Nat) : Nat := leNat (slice b o n)
/-- Every byte of a range of a string is 0. -/
def zeroAt (b : List Byte) (o n : Nat) : Bool := (slice b o n).all (· == 0)
/-- Word of up to four bytes, filled from bits [7:0] upward (R62). -/
def leWord (bs : List Byte) : Word := w32 (leNat (bs.take 4))
/-- A byte string cut into words, the last one filled with zero bytes (R62). -/
def toWords : List Byte → List Word
  | [] => []
  | b0 :: [] => [leWord [b0]]
  | b0 :: b1 :: [] => [leWord [b0, b1]]
  | b0 :: b1 :: b2 :: [] => [leWord [b0, b1, b2]]
  | b0 :: b1 :: b2 :: b3 :: r => leWord [b0, b1, b2, b3] :: toWords r
/-- Round up to a multiple of 4. -/
def pad4 (n : Nat) : Nat := (n + 3) / 4 * 4

/-! ### Time -/

/-- Model time units per microsecond: one unit is one stroke at race rate (log entry 4). -/
def usUnits : Nat := 1200
/-- Wall time in whole microseconds. -/
def State.wallUs (s : State) : Nat := s.wall / usUnits
/-- Wall time in whole milliseconds. -/
def State.wallMs (s : State) : Nat := s.wall / (1000 * usUnits)
/-- Strokes of a frame (R105). -/
def frameLen : Nat := 1200000
/-- Secure time in µs (R227). -/
def State.secNow (s : State) : Nat := s.tim.now / usUnits
/-- RTC value in µs. -/
def State.rtcNow (s : State) : Nat := s.aon.rtc / usUnits
/-- Always-on cycle counter: cycles of 32.768 kHz (R416). -/
def State.aonCnt (s : State) : Nat := s.aon.cnt * 32768 / (1000000 * usUnits)

/-! ### Outputs and free values -/

/-- Record of something the device sends out. -/
def State.emit (s : State) (o : Output) : State := { s with out := s.out ++ [o] }
/-- Counter step of the free values. -/
def State.draw (s : State) : State := { s with free := s.free + 1 }
/-- The free word of the present counter. -/
def State.freeW (s : State) : Word := Config.freeWord s.free
/-- n free bytes from the present counter. -/
def State.freeBs (s : State) (n : Nat) : List Byte := (List.range n).map fun i => Config.freeByte (s.free + i)

/-! ### Registers -/

/-- Cell key of a register: block code, instance, offset. -/
def regKey (b : Block) (i off : Nat) : Nat := b.code * 2 ^ 18 + i * 2 ^ 12 + off

/-- Index of an offset within a row. -/
def RegRow.hit (r : RegRow) (off : Nat) : Bool :=
  decide (r.off ≤ off) && decide ((off - r.off) % r.stride = 0) && decide ((off - r.off) / r.stride < r.n)

/-- The table row of an offset (R26: none for an undefined offset). -/
def regRow (b : Block) (off : Nat) : Option RegRow := (regRows b).find? (·.hit off)

/-- Reset value of a register cell (R11); shadows at +0x800 have their register's value (R32). -/
def regReset (b : Block) (i off : Nat) : Word :=
  let base (o : Nat) : Word :=
    if b = .cox ∧ o = 0x040 ∧ i = 15 then 1
    else if b = .eth ∧ o = 0x040 ∧ i < 8 then 3
    else match regRow b o with
      | some r => r.reset
      | none => 0
  if off < 0x028 then 0
  else match regRow b off with
    | some _ => base off
    | none => if 0x800 ≤ off then base (off - 0x800) else 0

/-- Stored value of a register cell. -/
def State.reg (s : State) (b : Block) (i off : Nat) : Word :=
  Sparse.get (regReset b i off) s.regs (regKey b i off)
/-- Write of a register cell. -/
def State.setReg (s : State) (b : Block) (i off : Nat) (v : Word) : State :=
  { s with regs := Sparse.set (regReset b i off) s.regs (regKey b i off) v }
/-- Update of a register cell. -/
def State.updReg (s : State) (b : Block) (i off : Nat) (f : Word → Word) : State :=
  s.setReg b i off (f (s.reg b i off))
/-- Write of a 64-bit LO/HI pair. -/
def State.setReg64 (s : State) (b : Block) (i off v : Nat) : State :=
  (s.setReg b i off (w32 v)).setReg b i (off + 4) (w32 (v / 2 ^ 32))
/-- Value of a LO/HI pair. -/
def State.reg64 (s : State) (b : Block) (i off : Nat) : Nat :=
  (s.reg b i off).toNat + 2 ^ 32 * (s.reg b i (off + 4)).toNat
/-- Saturating 16-bit counter in bits [lo + 15 : lo] of a register. -/
def State.count16 (s : State) (b : Block) (i off lo : Nat) : State :=
  s.updReg b i off fun v => putFld v lo 16 (satInc (fld v lo 16) 0xFFFF)
/-- Bytes held in consecutive registers, 4 each. -/
def State.regBytes (s : State) (b : Block) (i off n : Nat) : List Byte :=
  ((List.range n).map fun k => leBytes 4 (s.reg b i (off + 4 * k)).toNat).flatten
/-- Words written into consecutive registers. -/
def State.setRegs (s : State) (b : Block) (i off : Nat) : List Word → State
  | [] => s
  | v :: r => (s.setReg b i off v).setRegs b i (off + 4) r

/-- CTL.ENABLE of a page (R27). -/
def State.enabled (s : State) (b : Block) (i : Nat) : Bool := bit (s.reg b i 0x008) 0
/-- STKY of a page. -/
def State.stky (s : State) (b : Block) (i : Nat) : Word := s.reg b i 0x010

/-- The 64-bit value a page captures as its stroke counter (R28, R31); ACU 63 captures the joint copy (R373). -/
def State.capture (s : State) (b : Block) (i : Nat) : Nat :=
  if b.onKeystone || (decide (b = .acu) && decide (i = 63)) then s.ksCopy.getD (2 ^ 64 - 1) else s.stroke

/-- Hardware sets a STKY bit, with the first-fault capture of R28: CMD_OFFSET and CMD_CODE as given. -/
def State.setSticky (s : State) (b : Block) (i n : Nat) (off code : Nat := 0) : State :=
  let old := s.reg b i 0x010
  let s1 := s.setReg b i 0x010 (putBit old n true)
  if bit old n || bit (s.reg b i 0x01C) 31 then s1
  else
    let rec_ : Word := putFld (putFld (putFld (flag true 31) 20 10 (off / 4)) 12 8 code) 0 5 n
    (s1.setReg b i 0x01C rec_).setReg64 b i 0x020 (s.capture b i)

/-- CMD_REJECT with the register's offset and the rejected value's low byte (R3, R28). -/
def State.reject (s : State) (b : Block) (i off : Nat) (v : Word) : State :=
  s.setSticky b i 0 off (fld v 0 8)

/-- A software write to STKY: clears the written bits except those hardware sets in the same stroke; VALID falls only when
no bit is left (R29). A bit that hardware takes from 0 to 1 in the stroke is captured, the lowest one, while VALID is 0 (R28). The
write does not say which register a CMD_REJECT of the stroke rejected: its offset and value are free (log entry 1). -/
def State.clearSticky (s : State) (b : Block) (i : Nat) (v hw : Word) : State :=
  let old := s.reg b i 0x010
  let new := (old &&& ~~~v) ||| (hw &&& stkyMask b)
  match (List.range 32).find? fun n => bit new n && !bit old n with
  | some n =>
    let s1 := if n = 0 then s.draw.setSticky b i n (fld s.freeW 8 12) (fld s.freeW 0 8) else s.setSticky b i n
    s1.setReg b i 0x010 new
  | none =>
    let s1 := s.setReg b i 0x010 new
    if new = 0 then s1.updReg b i 0x01C fun f => putBit f 31 false else s1

/-! ### Memory -/

/-- One byte of memory, keyed by physical address (R13: unlisted bytes read 0). -/
def State.byte (s : State) (a : Nat) : Byte := Sparse.get 0 s.mem a
/-- Tag of the word that holds an address. -/
def State.tagAt (s : State) (a : Nat) : Tag := BitVec.ofNat 4 (Sparse.get 0 s.tags (a / 4))
/-- The tagged word at a word address. -/
def State.word (s : State) (a : Nat) : TWord :=
  ⟨leWord [s.byte a, s.byte (a + 1), s.byte (a + 2), s.byte (a + 3)], s.tagAt a⟩
/-- Write of one byte, tag unchanged. -/
def State.putByte (s : State) (a : Nat) (v : Byte) : State := { s with mem := Sparse.set 0 s.mem a v }
/-- Write of consecutive bytes. -/
def State.putBytes (s : State) (a : Nat) : List Byte → State
  | [] => s
  | b :: r => (s.putByte a b).putBytes (a + 1) r
/-- Write of a tagged word; a written word holds no uncorrectable error. -/
def State.putWord (s : State) (a : Nat) (w : TWord) : State :=
  let s1 := s.putBytes a (leBytes 4 w.data.toNat)
  { s1 with tags := Sparse.set 0 s1.tags (a / 4) w.tag.toNat, badWords := s1.badWords.filter (· ≠ a / 4) }
/-- Write of consecutive tagged words. -/
def State.putWords (s : State) (a : Nat) : List TWord → State
  | [] => s
  | w :: r => (s.putWord a w).putWords (a + 4) r
/-- Bytes stored as INT words (R62). -/
def State.putInts (s : State) (a : Nat) (bs : List Byte) : State := s.putWords a ((toWords bs).map TWord.int)
/-- n words from a word address. -/
def State.words (s : State) (a n : Nat) : List TWord := (List.range n).map fun i => s.word (a + 4 * i)
/-- n bytes from an address. -/
def State.bytes (s : State) (a n : Nat) : List Byte := (List.range n).map fun i => s.byte (a + i)
/-- Every byte and tag of [a, a + n) set to NONE with data 0. -/
def State.wipe (s : State) (a n : Nat) : State :=
  { s with mem := s.mem.filter fun c => c.1 < a || a + n ≤ c.1
           tags := s.tags.filter fun c => 4 * c.1 < a || a + n ≤ 4 * c.1
           badWords := s.badWords.filter fun c => 4 * c < a || a + n ≤ 4 * c }
/-- The word at an address holds an uncorrectable error (R17). -/
def State.isBad (s : State) (a : Nat) : Bool := s.badWords.contains (a / 4)

/-! ### Address map (R67, R70, R73, R135, R144, R162, R197, R218, R237) -/

/-- Course shared memory (model key, log entry 3). -/
def sharedBase (c : Nat) : Nat := 2 ^ 40 + c * 2 ^ 20
/-- Code scratch of a tile (model key). -/
def codeBase (c t : Nat) : Nat := 2 ^ 40 + 2 ^ 28 + c * 2 ^ 20 + t * 2 ^ 16
/-- Data scratch of a tile at its physical address; the key plane is its last 8 KiB (R70). -/
def scratchBase (c t : Nat) : Nat := 0x30000000 + c * 2 ^ 20 + t * 2 ^ 16
/-- First byte of a tile's key plane (R70). -/
def planeBase (c t : Nat) : Nat := scratchBase c t + 0xE000
/-- Code and data memory of a Cox supervisor core (model keys, R135). -/
def coxCodeBase (c : Nat) : Nat := 2 ^ 40 + 2 ^ 29 + c * 2 ^ 16
def coxDataBase (c : Nat) : Nat := 2 ^ 40 + 2 ^ 29 + 2 ^ 24 + c * 2 ^ 16
/-- Operand memory of engine pair q: both engines hold the same words (R162). -/
def operandBase (q : Nat) : Nat := 0x50000000 + (2 * q) * 2 ^ 16
/-- Key port window of hash pair k or cipher pair k (R73, R197). -/
def unitBase (cipher : Bool) (k : Nat) : Nat := (if cipher then 0x52000000 else 0x51000000) + k * 2 ^ 12
/-- Context p and slot n windows (R218, R237), and their staging buffers (R235, R238). -/
def ctxBase (p : Nat) : Nat := 0x10000000 + p * 2 ^ 11
def slotBase (n : Nat) : Nat := 0x11000000 + n * 2 ^ 11
def ctxStaging : Nat := 0x10800000
def slotStaging : Nat := 0x11800000
/-- Sealed window and its copies: line data of channel ch (model key), and the sealed base (R18, R292). -/
def sealedBase : Nat := 0x1000000000
def copyBase (ch : Nat) : Nat := 2 ^ 42 + ch * 2 ^ 32
/-- Keystone SRAM and key plane (R70, R386). -/
def ksSram : Nat := 0x01000000
def ksPlane : Nat := 0x011F0000
def flashWindow : Nat := 0x02000000
/-- Register pages (R24). -/
def pageBase (pg : PageRef) : Nat :=
  0x40000000 + (pg.inst / 16) * 2 ^ 24 + pg.block.code * 2 ^ 16 + (pg.inst % 16) * 2 ^ 12

/-- The page and offset of a physical address, if it lies in a page of R25. -/
def pageOf (a : Nat) : Option (PageRef × Nat) :=
  if a < 0x40000000 ∨ 0x44000000 ≤ a then none
  else
    let d := a - 0x40000000
    let i := d / 2 ^ 24 * 16 + d / 2 ^ 12 % 16
    match Block.all.find? (fun b => decide (b.code = d / 2 ^ 16 % 256)) with
    | some b => if i < b.insts then some (⟨b, i⟩, d % 2 ^ 12) else none
    | none => none

/-! ### Flash content (R434, R435) -/

/-- A flash byte; an erased one reads 0xFF. -/
def State.flByte (s : State) (o : Nat) : Byte := Sparse.get 0xFF s.flc.bytes o
/-- Flash bytes from an offset. -/
def State.flBytes (s : State) (o n : Nat) : List Byte := (List.range n).map fun i => s.flByte (o + i)
/-- Update of the flash record. -/
def State.updFlc (s : State) (f : Flc → Flc) : State := { s with flc := f s.flc }
/-- Bytes programmed from an offset; the words hold no error. -/
def State.flPut (s : State) (o : Nat) (bs : List Byte) : State :=
  s.updFlc fun x => { x with
    bytes := (List.range bs.length).foldl (fun m i => Sparse.set 0xFF m (o + i) (bs.getD i 0)) x.bytes
    bad := x.bad.filter fun w => decide (4 * w + 3 < o) || decide (o + bs.length ≤ 4 * w) }
/-- A range erased. -/
def State.flErase (s : State) (o n : Nat) : State :=
  s.updFlc fun x => { x with ckpt := if o ≤ 0x280000 ∧ 0x380000 ≤ o + n then [] else x.ckpt
                             bytes := x.bytes.filter fun e => decide (e.1 < o) || decide (o + n ≤ e.1)
                             bad := x.bad.filter fun w => decide (4 * w < o) || decide (o + n ≤ 4 * w) }
/-- Plan files, their floors, configuration records and stored tables leave flash with the partitions that hold them (R408, R435). -/
def State.dropRecords (s : State) : State :=
  { s.updFlc fun x => { x with cfg := [], tabs := [] } with plans := [], intake := [], planFloor := [] }
/-- A range whose content is indeterminate: free bytes (log entry 1). -/
def State.flScramble (s : State) (o n : Nat) : State :=
  let t := s.flPut o (s.freeBs n)
  { t with free := t.free + n }

/-! ### Life cycle (R401, R402) -/

/-- State code of the life-cycle word and tokens: 0 BLANK ... 6 SCRAP, 15 INVALID. -/
def State.lcState (s : State) : Nat :=
  let tok := (List.range 8).map fun i => (Sparse.get (0 : BitVec 64) s.lcs.tokens i).toNat
  let okTok := tok.all fun t => t == 0 || t == 0xFFFFFFFF || t == 0xFFFFFFFFFFFFFFFF
  let opens := (tok.filter fun t => t == 0xFFFFFFFF).length
  if !okTok || decide (1 < opens) then 15
  else match s.lcs.word.toNat with
    | 0 => 0
    | 0xFFF => if opens = 1 then 2 else 1
    | 0xFFFFFF => 3
    | 0xFFFFFFFFF => 4
    | 0xFFFFFFFFFFFF => 5
    | 0xFFFFFFFFFFFFFFF => 6
    | _ => 15

/-- Rights of the debug master in force: by state without a certificate, and by grant (R410). -/
def State.dbgRights (s : State) : BitVec 6 :=
  match s.lcState with
  | 0 | 2 => 0b001111#6
  | _ => s.dbg.rights

/-! ### Access check units (R367-R375) -/

/-- The processor's record. -/
def State.proc (s : State) (p : ProcId) : Proc := Sparse.get {} s.procs p.key
/-- Write of a processor's record. -/
def State.setProc (s : State) (p : ProcId) (x : Proc) : State :=
  { s with procs := Sparse.set {} s.procs p.key x }
/-- Update of a processor's record. -/
def State.updProc (s : State) (p : ProcId) (f : Proc → Proc) : State := s.setProc p (f (s.proc p))

/-- The context that the master's identity selects (R367). -/
def State.acuCtx (s : State) : Master → Nat
  | .proc (.tile c t) =>
    let p := s.proc (.tile c t)
    if p.sched then 0 else if p.super then 2 else 1
  | .proc (.cox _) => 2
  | .pcie f => f.val
  | _ => 0

/-- The context is a user context (R367). -/
def State.acuUser (s : State) (m : Master) : Bool :=
  match m with
  | .proc (.tile _ _) => decide (s.acuCtx m ≠ 2)
  | .pcie _ | .debug => true
  | _ => false

/-- Key of a region register: ACU, context, region. -/
def acuKey (acu ctx k : Nat) : Nat := (acu * 128 + ctx) * 16 + k

/-- A region contains a byte in a sub-region that is not excluded (R369, R370). -/
def regionHit (base attr : Word) (a : Nat) : Bool :=
  let lg := fld attr 0 6
  let b := base.toNat * 256
  bit attr 6 && decide (8 ≤ lg) && decide (lg ≤ 40) && decide (b ≤ a) && decide (a < b + 2 ^ lg) &&
    !bit attr (16 + (a - b) / 2 ^ (lg - 3))

/-- The lowest-numbered enabled region that resolves a byte (R370). -/
def State.acuRegion (s : State) (acu ctx a : Nat) : Option Nat :=
  (List.range 16).find? fun k =>
    regionHit (Sparse.get 0 s.acuBase (acuKey acu ctx k)) (Sparse.get 0 s.acuAttr (acuKey acu ctx k)) a

/-- Default map of privileged contexts (R371): kind 0 read, 1 write, 2 KEY write. -/
def defaultMap (ks : Bool) (kind a : Nat) : Bool :=
  if a < 0x04000000 then ks
  else match pageOf a with
    | some (pg, _) =>
      decide (kind ≠ 2) && (ks || !(match pg.block with
        | .dual | .acu | .lcs | .dbg | .kst | .tmp | .elg | .flc | .jnt => true
        | _ => false))
    | none => if 0x40000000 ≤ a ∧ a < 0x44000000 then decide (kind ≠ 2) else true

/-- A byte lies in the LCS page. -/
def inLcs (a : Nat) : Bool := decide (a / 4096 = pageBase ⟨.lcs, 0⟩ / 4096)

/-- What a byte that no region resolves grants the debug master (R410). -/
def State.dbgDefault (s : State) (kind a : Nat) : Bool :=
  match s.lcState with
  | 0 | 2 | 5 => defaultMap true kind a
  | 1 => inLcs a && decide (kind ≠ 2)
  | 6 | 15 => inLcs a && decide (kind = 0)
  | _ => false

/-- Outcome of the check of one byte: `none` granted, else REASON, REGION and MATCHED of VIOL_INFO (R370-R375). -/
def State.acuByte (s : State) (m : Master) (kind a : Nat) : Option (Nat × Nat × Bool) :=
  let acu := m.acu
  let ctx := s.acuCtx m
  if s.acuEcc.contains (acu * 128 + ctx) then some (6, 0, false)
  else match s.acuRegion acu ctx a with
    | some k =>
      let attr := Sparse.get 0 s.acuAttr (acuKey acu ctx k)
      if decide (m = .debug) && bit attr 10 && decide (s.lcState ≠ 5) then some (3, k, true)
      else if bit attr (7 + kind) then none else some (2, k, true)
    | none =>
      if m = .debug then (if s.dbgDefault kind a then none else some (1, 0, false))
      else if s.acuUser m then some (1, 0, false)
      else if defaultMap m.isKs kind a then none else some (4, 0, false)

/-- Check of every byte of an access: the lowest forbidden byte with its outcome (R370, R372). -/
def State.acuCheck (s : State) (m : Master) (kind a size : Nat) : Option (Nat × Nat × Nat × Bool) :=
  (List.range size).findSome? fun i =>
    match s.acuByte m kind (a + i) with
    | some (r, k, mt) => some (a + i, r, k, mt)
    | none => none

/-- Record of a refusal in the violation record of the master's ACU (R372, R373), with the error response. -/
def State.acuRecord (s : State) (m : Master) (kind a reason region : Nat) (matched : Bool) : State :=
  let i := m.acu
  let s0 := s.emit (.errorResponse m)
  if bit (s.reg .acu i 0x044) 31 then
    (s0.updReg .acu i 0x058 fun v => putFld v 0 16 (satInc (fld v 0 16) 0xFFFF)).setSticky .acu i 2
  else
    let info : Word := w32 (s.acuCtx m) ||| w32 (kind * 2 ^ 7) ||| w32 (reason * 2 ^ 9) ||| w32 (region * 2 ^ 12) |||
      flag matched 16 ||| w32 (m.number * 2 ^ 17) ||| flag true 31
    (((s0.setReg .acu i 0x044 info).setReg64 .acu i 0x048 a).setReg64 .acu i 0x050 (s.capture .acu i)).setSticky .acu i 2

/-- Refusal by a target's own rule (R10, R26, R72), recorded by the issuing master's ACU with reason 0b101. -/
def State.targetRefuse (s : State) (m : Master) (kind a : Nat) : State := s.acuRecord m kind a 5 0 false

/-- Rights the debug master needs (R410): OBSERVE for reads, WRITE for writes; the LCS page by state. -/
def State.dbgMay (s : State) (kind a : Nat) : Bool :=
  let r := s.dbgRights
  match s.lcState with
  | 1 => inLcs a && decide (kind ≠ 2)
  | 6 | 15 => inLcs a && decide (kind = 0)
  | _ => (if kind = 0 then r.getLsbD 0 else r.getLsbD 1) || r.getLsbD 3

/-- The master may write a whole-page protected page: Keystone, or the debug master on LCS and FLC where R410 grants it. -/
def State.pageWriter (s : State) (m : Master) (b : Block) : Bool :=
  !b.ksPage || m.isKs ||
    (decide (m = .debug) && (match b with
      | .lcs => decide (s.lcState = 0) || decide (s.lcState = 1) || decide (s.lcState = 2) || decide (s.lcState = 5)
      | .flc => decide (s.lcState = 0) || decide (s.lcState = 2) || decide (s.lcState = 5)
      | _ => false))

/-! ### The mortar mesh: nodes, link directions and routes (R144, R145, R155) -/

/-- Node (x, y). -/
def nodeXY (x y : Nat) : Nat := 6 * y + x
/-- Node of a course (R144). -/
def courseNode (c : Nat) : Nat := nodeXY (1 + c % 4) (1 + c / 4)
/-- Node of a page's block. -/
def pageNode (pg : PageRef) : Nat :=
  match pg.block with
  | .kst | .lcs | .tmp | .elg | .flc | .jnt | .crd | .sdh | .nfc => 0
  | .ptn => 1
  | .sgn => 2
  | .pci | .vfm => 3
  | .jnl => 4
  | .sys | .evt | .pwr | .clk | .rst | .tim | .dual | .acu | .mort | .dbg => 5
  | .sgm => if pg.inst < 4 then 6 else 11
  | .cox => courseNode pg.inst
  | .pke => match pg.inst with | 0 => 12 | 1 => 18 | 2 => 17 | _ => 23
  | .hsh => 24
  | .cip => 30
  | .eth => if pg.inst < 8 then 31 else if pg.inst < 36 then 32 else 33
  | .fsp => 34
/-- Node of an engine. -/
def engineNode (e : Nat) : Nat := match e / 24 with | 0 => 12 | 1 => 18 | 2 => 17 | _ => 23
/-- Channel of a sealed address: lines in turn over the four channels of its half (R292). -/
def sealedChannelOf (a : Nat) : Nat :=
  let o := a - sealedBase
  if o < 0xA0000000 then o / 64 % 4 else 4 + (o - 0xA0000000) / 64 % 4
/-- Node of a physical address. -/
def nodeOf (a : Nat) : Nat :=
  if a < 0x04000000 then 0
  else if 0x10000000 ≤ a ∧ a < 0x11000000 then 1
  else if 0x11000000 ≤ a ∧ a < 0x12000000 then 2
  else if 0x30000000 ≤ a ∧ a < 0x31000000 then courseNode (a / 2 ^ 20 % 16)
  else if 0x50000000 ≤ a ∧ a < 0x51000000 then engineNode (a / 2 ^ 16 % 256)
  else if 0x51000000 ≤ a ∧ a < 0x51010000 then (if a / 4096 % 16 < 8 then 24 else 29)
  else if 0x52000000 ≤ a ∧ a < 0x52010000 then (if a / 4096 % 16 < 8 then 30 else 35)
  else if sealedBase ≤ a then (if sealedChannelOf a < 4 then 6 else 11)
  else match pageOf a with
    | some (pg, _) => pageNode pg
    | none => match Config.sharedWindow (a / 4 * 4) with
      | some (c, _) => courseNode (c % 16)
      | none => 5
/-- Node of a master (R144). -/
def masterNode : Master → Nat
  | .proc p => if p.isKs then 0 else courseNode p.course
  | .cluster k => match k.val with | 0 => 12 | 1 => 18 | 2 => 17 | _ => 23
  | .hash k => if k.val < 8 then 24 else 29
  | .cipher k => if k.val < 8 then 30 else 35
  | .partnerCache => 1
  | .signerStore => 2
  | .journal => 4
  | .linkPorts g => 31 + g.val
  | .pcie _ => 3
  | .debug => 5
  | .mover east => if east then 11 else 6

/-- Hop count (R145). -/
def hops (a b : Nat) : Nat := (a % 6 - b % 6) + (b % 6 - a % 6) + ((a / 6 - b / 6) + (b / 6 - a / 6))

/-- Link direction from (x, y) one step along the row (R145). -/
def dirX (x y : Nat) (up : Bool) : Nat := if up then 2 * (5 * y + x) else 2 * (5 * y + (x - 1)) + 1
/-- Link direction from (x, y) one step along the column (R145). -/
def dirY (x y : Nat) (up : Bool) : Nat := if up then 2 * (30 + 6 * y + x) else 2 * (30 + 6 * (y - 1) + x) + 1
/-- Link directions along row y from column x to column x'. -/
def rowDirs (y x x' : Nat) : List Nat :=
  if x ≤ x' then (List.range (x' - x)).map fun i => dirX (x + i) y true
  else (List.range (x - x')).map fun i => dirX (x - i) y false
/-- Link directions along column x from row y to row y'. -/
def colDirs (x y y' : Nat) : List Nat :=
  if y ≤ y' then (List.range (y' - y)).map fun i => dirY x (y + i) true
  else (List.range (y - y')).map fun i => dirY x (y - i) false
/-- X-then-Y route. -/
def routeXY (a b : Nat) : List Nat := rowDirs (a / 6) (a % 6) (b % 6) ++ colDirs (b % 6) (a / 6) (b / 6)
/-- Y-then-X route. -/
def routeYX (a b : Nat) : List Nat := colDirs (a % 6) (a / 6) (b / 6) ++ rowDirs (b / 6) (a % 6) (b % 6)
/-- Detour of a straight route through the neighbouring column or row (R155). -/
def routeDetour (a b : Nat) : List Nat :=
  let x := a % 6; let y := a / 6; let x' := b % 6; let y' := b / 6
  if x = x' then
    let n := if x < 5 then x + 1 else x - 1
    rowDirs y x n ++ colDirs n y y' ++ rowDirs y' n x
  else
    let n := if y < 5 then y + 1 else y - 1
    colDirs x y n ++ rowDirs n x x' ++ colDirs x' n y

/-- A link direction is fenced: its committed MORT.FENCE bit (R155, R159). -/
def State.linkFenced (s : State) (d : Nat) : Bool := bit (s.reg .mort 0 (0x50 + 4 * (d / 32))) (d % 32)

/-- The route in force between two nodes, `none` where R155 leaves none. -/
def State.route? (s : State) (a b : Nat) : Option (List Nat) :=
  let ok (r : List Nat) : Bool := r.all fun d => !s.linkFenced d
  if ok (routeXY a b) then some (routeXY a b)
  else if ok (routeYX a b) then some (routeYX a b)
  else if (decide (a % 6 = b % 6) || decide (a / 6 = b / 6)) && ok (routeDetour a b) then some (routeDetour a b)
  else none

/-! ### Register page accesses -/

/-- Outcome of the checks on a register page access before the page acts (R10, R26, R72, R368-R375). -/
inductive Gate where
  | refused (low reason region : Nat) (matched : Bool)
  /-- The joint is down: the access waits for it (R15, log entry 83). -/
  | waits
  /-- No route leads to the page's node (R155). -/
  | noRoute
  | page (pg : PageRef) (off : Nat)
  deriving DecidableEq, Repr

/-- The debug master reaches its own page in every state: it submits its certificate there (R411-R413). -/
def ownPage (m : Master) (a : Nat) : Bool := decide (m = .debug) && decide (a / 4096 = pageBase ⟨.dbg, 0⟩ / 4096)

/-- An access between a master and a die that the joint would carry finds the joint down, and waits for it (R15). The debug
master reaches both dies without it (R410, log entry 83). -/
def State.jointWaits (s : State) (m : Master) (keystone : Bool) : Bool :=
  decide (m ≠ .debug) && (m.isKs != keystone) && !s.jnt.up

/-- Checks of a page access by a master: kind 0 read, 1 write. -/
def State.gate (s : State) (m : Master) (kind a size : Nat) : Gate :=
  if ownPage m a then (if size ≠ 4 ∨ a % 4 ≠ 0 then .refused a 5 0 false else .page ⟨.dbg, 0⟩ (a % 4096))
  else if decide (m = .debug) && !s.dbgMay kind a then .refused a 5 0 false
  else match s.acuCheck m kind a size with
    | some (low, r, k, mt) => .refused low r k mt
    | none =>
      if size ≠ 4 ∨ a % 4 ≠ 0 then .refused a 5 0 false
      else match pageOf a with
        | none => .refused a 5 0 false
        | some (pg, off) =>
          if decide (kind = 1) && !s.pageWriter m pg.block then .refused a 5 0 false
          else if s.jointWaits m pg.block.onKeystone then .waits
          else if (s.route? (masterNode m) (pageNode pg)).isNone then .noRoute
          else .page pg off

/-- What an access that the page does not answer leaves: the refusal's record, nothing while the access waits, or NO_ROUTE with
an error response (R15, R155, R372). -/
def State.gateMiss (s : State) (m : Master) (kind : Nat) : Gate → State
  | .refused low r k mt => s.acuRecord m kind low r k mt
  | .noRoute => (s.setSticky .mort 0 4).emit (.errorResponse m)
  | .waits | .page _ _ => s

/-- An access to memory that does not reach its target: refused by the ACU, without a route, or waiting for the joint; the state it
leaves, and whether the master gets an answer (R15, R155, R372). -/
def State.barred (s : State) (m : Master) (kind a n : Nat) : Option (State × Bool) :=
  match s.acuCheck m kind a n with
  | some (low, r, k, mt) => some (s.acuRecord m kind low r k mt, true)
  | none =>
    if s.jointWaits m (decide (a < 0x04000000)) then some (s, false)
    else if (s.route? (masterNode m) (nodeOf a)).isNone then some (s.gateMiss m kind .noRoute, true)
    else none

/-- A write of a register by a master: the checks, then the page's own act. -/
def State.gated (s : State) (m : Master) (b : Block) (i off : Nat) (act : State → State) : State :=
  match s.gate m 1 (pageBase ⟨b, i⟩ + off) 4 with
  | .page _ _ => act s
  | g => s.gateMiss m 1 g

/-- A read of a register by a master: the checks, then the page's own act, whose word goes back (R10, R72). -/
def State.gatedRead (s : State) (m : Master) (b : Block) (i off : Nat) (act : State → State × Word) : State :=
  match s.gate m 0 (pageBase ⟨b, i⟩ + off) 4 with
  | .page _ _ => (act s).1.emit (.readData m [TWord.int (act s).2])
  | .waits => s
  | g => (s.gateMiss m 0 g).emit (.readData m [TWord.int 0])

/-- A register that takes writes from the Keystone cores only on a page others may write: the write of another master has
no effect, gets a normal response and sets CMD_REJECT (R513). -/
def State.ksOnly (s : State) (m : Master) (b : Block) (i off : Nat) (v : Word) (act : State → State) : State :=
  if m.isKs then act s else s.reject b i off v

/-- Read of a LO register: copies HI into the holding register (R30). -/
def State.holdHi (s : State) (b : Block) (i hi : Nat) (v : Word) : State :=
  { s with held := Sparse.set 0 s.held (regKey b i hi) v }

/-! ### Service state (R56) -/

/-- SYS.SVC.STATE: 0 STOPPED, 1 SERVING, 2 HELD, 3 LOCKED. -/
def State.svc (s : State) : Nat :=
  if !bit (s.reg .sys 0 0x040) 8 then 0
  else if s.aon.lock then 3
  else if s.aon.hold || bit (s.reg .sys 0 0x044) 0 then 2
  else 1

/-- A write of the SERVE bit. -/
def State.setServe (s : State) (v : Bool) : State := s.updReg .sys 0 0x040 fun w => putBit w 8 v

end Sys2Proof.Machine
end

