-- ==== Sys2Proof/Machine/Events.lean ====
section
/-! DEFINITION. The event router (R34-R38): pending bits, delivery to Keystone, tiles and MSI-X vectors, and the EVT page's own
rows. -/

namespace Sys2Proof.Machine

/-- Events of R36, always delivered to Keystone by their route; 1634 is delivered there as well (PCI registers). -/
def evtForced (ev : Nat) : Bool := (decide (64 ≤ ev) && decide (ev ≤ 191)) || (decide (1760 ≤ ev) && decide (ev ≤ 1823))

/-- A software event (R35). -/
def evtSoftware (ev : Nat) : Bool := decide (1856 ≤ ev) && decide (ev < 2048)

/-- Number of events of a page that have a source, the first ones of its range; the rest are reserved (R37 and the block
chapters). -/
def evtSources (b : Block) : Nat :=
  match b with
  | .sys => 3 | .evt => 1 | .pwr => 3 | .clk => 3 | .rst => 1 | .tim => 2 | .dual => 2 | .acu => 1 | .mort => 2 | .cox => 4
  | .pke => 15 | .hsh => 17 | .cip => 17 | .ptn => 4 | .sgn => 2 | .jnl => 4 | .sgm => 5 | .eth => 6 | .fsp => 17 | .pci => 3
  | .vfm => 3 | .kst => 3 | .lcs => 3 | .tmp => 3 | .elg => 3 | .flc => 3 | .jnt => 3 | .crd => 9 | .sdh => 4 | .nfc => 5
  | .dbg => 3

/-- The page and the index within it of an event that a page owns. -/
def evtOwner (ev : Nat) : Option (PageRef × Nat) :=
  Block.all.findSome? fun b =>
    (List.range b.insts).findSome? fun i =>
      if evtBase b i ≤ ev ∧ ev < evtBase b i + evtCount b then some (⟨b, i⟩, ev - evtBase b i) else none

/-- The event has a source (R37: reserved events never pend). -/
def evtHasSource (ev : Nat) : Bool :=
  (decide (64 ≤ ev) && decide (ev ≤ 191)) || evtSoftware ev ||
    match evtOwner ev with
    | some (pg, k) => decide (k < evtSources pg.block) &&
        !(decide (pg.block = .sgm) && decide (k = 4) && decide (pg.inst ≠ 0 ∧ pg.inst ≠ 4))
    | none => false

/-- Route of an event as EVT.RDATA reads it: KS reads 1 for the forced events (R36). -/
def State.route (s : State) (ev : Nat) : Word :=
  let w := Sparse.get 0 s.routes ev
  if evtForced ev then putBit w 31 true else w

/-- Pending bit of an event. -/
def State.evtPend (s : State) (ev : Nat) : Bool := bit (s.reg .evt 0 (0x100 + 4 * (ev / 32))) (ev % 32)
/-- Mask bit of an event. -/
def State.evtMasked (s : State) (ev : Nat) : Bool := bit (s.reg .evt 0 (0x200 + 4 * (ev / 32))) (ev % 32)

/-- A line of a tile; a tile whose pair runs in lockstep passes it to both tiles of the pair (R91). -/
def State.setLine (s : State) (c t : Fin 16) (line : Nat) : State :=
  let one (s : State) (t : Fin 16) : State := s.updProc (.tile c t) fun p => { p with lines := putBit p.lines line true }
  let mate : Fin 16 := ⟨t.val ^^^ 1, Nat.xor_lt_two_pow (n := 4) t.isLt (by decide)⟩
  let s1 := one s t
  if (s.proc (.tile c t)).sched then one s1 mate else s1

/-- The tiles of a mask receive a line. -/
def State.setLines (s : State) (c : Fin 16) (mask : Nat) (line : Nat) : State :=
  (List.finRange 16).foldl (fun s t => if mask.testBit t.val then s.setLine c t line else s) s

/-- The function that owns a global vector (R341). -/
def State.vecOwner (s : State) (v : Nat) : Option Nat :=
  (s.pci.fn.find? fun e => decide (e.2.vecBase ≤ v) && decide (v < e.2.vecBase + e.2.vecCount)).map (·.1)

/-- Signalling of a global vector: a masked one sets its PBA bit, one without owner is dropped (R341). -/
def State.signal (s : State) (v : Nat) : State :=
  match s.vecOwner v with
  | none => s.setSticky .pci 0 5
  | some f =>
    let x := Sparse.get {} s.pci.fn f
    if x.maskAll || !x.unmasked.contains (v - x.vecBase) then
      { s with pci := { s.pci with fn := Sparse.set {} s.pci.fn f { x with pba := (v - x.vecBase) :: x.pba.erase (v - x.vecBase) } } }
    else s.emit (.msix v)

/-- Delivery of an event to the destinations of its route other than Keystone. -/
def State.deliverRoute (s : State) (ev : Nat) : State :=
  let r := s.route ev
  match fld r 29 2 with
  | 1 => s.setLines (Fin.ofNat 16 (fld r 25 4)) (fld r 0 16) (fld r 20 5)
  | 2 => s.signal (fld r 0 11)
  | _ => s

/-- Delivery to Keystone. -/
def State.deliverKs (s : State) (ev : Nat) : State := s.emit (.ksEvent ev)

/-- The route or R36 sends the event to Keystone whatever the mask says. -/
def evtAlwaysKs (ev : Nat) : Bool := evtForced ev || decide (ev = 1634)

/-- Delivery of a pending, unmasked event, once, to the route in force in this stroke (R34). The forced delivery of R36 has
taken place when the bit was set. -/
def State.deliver (s : State) (ev : Nat) : State :=
  if !s.evtPend ev || s.evtMasked ev || s.sent.contains ev then s
  else
    let s1 := { s with sent := ev :: s.sent }
    let s2 := if bit (s.route ev) 31 && !evtAlwaysKs ev then s1.deliverKs ev else s1
    s2.deliverRoute ev

/-- A rising edge sets the pending bit, and a bit that sets while unmasked is delivered in this stroke (R34). -/
def State.raiseEvent (s : State) (ev : Nat) : State :=
  if s.evtPend ev then s
  else
    let s1 := s.updReg .evt 0 (0x100 + 4 * (ev / 32)) fun w => putBit w (ev % 32) true
    let s2 := if evtAlwaysKs ev then s1.deliverKs ev else s1
    s2.deliver ev

/-- A software event: one edge in a stroke, however many raises (R35). -/
def State.raiseSoftware (s : State) (ev : Nat) : State :=
  if s.swNow.contains ev then s else ({ s with swNow := ev :: s.swNow }).raiseEvent ev

/-- The events of a register k of the event arrays whose bit is set in a word. -/
def evtBits (k : Nat) (v : Word) : List Nat := ((List.range 32).filter (bit v ·)).map (32 * k + ·)

/-- A write of EVT.MASK_k: bits unmasked while pending are delivered now (R34). -/
def fEvtMask (k : Nat) (v : Word) (s : State) : State :=
  (evtBits k (s.reg .evt 0 (0x200 + 4 * k) &&& ~~~v)).foldl State.deliver (s.setReg .evt 0 (0x200 + 4 * k) v)

/-- A write of 1 clears pending bits (R34). -/
def fEvtPend (k : Nat) (v : Word) (s : State) : State :=
  let s1 := s.updReg .evt 0 (0x100 + 4 * k) (· &&& ~~~v)
  { s1 with sent := s1.sent.filter fun e => !(evtBits k v).contains e }

/-- A write of EVT.SWSET (R35). -/
def fEvtSwset (v : Word) (s : State) : State :=
  let ev := fld v 0 11
  if evtSoftware ev then s.raiseSoftware ev else s.reject .evt 0 0x048 v

/-- A write of EVT.RDATA: the route of the event RSEL selects; a reserved DEST code is refused; reserved bits and a KS of 0
on a forced event are not taken (R3, R36, R38). -/
def fEvtRdata (v : Word) (s : State) : State :=
  if fld v 29 2 = 3 then s.reject .evt 0 0x044 v
  else
    let w := v &&& 0xFFF0FFFF
    let w := if fld v 29 2 = 2 then w &&& 0xFFFF07FF else w
    { s with routes := Sparse.set 0 s.routes (fld (s.reg .evt 0 0x040) 0 11) w }

def execEvtMaskWrite (m : Master) (k : Fin 64) (v : Word) (s : State) : Host.Outcome State Fault Refusal :=
  .next (s.gated m .evt 0 (0x200 + 4 * k.val) (fEvtMask k v))

def execEvtSwset (m : Master) (v : Word) (s : State) : Host.Outcome State Fault Refusal :=
  .next (s.gated m .evt 0 0x048 (fEvtSwset v))

def execEvtRdataWrite (m : Master) (v : Word) (s : State) : Host.Outcome State Fault Refusal :=
  .next (s.gated m .evt 0 0x044 (fEvtRdata v))

end Sys2Proof.Machine
end

