-- ==== Sys2Proof/Machine/Operands.lean ====
section
/-! DEFINITION. Operands of the GTIS processors: registers, tag checks in the order of R80, local memory maps, the stack, the
program counter with its hardware loops (R60-R104). -/

namespace Sys2Proof

/-- TILEID (R65). -/
def ProcId.tileId : ProcId → Nat
  | .tile c t => c.val * 16 + t.val
  | .cox c => 0x200 + c.val
  | .ks k => 0x100 + k.val

/-- The other tile of a lockstep pair; a Cox core or Keystone core stands alone. -/
def ProcId.mate : ProcId → ProcId
  | .tile c t => .tile c ⟨t.val ^^^ 1, Nat.xor_lt_two_pow (n := 4) t.isLt (by decide)⟩
  | p => p

/-- The tile of a pair whose accesses stand for the pair (R103): the even one. Every other processor sends its own. -/
def ProcId.sends : ProcId → Bool
  | .tile _ t => decide (t.val % 2 = 0)
  | _ => true

/-- The lockstep pair of a tile; the ninth port of shared memory stands for every other processor (R69). -/
def ProcId.pairNo : ProcId → Nat
  | .tile _ t => t.val / 2
  | _ => 8

end Sys2Proof

namespace Sys2Proof.Machine

/-! ### Registers (R61-R64) -/

/-- The processor can issue an instruction now. -/
def Proc.canIssue (x : Proc) : Bool := x.running && !x.stopped && (!x.halted || x.stepOne) && x.wait.isNone

/-- Brick register n; b0 reads INT 0 (R63). -/
def Proc.r (x : Proc) (n : Nat) : TWord := if n = 0 then TWord.int 0 else Sparse.get TWord.none x.b n
/-- Write of a brick register; a write of b0 is discarded (R63). -/
def Proc.setR (x : Proc) (n : Nat) (w : TWord) : Proc :=
  if n = 0 then x else { x with b := Sparse.set TWord.none x.b n w }
/-- Key register n: a KEY word or NONE (R64). -/
def Proc.kr (x : Proc) (n : Nat) : TWord := Sparse.get TWord.none x.k n
/-- Write of a key register. -/
def Proc.setK (x : Proc) (n : Nat) (w : TWord) : Proc := { x with k := Sparse.set TWord.none x.k n w }

/-! ### Checks (R80) -/

/-- One check of an instruction: whether it fails, the trap code of R96 and TADDR. -/
structure Chk where
  bad  : Bool
  code : Nat
  addr : Word := 0
  deriving DecidableEq, Repr

/-- Trap codes (R96). -/
abbrev tagUse : Nat := 1
abbrev tagMismatch : Nat := 2
abbrev keyEscape : Nat := 3
abbrev stackLimit : Nat := 4
abbrev retTag : Nat := 5
abbrev loopDepth : Nat := 6
abbrev alignTrap : Nat := 7
abbrev accessTrap : Nat := 8
abbrev eccUncorr : Nat := 9
abbrev illegal : Nat := 10
abbrev schedSlip : Nat := 11

/-- An operand tagged NONE raises TAG_USE (R77). -/
def chkUse (ws : List TWord) : Chk := { bad := ws.any fun w => decide (w.tag = Tag.none), code := tagUse }
/-- A tag outside the instruction's row raises TAG_MISMATCH (R77). -/
def chkTag (ok : Bool) : Chk := { bad := !ok, code := tagMismatch }
/-- ILLEGAL (R75). -/
def chkLegal (ok : Bool) : Chk := { bad := !ok, code := illegal }
/-- A word for b31 must be a PTR (R63). -/
def spTagOk (d : Nat) (w : TWord) : Bool := decide (d ≠ 31) || decide (w.tag = Tag.ptr)
/-- A word for b31 must not lie below slim (R63). -/
def chkSp (x : Proc) (d : Nat) (w : TWord) : Chk :=
  { bad := decide (d = 31) && decide (w.data.toNat < x.slim.toNat), code := stackLimit }

/-! ### Local maps (R67, R135, R386) -/

/-- What a local address reaches. -/
inductive Loc where
  /-- Memory at a key of `State.mem`, for loads and stores. -/
  | data (k : Nat)
  /-- Memory for loads only: Keystone ROM. -/
  | rom (k : Nat)
  /-- The flash read window at an offset. -/
  | flash (off : Nat)
  /-- A frame table buffer of the course at a byte offset. -/
  | ftab (b : Bool) (off : Nat)
  /-- The own key plane. -/
  | plane (k : Nat)
  /-- The global window, or Keystone's own window, at a physical address. -/
  | phys (a : Nat)
  | nowhere
  deriving DecidableEq, Repr

/-- A physical address lies in a key plane (R70). -/
def inPlane (a : Nat) : Bool :=
  (decide (0x30000000 ≤ a) && decide (a < 0x31000000) && decide (0xE000 ≤ a % 2 ^ 16)) ||
    (decide (ksPlane ≤ a) && decide (a < ksPlane + 0x10000))

/-- A physical address lies in a crypto port window (R73). -/
def inCryptoPort (a : Nat) : Bool :=
  (decide (0x50000000 ≤ a) && decide (a < 0x50000000 + 96 * 2 ^ 16) && decide (a % 2 ^ 16 < 0x4000)) ||
    (decide (0x51000000 ≤ a) && decide (a < 0x51010000)) || (decide (0x52000000 ≤ a) && decide (a < 0x52010000))

/-- Global window (R68). -/
def Proc.window (x : Proc) (a : Nat) : Nat := x.gwin.toNat * 2 ^ 31 + a % 2 ^ 31

/-- Local map of a processor. -/
def localMap (p : ProcId) (x : Proc) (a : Nat) : Loc :=
  match p with
  | .tile c t =>
    if 0x10000 ≤ a ∧ a < 0x1E000 then .data (scratchBase c.val t.val + (a - 0x10000))
    else if 0x1E000 ≤ a ∧ a < 0x20000 then .plane (scratchBase c.val t.val + (a - 0x10000))
    else if 0x20000 ≤ a ∧ a < 0xA0000 then .data (sharedBase c.val + (a - 0x20000))
    else if 0x80000000 ≤ a then .phys (x.window a)
    else .nowhere
  | .cox c =>
    if 0x10000 ≤ a ∧ a < 0x18000 then .data (coxDataBase c.val + (a - 0x10000))
    else if 0x20000 ≤ a ∧ a < 0xA0000 then .data (sharedBase c.val + (a - 0x20000))
    else if 0xA0000 ≤ a ∧ a < 0xA2000 then .ftab false (a - 0xA0000)
    else if 0xA2000 ≤ a ∧ a < 0xA4000 then .ftab true (a - 0xA2000)
    else if 0x80000000 ≤ a then .phys (x.window a)
    else .nowhere
  | .ks _ =>
    if a < 0x40000 then .rom a
    else if 0x01000000 ≤ a ∧ a < 0x011F0000 then .data a
    else if 0x011F0000 ≤ a ∧ a < 0x01200000 then .plane a
    else if 0x02000000 ≤ a ∧ a < 0x04000000 then .flash (a - 0x02000000)
    else if 0x04000000 ≤ a ∧ a < 0x80000000 then .phys a
    else if 0x80000000 ≤ a then .phys (x.window a)
    else .nowhere

/-- The own course's shared memory, reached directly. -/
def isShared (p : ProcId) (a : Nat) : Bool := !p.isKs && decide (0x20000 ≤ a) && decide (a < 0xA0000)

/-- The Keystone code area (R387). -/
def State.inKsCode (s : State) (a : Nat) : Bool :=
  decide (0x01000000 ≤ a) && decide (a < 0x01000000 + (s.reg .kst 0 0x040).toNat)

/-- Addresses a processor may fetch from or jump to (R67, R80, R135, R386). -/
def State.codeOk (s : State) (p : ProcId) (a : Nat) : Bool :=
  match p with
  | .tile _ _ | .cox _ => decide (a < 0x8000)
  | .ks _ => decide (a < 0x40000) || s.inKsCode a

/-- Memory key of a code address. -/
def codeKey (p : ProcId) (a : Nat) : Nat :=
  match p with
  | .tile c t => codeBase c.val t.val + a
  | .cox c => coxCodeBase c.val + a
  | .ks _ => a

/-- A flash byte as stored; erased bytes read 0xFF (R434). -/
def State.flashByte (s : State) (off : Nat) : Byte := Sparse.get 0xFF s.flc.bytes off

/-- A frame table word. -/
def State.ftWord (s : State) (c : Nat) (b : Bool) (off : Nat) : Word :=
  let x := Sparse.get {} s.cox c
  let e := Sparse.get {} (if b then x.ftB else x.ftA) (off / 8)
  if off / 4 % 2 = 0 then e.w0 else e.w1

/-- The word a local load reaches, at a word address. -/
def State.locWord (s : State) (c : Nat) : Loc → TWord
  | .data k | .rom k | .plane k => s.word k
  | .flash off => TWord.int (leWord [s.flashByte off, s.flashByte (off + 1), s.flashByte (off + 2), s.flashByte (off + 3)])
  | .ftab b off => TWord.int (s.ftWord c b off)
  | .phys _ | .nowhere => TWord.none

/-- The word a local load of a processor sees: of a word of shared memory that another pair wrote in the same stroke, the old
value (R69). -/
def State.seen (s : State) (p : ProcId) (l : Loc) : TWord :=
  match l with
  | .data k =>
    match s.shLog.find? fun e => decide (e.key = k) && decide (e.stroke = s.stroke) && decide (e.pair ≠ p.pairNo) with
    | some e => e.old
    | none => s.word k
  | _ => s.locWord p.course l

/-- A tile pair's write of a word of shared memory: of the writes of one stroke the highest pair's remains (R69). -/
def State.sharedPut (s : State) (pair k : Nat) (w : TWord) : State :=
  let now := s.shLog.filter fun e => decide (e.stroke = s.stroke)
  match now.find? fun e => decide (e.key = k) with
  | none => { s.putWord k w with shLog := now ++ [{ key := k, stroke := s.stroke, pair := pair, old := s.word k }] }
  | some e =>
    if pair < e.pair then { s with shLog := now }
    else { s.putWord k w with shLog := now.map fun f => if f.key = k then { f with pair := pair } else f }

/-- The word a local load reaches holds an uncorrectable error. -/
def State.locBad (s : State) : Loc → Bool
  | .data k | .rom k | .plane k => s.isBad k
  | .flash off => s.flc.bad.contains (off / 4)
  | _ => false

/-! ### Program counter and hardware loops (R86-R89) -/

/-- The instruction at pc is the last of the innermost open loop. -/
def Proc.atLoopEnd (x : Proc) : Bool := decide (0 < x.ldepth) && decide (Sparse.get 0 x.le (x.ldepth - 1) = x.pc)

/-- The loop rule of R87 at the innermost loop, then outward, at most n loops. A loop register lc that software has set to 0
closes its loop as 1 does (log entry 7). -/
def Proc.loopBack (x : Proc) : Nat → Proc
  | 0 => { x with pc := x.pc + 4 }
  | n + 1 =>
    if !x.atLoopEnd then { x with pc := x.pc + 4 }
    else
      let i := x.ldepth - 1
      let lc := Sparse.get 0 x.lc i
      if 1 < lc.toNat then { x with lc := Sparse.set 0 x.lc i (lc - 1), pc := Sparse.get 0 x.ls i }
      else ({ x with lc := Sparse.set 0 x.lc i 0, ldepth := i }).loopBack n

/-- The next instruction after one that is not a transfer of control. -/
def Proc.advance (x : Proc) : Proc := x.loopBack 4

/-- Loops closed by a transfer to a target: from the innermost outward until one contains it (R89). -/
def Proc.closeLoops (x : Proc) (target : Word) : Nat → Proc
  | 0 => x
  | n + 1 =>
    if x.ldepth = 0 then x
    else
      let i := x.ldepth - 1
      if (Sparse.get 0 x.ls i).toNat ≤ target.toNat ∧ target.toNat ≤ (Sparse.get 0 x.le i).toNat then x
      else ({ x with ldepth := i }).closeLoops target n

/-- Transfer by a taken branch, JMP, JR or RET. -/
def Proc.goto (x : Proc) (target : Word) : Proc := { x.closeLoops target 4 with pc := target }

/-- Sign-extended byte offset of a word offset. -/
def branchTarget (pc : Word) (off : BitVec 16) : Word := pc + (off.signExtend 32 <<< 2)
def jumpTarget (pc : Word) (off : BitVec 26) : Word := pc + (off.signExtend 32 <<< 2)

/-- A jump or return target: ALIGN, then ACCESS (R80). -/
def State.chkTarget (s : State) (p : ProcId) (taken : Bool) (t : Word) : List Chk :=
  [{ bad := taken && decide (t.toNat % 4 ≠ 0), code := alignTrap }, { bad := taken && !s.codeOk p t.toNat, code := accessTrap }]

/-! ### The stack (R83-R85) -/

/-- The slot is in the region a stack may use. -/
def stackLoc (p : ProcId) (x : Proc) (a : Nat) : Bool :=
  match p, localMap p x a with
  | .tile _ _, .data _ => decide (a < 0x20000)
  | .cox _, .data _ => decide (a < 0x18000)
  | .ks _, .data _ => true
  | _, _ => false

/-- Checks of a stack slot in the order of R80: KEY_ESCAPE, ALIGN, ACCESS; for a push, STACK_LIMIT. A slot that the global window
resolves to a key plane lies outside the stack region, and the model reports ACCESS: R85 names KEY_ESCAPE for a slot in the key
plane, and the model takes that for the local range alone (DESIGN CHOICE, log entry 86). -/
def chkSlot (p : ProcId) (x : Proc) (a : Word) (push : Bool) : List Chk :=
  [{ bad := (match localMap p x a.toNat with | .plane _ => true | _ => false), code := keyEscape, addr := a },
   { bad := decide (a.toNat % 4 ≠ 0), code := alignTrap, addr := a },
   { bad := !stackLoc p x a.toNat, code := accessTrap, addr := a },
   { bad := push && decide (a.toNat < x.slim.toNat), code := stackLimit }]

/-- Memory key of a stack slot. -/
def stackKey (p : ProcId) (x : Proc) (a : Word) : Nat :=
  match localMap p x a.toNat with
  | .data k => k
  | _ => 0

/-! ### Issue and traps (R80, R96-R101) -/

/-- The stroke counter as a processor reads it (R77, R95). -/
def State.counter (s : State) (p : ProcId) : Nat := if p.isKs then s.ksCopy.getD (2 ^ 64 - 1) else s.stroke

/-- The trap state of R97 written at a trap of a processor. A trap that comes with a response ends the wait it finds (R81, R98). -/
def State.trapState (s : State) (p : ProcId) (x : Proc) (code : Nat) (pc addr : Word) : Proc :=
  { x with tcause := w32 (code + if x.sched then 16 else 0), tpc := pc, taddr := addr, ttime := s.counter p,
           tldepth := x.ldepth, tppriv := x.super, tskip := false, wait := none }

/-- A processor stops on a double trap with the second trap's state (R100); a tile's stop shows on its COX page (R138). -/
def State.doubleTrap (s : State) (p : ProcId) (y : Proc) : State :=
  let s1 := s.setProc p { y with stopped := true, dbl := true }
  match p with
  | .tile c _ => s1.setSticky .cox c.val 7
  | _ => s1

/-- The lockstep compare of a scheduled pair (R102): what one tile stores, sends, ends at or traps on is held until the other tile
does the same, and a difference is noted as a mismatch, which the next tick takes up (log entry 84). -/
def State.lockCmp (s : State) (p : ProcId) (x : Proc) (kind : Nat) (what : List Nat) : State :=
  match p with
  | .tile c t =>
    if !x.sched then s
    else
      let q := 8 * c.val + t.val / 2
      let odd := decide (t.val % 2 = 1)
      match s.lock.find? fun i => decide (i.pair = q) && decide (i.odd ≠ odd) with
      | none => { s with lock := s.lock ++ [{ pair := q, odd := odd, kind := kind, what := what, stroke := s.stroke }] }
      | some i =>
        let s1 := { s with lock := s.lock.erase i }
        if i.kind = kind ∧ i.what = what then s1 else { s1 with lockBad := s1.lockBad ++ [q] }
  | _ => s

/-- A trap: in scheduled mode the processor stops (R101); in free mode it enters the handler (R98), and a trap while ACTIVE or
a push that fails is a double trap, which stops it (R100). R100 does not say what trap state a failed push leaves: the model
records the push's own failing check as TCAUSE and TADDR, with TPC the trapping instruction and ACTIVE still 0 (DESIGN CHOICE, log
entry 88). -/
def State.trap (s : State) (p : ProcId) (code : Nat) (pc addr : Word) : State :=
  let x := s.proc p
  if x.sched then
    (s.setProc p { s.trapState p x code pc addr with stopped := true }).lockCmp p x 3 [code, pc.toNat, addr.toNat]
  else if x.tactive then s.doubleTrap p (s.trapState p x code pc addr)
  else
    let sp := x.r 31
    let n := sp.data - 4
    match ([chkUse [sp], chkTag (decide (sp.tag = Tag.ptr))] ++ chkSlot p x n true).find? (·.bad) with
    | some c => s.doubleTrap p (s.trapState p x c.code pc c.addr)
    | none =>
      let y := s.trapState p x code pc addr
      let y := { y.setR 31 ⟨n, Tag.ptr⟩ with tactive := true, super := true, pc := x.tvec }
      (s.putWord (stackKey p x n) ⟨(pc &&& ~~~3#32) ||| 1#32, Tag.code⟩).setProc p y

/-- The checks of the fetch: an uncorrectable word, then an address outside the code region (R67, R80). -/
def State.chkFetch (s : State) (p : ProcId) (x : Proc) : List Chk :=
  [{ bad := s.isBad (codeKey p x.pc.toNat), code := eccUncorr },
   { bad := !s.codeOk p x.pc.toNat, code := accessTrap }]

/-- The first check of an issue that fails: the fetch, R88, then the instruction's own (R80). -/
def State.firstBad (s : State) (p : ProcId) (x : Proc) (ctl : Bool) (cs : Proc → List Chk) : Option Chk :=
  (s.chkFetch p x ++ { bad := ctl && x.atLoopEnd, code := illegal } :: cs x).find? (·.bad)

/-- One issue of a processor that can issue: the first failing check of R80 traps, otherwise the instruction has its effect. A
transfer of control, END, WFE or WAITC at the end of a loop body is ILLEGAL (R88). -/
def State.issue (s : State) (p : ProcId) (ctl : Bool) (cs : Proc → List Chk) (eff : Proc → State → State) : State :=
  let x := s.proc p
  if !x.canIssue then s
  else
    let t := match s.firstBad p x ctl cs with
      | some c => s.trap p c.code x.pc c.addr
      | none => eff x s
    if x.stepOne then t.updProc p fun y => { y with stepOne := false } else t

/-- Effect on the processor alone, then the next instruction. -/
def State.thenNext (s : State) (p : ProcId) (x : Proc) : State := s.setProc p x.advance

/-- An instruction that computes one word for register d from operands: the operands' NONE check, the tag rule (`none` where
the row does not list the tags), then the rules of b31. -/
def State.compute (s : State) (p : ProcId) (d : Nat) (ops : Proc → List TWord) (res : Proc → Option TWord)
    (legal : Proc → Bool := fun _ => true) : State :=
  s.issue p false
    (fun x =>
      [chkLegal (legal x), chkUse (ops x),
       chkTag (match res x with | some w => spTagOk d w | none => false),
       chkSp x d ((res x).getD TWord.none)])
    (fun x s => s.thenNext p (x.setR d ((res x).getD TWord.none)))

end Sys2Proof.Machine
end

