-- ==== Sys2Proof/Machine/Fabric.lean ====
section
/-! DEFINITION. The mortar mesh: nodes, link directions and routes (R144-R146, R155), and the sending of a processor's global
accesses with their responses. -/

namespace Sys2Proof.Machine

/-- Target figure a of R114, where TC-9 gives one. -/
def targetFigure (a : Nat) : Option Nat :=
  if 0x30000000 ≤ a ∧ a < 0x31000000 then some 2
  else if 0x50000000 ≤ a ∧ a < 0x51000000 then some 4
  else if 0x10000000 ≤ a ∧ a < 0x12000000 then some 6
  else if (0x40000000 ≤ a ∧ a < 0x53000000) ∨ sealedBase ≤ a then none
  else (Config.sharedWindow (a / 4 * 4)).map fun _ => 4

/-- Local address by which a processor reached a physical one. -/
def localOf (p : ProcId) (phys : Nat) : Word :=
  if p.isKs ∧ 0x04000000 ≤ phys ∧ phys < 0x80000000 then w32 phys else w32 (0x80000000 + phys % 2 ^ 31)

/-- Last stroke of the TC-9 figure of a scheduled access (R76, R114), by the hop count of R145 whatever route is in force. -/
def msgDue (m : Msg) : Option Nat :=
  if m.sched then (targetFigure m.addr).map (m.stroke + 2 + 4 * hops (masterNode m.src) (nodeOf m.addr) + ·) else none

/-- The response a message gets (R147). -/
def respOf (p : ProcId) (m : Msg) (err ecc : Bool) (low : Nat) (w : TWord) : Resp :=
  { proc := p.key, dest := m.dest, size := m.size, err := err, ecc := ecc, pc := m.pc, addr := localOf p low, data := w, due := msgDue m }

/-- An error response made at the master's own port or by the router that dropped a beat: the processor has it at once (R155, R372). -/
def State.respondHere (s : State) (m : Msg) (ecc : Bool) (low : Nat) : State :=
  match m.src with
  | .proc p => { s with mort := { s.mort with resps := s.mort.resps ++ [respOf p m true ecc low TWord.none] } }
  | _ => s.emit (.errorResponse m.src)

/-- Beats put on the mesh (R146). -/
def State.fly (s : State) (f : Flight) : State := { s with mort := { s.mort with flights := s.mort.flights ++ [f] } }

/-- Stroke of issue of a target's answer: a scheduled one leaves as the target figure says, counted from the stroke the request was in
the target's router (R114, R146); a free one in the stroke of its delivery. -/
def State.answerAt (s : State) (m : Msg) : Nat :=
  match m.sched, s.route? (masterNode m.src) (nodeOf m.addr), targetFigure m.addr with
  | true, some r, some f => m.stroke + 2 * r.length + f
  | _, _, _ => s.stroke

/-- An answer of the target of a message on its way back over a route of its own: a read response, a write acknowledge or an error
response (R145, R147, R153). With no route back, NO_ROUTE sets and the source has an error response (R155). -/
def State.flyBack (s : State) (m : Msg) (r : Resp) : State :=
  match s.route? (nodeOf m.addr) (masterNode m.src) with
  | some back =>
    s.fly { body := .resp m r, sched := m.sched, owner := m.owner.val, route := back, start := s.answerAt m, head := s.answerAt m + 1 }
  | none => (s.setSticky .mort 0 4).respondHere m false m.addr

/-- A response sent to a processor; another master has its own error response. -/
def State.respond (s : State) (m : Msg) (err ecc : Bool) (low : Nat) (w : TWord) : State :=
  match m.src with
  | .proc p => s.flyBack m (respOf p m err ecc low w)
  | _ => if err then s.emit (.errorResponse m.src) else s

/-- An address lies in a role alias (R163, R198). -/
def inAlias (a : Nat) : Bool :=
  (decide (0x50F00000 ≤ a) && decide (a < 0x50F20000)) || (decide (0x51F00000 ≤ a) && decide (a < 0x51F02000)) ||
    (decide (0x52F00000 ≤ a) && decide (a < 0x52F02000))
/-- The address that a role alias stands for, by the units of a binding; an unused role, and cipher role 1, stand for none. -/
def aliasAddr (units : List Nat) (a : Nat) : Option Nat :=
  let pick (role base shift off : Nat) : Option Nat :=
    match units[role]? with
    | some u => if u = 0xFF then none else some (base + u * 2 ^ shift + off)
    | none => none
  if 0x50F00000 ≤ a ∧ a < 0x50F20000 then pick ((a - 0x50F00000) / 2 ^ 16) 0x50000000 17 (a % 2 ^ 16)
  else if 0x51F00000 ≤ a ∧ a < 0x51F02000 then pick (2 + (a - 0x51F00000) / 2 ^ 12) 0x51000000 12 (a % 2 ^ 12)
  else if 0x52F00000 ≤ a ∧ a < 0x52F01000 then pick 4 0x52000000 12 (a % 2 ^ 12)
  else none
/-- A scheduled beat's alias address is replaced, before the ACU check, by the units of the heat of its tile's pair (R163, R198). A
crypto request of a legacy instance goes to the same engine of the cluster that COX.LEGACY names (R132, log entry 102). -/
def State.unalias (s : State) (m : Msg) : Msg :=
  match m.src with
  | .proc (.tile c t) =>
    if m.sched then
      match (Sparse.get {} s.cox c.val).heats.find? fun h => decide (h.pair = t.val / 2) && !h.ended with
      | some h => { m with addr := (aliasAddr h.units m.addr).getD m.addr }
      | none => m
    else if (Sparse.get {} s.cox c.val).role = 2 ∧ 0x50000000 ≤ m.addr ∧ m.addr < 0x50600000 then
      { m with addr := 0x50000000 + (fld (s.reg .cox c.val 0x64) 8 2 * 24 + (m.addr - 0x50000000) / 2 ^ 16 % 24) * 2 ^ 16 + m.addr % 2 ^ 16 }
    else m
  | _ => m

/-- A message leaves its master: the ACU of the port checks every byte (R372), and a route must exist (R155); otherwise an error
response comes back. -/
def State.send (s : State) (m0 : Msg) : State :=
  let m := s.unalias m0
  let kind := match m.kind with | .read => 0 | .write => 1 | .keyWrite => 2
  match s.acuCheck m.src kind m.addr m.size with
  | some (low, r, k, mt) => (s.acuRecord m.src kind low r k mt).respondHere m false low
  | none =>
    match s.route? (masterNode m.src) (nodeOf m.addr) with
    | some route =>
      ({ s with mort := { s.mort with msgs := s.mort.msgs ++ [m] } } : State).fly
        { body := .req m, sched := m.sched, owner := m.owner.val, acu := m.src.acu, route := route, start := m.stroke, head := m.stroke + 1 }
    | none => (s.setSticky .mort 0 4).respondHere m false m.addr

/-- A course is signalled of a fault of the heat on one of its pairs: a trap code, 0xC late unit (ABORTED), 0xD occupancy mismatch, 0xE
lockstep (R151, R155, R188). Its Cox takes the signal up in the next stroke (R126). -/
def State.signalCourse (s : State) (c p cause : Nat) : State :=
  { s.emit (.courseSignal c cause) with sigs := s.sigs ++ [(c, p, cause)] }

/-- The endpoint code of an address, by the units of a binding (R119, R144); none for an endpoint that no path of a heat names. -/
def endpointCode (units : List Nat) (a : Nat) : Option Nat :=
  let role (lo n u : Nat) : Option Nat := (List.range n).find? fun i => decide (units[lo + i]? = some u)
  if 0x50000000 ≤ a ∧ a < 0x50600000 then (role 0 2 ((a - 0x50000000) / 2 ^ 17)).map (0x10 + ·)
  else if 0x51000000 ≤ a ∧ a < 0x51010000 then (role 2 2 ((a - 0x51000000) / 2 ^ 12)).map (0x20 + ·)
  else if 0x52000000 ≤ a ∧ a < 0x52010000 then (role 4 1 ((a - 0x52000000) / 2 ^ 12)).map (0x30 + ·)
  else if 0x10000000 ≤ a ∧ a < 0x11000000 then some 0x40
  else if 0x11000000 ≤ a ∧ a < 0x12000000 then some 0x41
  else none
/-- A scheduled send of a heat at a stroke or target that no mortar path of its plan's occupancy records holds (R126). The reject class is
part of the Arch firmware, and no path of it is known. -/
def State.offPath (s : State) (c p a : Nat) : Bool :=
  match (Sparse.get {} s.cox c).heats.find? fun h => decide (h.pair = p) && !h.ended with
  | none => false
  | some h =>
    let t := s.stroke - h.launch
    decide (h.cls ≠ 0) && !(h.plan.occ.any fun o => decide (o.res = 2) && decide (o.role = 0) && decide (o.start ≤ t) && decide (t < o.start + o.length) &&
      decide (endpointCode h.units ((aliasAddr h.units a).getD a) = some o.dest))
/-- A global access of a processor: for a lockstep pair the even tile sends it (R103). One that the occupancy records of the heat do not
hold is signalled to the Cox (R126). -/
def State.sendFrom (s0 : State) (p : ProcId) (kind : MsgKind) (addr size : Nat) (ws : List TWord) (dest : Nat) : State :=
  let x := s0.proc p
  let s := match p with
    | .tile c t => if x.sched && p.sends && s0.offPath c.val (t.val / 2) addr then s0.signalCourse c.val (t.val / 2) 13 else s0
    | _ => s0
  if x.sched && !p.sends then s
  else
    s.send { src := .proc p, sched := x.sched, owner := Fin.ofNat 16 (if x.sched then p.course else 0), kind := kind,
             addr := addr, size := size, data := ws, stroke := s.stroke, dest := dest, pc := x.pc }

/-! ### Instructions that wait for a load (R76) -/

/-- A message or response of one processor serves another: its own, and in scheduled mode that of its lockstep mate (R103). -/
def State.servesProc (s : State) (p : ProcId) (k : Nat) : Bool :=
  decide (k = p.key) || ((s.proc p).sched && decide (k = p.mate.key))

/-- Loads through a window that a processor has under way: destination register, and the last stroke of the TC-9 figure. -/
def State.loadsOf (s : State) (p : ProcId) : List (Nat × Option Nat) :=
  let of (m : Msg) : Option (Nat × Option Nat) := match m.kind, m.src with
    | .read, .proc q => if s.servesProc p q.key then some (m.dest, msgDue m) else none
    | _, _ => none
  s.mort.msgs.filterMap of ++
    (s.mort.flights.filterMap fun f => match f.body with | .resp m _ => of m | _ => none) ++
    (s.mort.resps.filterMap fun r => if r.dest < 32 && s.servesProc p r.proc then some (r.dest, r.due) else none)

/-- An instruction that names a register of a load under way waits for its response (R76, log entry 20); in scheduled mode it raises
SCHED_SLIP once the TC-9 figure has passed. t is what the instruction does when it can issue. -/
def State.whenReady (s : State) (p : ProcId) (regs : List Nat) (t : State) : State :=
  let x := s.proc p
  match (s.loadsOf p).find? fun l => decide (l.1 ≠ 0) && regs.contains l.1 with
  | none => t
  | some l =>
    if !x.canIssue then s
    else if x.sched && (match l.2 with | some d => decide (d < s.stroke) | none => false) then s.trap p schedSlip x.pc 0
    else s.setProc p { x with stall := some l.1 }

/-- The loads that a pair has under way are forgotten: an abort or a new launch takes no response of the heat before (R101). -/
def State.dropLoads (s : State) (ps : List ProcId) : State :=
  let mine (m : Msg) : Bool := decide (m.kind = .read) && ps.any fun p => decide (m.src = .proc p)
  { s with mort := { s.mort with
      msgs := s.mort.msgs.filter fun m => !mine m
      resps := s.mort.resps.filter fun r => !ps.any fun p => decide (r.proc = p.key)
      flights := s.mort.flights.filter fun f => match f.body with | .req m | .resp m _ => !mine m | _ => true } }

end Sys2Proof.Machine
end

