-- ==== Sys2Proof/Machine/Flags.lean ====
section
/-! DEFINITION. The results and tag rules of the computing instructions of R77 and R78, and CY, the one flag of GTIS. Each
function answers `none` for operand tags outside the instruction's row. -/

namespace Sys2Proof.Machine

/-- Both operands INT. -/
def onInt (a b : TWord) (f : Word → Word → Word) : Option TWord :=
  if a.tag = Tag.int ∧ b.tag = Tag.int then some (TWord.int (f a.data b.data)) else none
/-- Both operands LIMB. -/
def onLimb (a b : TWord) (f : Word → Word → Word) : Option TWord :=
  if a.tag = Tag.limb ∧ b.tag = Tag.limb then some ⟨f a.data b.data, Tag.limb⟩ else none
/-- ADD: I,I→I; P,I→P; I,P→P; T,I→T. -/
def addRes (a b : TWord) : Option TWord :=
  let w := a.data + b.data
  if a.tag = Tag.int ∧ b.tag = Tag.int then some ⟨w, Tag.int⟩
  else if a.tag = Tag.ptr ∧ b.tag = Tag.int then some ⟨w, Tag.ptr⟩
  else if a.tag = Tag.int ∧ b.tag = Tag.ptr then some ⟨w, Tag.ptr⟩
  else if a.tag = Tag.time ∧ b.tag = Tag.int then some ⟨w, Tag.time⟩
  else none
/-- SUB: I,I→I; P,I→P; P,P→I; T,I→T; T,T→I. -/
def subRes (a b : TWord) : Option TWord :=
  let w := a.data - b.data
  if a.tag = Tag.int ∧ b.tag = Tag.int then some ⟨w, Tag.int⟩
  else if a.tag = Tag.ptr ∧ b.tag = Tag.int then some ⟨w, Tag.ptr⟩
  else if a.tag = Tag.ptr ∧ b.tag = Tag.ptr then some ⟨w, Tag.int⟩
  else if a.tag = Tag.time ∧ b.tag = Tag.int then some ⟨w, Tag.time⟩
  else if a.tag = Tag.time ∧ b.tag = Tag.time then some ⟨w, Tag.int⟩
  else none
/-- I, P, L, H or T. -/
def dataTag (t : Tag) : Bool :=
  decide (t = Tag.int) || decide (t = Tag.ptr) || decide (t = Tag.limb) || decide (t = Tag.handle) || decide (t = Tag.time)
/-- Equal tags, each I, P, L, H or T. -/
def eqTags (a b : TWord) : Bool := decide (a.tag = b.tag) && dataTag a.tag
/-- I,I; P,P; T,T. -/
def ordTags (a b : TWord) : Bool :=
  decide (a.tag = b.tag) && (decide (a.tag = Tag.int) || decide (a.tag = Tag.ptr) || decide (a.tag = Tag.time))
/-- A truth value as INT 1 or INT 0. -/
def boolInt (b : Bool) : TWord := TWord.int (if b then 1 else 0)
/-- SEL: d is INT; a and b of equal tag. -/
def selRes (d a b : TWord) : Option TWord :=
  if d.tag = Tag.int ∧ eqTags a b then some (if d.data ≠ 0 then a else b) else none
/-- Byte reversal of a word. -/
def bswapWord (w : Word) : Word :=
  (w <<< 24) ||| ((w &&& 0xFF00#32) <<< 8) ||| ((w >>> 8) &&& 0xFF00#32) ||| (w >>> 24)
/-- BSWAP: I→I; L→L. -/
def bswapRes (a : TWord) : Option TWord :=
  if a.tag = Tag.int ∨ a.tag = Tag.limb then some ⟨bswapWord a.data, a.tag⟩ else none
/-- High half of an unsigned product. -/
def mulHiU (a b : Word) : Word := w32 (a.toNat * b.toNat / 2 ^ 32)
/-- High half of a signed product. -/
def mulHiS (a b : Word) : Word := BitVec.ofInt 32 (a.toInt * b.toInt / 2 ^ 32)
/-- LADDC: the sum with CY, and the carry out. -/
def laddc (a b : Word) (cy : Bool) : Word × Bool :=
  let n := a.toNat + b.toNat + cy.toNat
  (w32 n, decide (2 ^ 32 ≤ n))
/-- LSUBB: the difference with CY, and the borrow out. -/
def lsubb (a b : Word) (cy : Bool) : Word × Bool :=
  (a - b - (if cy then 1 else 0), decide (a.toNat < b.toNat + cy.toNat))
/-- CVT targets: INT, PTR, LIMB or TIME (R78). -/
def cvtTarget (t : Tag) : Bool :=
  decide (t = Tag.int) || decide (t = Tag.ptr) || decide (t = Tag.limb) || decide (t = Tag.time)
/-- CVT conversions (R78). -/
def cvtRes (a : TWord) (t : Tag) : Option TWord :=
  if a.tag = Tag.int ∧ cvtTarget t then some ⟨a.data, t⟩
  else if a.tag = Tag.ptr ∧ (t = Tag.int ∨ t = Tag.ptr) then some ⟨a.data, t⟩
  else if a.tag = Tag.limb ∧ (t = Tag.int ∨ t = Tag.limb) then some ⟨a.data, t⟩
  else if a.tag = Tag.time ∧ (t = Tag.int ∨ t = Tag.time) then some ⟨a.data, t⟩
  else none
/-- A copy with its tag: I, P, L, H, T. -/
def copyRes (a : TWord) : Option TWord := if dataTag a.tag then some a else none
/-- ADDI: I→I; P→P; T→T. -/
def addiRes (a : TWord) (imm : BitVec 16) : Option TWord :=
  if a.tag = Tag.int ∨ a.tag = Tag.ptr ∨ a.tag = Tag.time then some ⟨a.data + imm.signExtend 32, a.tag⟩ else none

end Sys2Proof.Machine
end

