-- ==== Sys2Proof/Machine/TileFlow.lean ====
section
/-! DEFINITION. Control flow, loops, waits and special registers of the GTIS processors (R65, R74, R75, R83-R97). END stands with
the heats in Course.lean. -/

namespace Sys2Proof.Machine

/-- A conditional branch (R77, R88, R89): the target is checked when the branch is taken. -/
def fBranch (p : ProcId) (a b : Fin 32) (off : BitVec 16) (ok : TWord → TWord → Bool) (cond : Word → Word → Bool) (s : State) :
    State :=
  let taken (x : Proc) : Bool := cond (x.r a.val).data (x.r b.val).data
  s.issue p true
    (fun x => [chkUse [x.r a.val, x.r b.val], chkTag (ok (x.r a.val) (x.r b.val))] ++
      s.chkTarget p (taken x) (branchTarget x.pc off))
    (fun x s => s.setProc p (if taken x then x.goto (branchTarget x.pc off) else x.advance))

/-- Two INT operands. -/
def intPair (a b : TWord) : Bool := decide (a.tag = Tag.int) && decide (b.tag = Tag.int)

/-- JMP (R77, R89). -/
def fJmp (p : ProcId) (off : BitVec 26) (s : State) : State :=
  s.issue p true (fun x => s.chkTarget p true (jumpTarget x.pc off))
    (fun x s => s.setProc p (x.goto (jumpTarget x.pc off)))

/-- JR (R77, R89): a target that is not a multiple of 4 raises ALIGN, one outside the code region ACCESS. -/
def fJr (p : ProcId) (a : Fin 32) (s : State) : State :=
  s.issue p true
    (fun x => [chkUse [x.r a.val], chkTag (decide ((x.r a.val).tag = Tag.ptr))] ++ s.chkTarget p true (x.r a.val).data)
    (fun x s => s.setProc p (x.goto (x.r a.val).data))

/-- CALL and CALLR (R83): the push, the update of b31 and the transfer; they close no loop (R89). -/
def State.callTo (s : State) (p : ProcId) (ops : Proc → List TWord) (target : Proc → Word) : State :=
  s.issue p true
    (fun x =>
      let sp := x.r 31
      let n := sp.data - 4
      let slot := chkSlot p x n true
      let tgt := s.chkTarget p true (target x)
      [chkUse (ops x ++ [sp]), chkTag ((ops x ++ [sp]).all fun w => decide (w.tag = Tag.ptr))] ++
        slot.take 1 ++ (slot.drop 1).take 1 ++ tgt.take 1 ++ (slot.drop 2).take 1 ++ tgt.drop 1 ++ slot.drop 3)
    (fun x s =>
      let n := (x.r 31).data - 4
      (s.putWord (stackKey p x n) ⟨(x.pc + 4) &&& ~~~3#32, Tag.code⟩).setProc p
        { x.setR 31 ⟨n, Tag.ptr⟩ with pc := target x })

/-- The processor after RET popped a return word (R84, R89, R99): a word with data[0] = 1 is a trap return, to TPC or, with SKIP,
TPC + 4, with the privilege of PPRIV. -/
def Proc.ret (x : Proc) (w : Word) : Proc :=
  let y := x.setR 31 ⟨(x.r 31).data + 4, Tag.ptr⟩
  if w.getLsbD 0 then
    { y.goto (if x.tskip then x.tpc + 4 else x.tpc) with super := x.tppriv, tactive := false }
  else y.goto (w &&& ~~~3#32)

/-- RET (R84, R85): the new b31 must not lie below slim (R63). -/
def fRet (p : ProcId) (s : State) : State :=
  s.issue p true
    (fun x =>
      let sp := x.r 31
      let w := s.word (stackKey p x sp.data)
      [chkUse [sp], chkTag (decide (sp.tag = Tag.ptr))] ++ chkSlot p x sp.data false ++
      [chkSp x 31 ⟨sp.data + 4, Tag.ptr⟩, { bad := decide (w.tag ≠ Tag.code), code := retTag },
       { bad := s.isBad (stackKey p x sp.data), code := eccUncorr, addr := sp.data }])
    (fun x s =>
      let k := stackKey p x (x.r 31).data
      (s.putWord k TWord.none).setProc p (x.ret (s.word k).data))

/-- LOOP and LOOPI open a loop (R86). A count of 0 opens none; that ls, le and lc of the loop stay unwritten then is the model's choice
(DESIGN CHOICE, log entry 87). -/
def Proc.openLoop (x : Proc) (count off : Word) : Proc :=
  let e := x.pc + (off <<< 2)
  if count = 0 then { x with pc := e + 4 }
  else
    let n := x.ldepth
    ({ x with ls := Sparse.set 0 x.ls n (x.pc + 4), le := Sparse.set 0 x.le n e, lc := Sparse.set 0 x.lc n count,
              ldepth := n + 1, pc := x.pc + 4 })

/-- The body end is in range: off above 0, and an inner loop ends within the loop that encloses it (R86, R88). A LOOP of count 0
opens no loop, so the model does not hold its end to the enclosing loop (DESIGN CHOICE, log entry 87). -/
def Proc.loopLegal (x : Proc) (off : BitVec 16) (opens : Bool) : Bool :=
  decide (0 < off.toInt) &&
    !(opens && decide (0 < x.ldepth) &&
      decide ((Sparse.get 0 x.le (x.ldepth - 1)).toNat < (branchTarget x.pc off).toNat))

/-- LOOP (R86, R88, R90). At LDEPTH 4 an end beyond le_3 is ILLEGAL, which the order of R80 puts before LOOP_DEPTH; R90 does not
say so of loops that would not open (DESIGN CHOICE, log entry 87). -/
def fLoop (p : ProcId) (a : Fin 32) (off : BitVec 16) (s : State) : State :=
  s.issue p true
    (fun x =>
      [chkLegal (x.loopLegal off (decide ((x.r a.val).data ≠ 0))), chkUse [x.r a.val],
       chkTag (decide ((x.r a.val).tag = Tag.int)), { bad := decide (4 ≤ x.ldepth), code := loopDepth }])
    (fun x s => s.setProc p (x.openLoop (x.r a.val).data (off.signExtend 32)))

/-- LOOPI (R77, R86, R88, R90): a count of 0 is ILLEGAL. -/
def fLoopi (p : ProcId) (n : Fin 1024) (off : BitVec 16) (s : State) : State :=
  s.issue p true
    (fun x => [chkLegal (decide (n.val ≠ 0) && x.loopLegal off true), { bad := decide (4 ≤ x.ldepth), code := loopDepth }])
    (fun x s => s.setProc p (x.openLoop (w32 n.val) (off.signExtend 32)))

/-- WFE (R92): completes at once with a mask of 0 or a selected line pending; otherwise it waits in free mode and raises
SCHED_SLIP in scheduled mode. -/
def fWfe (p : ProcId) (a : Fin 32) (s : State) : State :=
  s.issue p true
    (fun x =>
      [chkUse [x.r a.val], chkTag (decide ((x.r a.val).tag = Tag.int)),
       { bad := x.sched && decide ((x.r a.val).data ≠ 0) && decide (x.lines &&& (x.r a.val).data = 0), code := schedSlip }])
    (fun x s =>
      let m := (x.r a.val).data
      if m = 0 ∨ x.lines &&& m ≠ 0 then s.thenNext p { x with lines := x.lines &&& ~~~m }
      else s.setProc p { x with wait := some (1, m.toNat) })

/-- WFE_COMPLETE (R92): the selected pending lines are cleared; one delivered in the same stroke stays set. -/
def fWfeComplete (p : ProcId) (delivered : Word) (s : State) : State :=
  let x := s.proc p
  match x.wait with
  | some (1, m) =>
    if x.lines &&& w32 m ≠ 0 then
      s.setProc p ({ x with wait := none, lines := (x.lines &&& ~~~w32 m) ||| (delivered &&& w32 m) }).advance
    else s
  | _ => s

/-- SEV (R77, R93): the line is set in the named tiles of the own course 2 strokes later. A Keystone core has no course: its SEV
sets no line, which the spec does not say (DESIGN CHOICE, log entry 15). -/
def fSev (p : ProcId) (a : Fin 32) (line : Fin 32) (s : State) : State :=
  s.issue p false
    (fun x => [chkUse [x.r a.val], chkTag (decide ((x.r a.val).tag = Tag.int))])
    (fun x s =>
      let s1 := if p.isKs then s
        else { s with sevs := s.sevs ++ [(s.stroke + 2, p.course, fld (x.r a.val).data 0 16, line.val)] }
      s1.thenNext p x)

/-- SEV_DELIVERY (R91, R93): the deliveries that are due. -/
def fSevDelivery (s : State) : State :=
  let due := s.sevs.filter fun e => decide (e.1 ≤ s.stroke)
  due.foldl (fun s e => s.setLines (Fin.ofNat 16 e.2.1) e.2.2.1 e.2.2.2)
    { s with sevs := s.sevs.filter fun e => decide (s.stroke < e.1) }

/-- SEVG (R35, R77, R93): a software event at the router in the next stroke; another number sets EVT.STKY.CMD_REJECT. -/
def fSevg (p : ProcId) (a : Fin 32) (s : State) : State :=
  s.issue p false
    (fun x => [chkUse [x.r a.val], chkTag (decide ((x.r a.val).tag = Tag.int))])
    (fun x s =>
      let ev := (x.r a.val).data.toNat
      let s1 := if evtSoftware ev then { s with sevg := ev :: s.sevg } else s.setSticky .evt 0 0
      s1.thenNext p x)

/-- The TIME pair of WAITC. -/
def waitTarget (x : Proc) (a : Fin 32) : Nat := (x.r a.val).data.toNat + 2 ^ 32 * (x.r (a.val + 1)).data.toNat

/-- WAITC (R77, R95): a is even; in scheduled mode a target already past raises SCHED_SLIP. -/
def fWaitc (p : ProcId) (a : Fin 32) (s : State) : State :=
  s.issue p true
    (fun x =>
      [chkLegal (decide (a.val % 2 = 0)), chkUse [x.r a.val, x.r (a.val + 1)],
       chkTag (decide ((x.r a.val).tag = Tag.time) && decide ((x.r (a.val + 1)).tag = Tag.time)),
       { bad := x.sched && decide (waitTarget x a < s.counter p), code := schedSlip }])
    (fun x s =>
      if waitTarget x a ≤ s.counter p + 1 then s.thenNext p x
      else s.setProc p { x with wait := some (2, waitTarget x a) })

/-- WAITC_COMPLETE (R95). -/
def fWaitcComplete (p : ProcId) (s : State) : State :=
  let x := s.proc p
  match x.wait with
  | some (2, t) => if t ≤ s.counter p then s.setProc p ({ x with wait := none }).advance else s
  | _ => s

/-- RDSCL (R77, R95): bits [31:0] of the counter, with [63:32] latched. -/
def fRdscl (p : ProcId) (d : Fin 32) (s : State) : State :=
  let w : TWord := ⟨w32 (s.counter p), Tag.time⟩
  s.issue p false (fun x => [chkTag (spTagOk d.val w), chkSp x d.val w])
    (fun x s => s.thenNext p { x.setR d.val w with sclHi := w32 (s.counter p / 2 ^ 32) })

/-- RDSCH (R77). -/
def fRdsch (p : ProcId) (d : Fin 32) (s : State) : State :=
  s.compute p d.val (fun _ => []) (fun x => some ⟨x.sclHi, Tag.time⟩)

/-- MODE (R65). -/
def modeWord (p : ProcId) (x : Proc) : Word := flag x.sched 0 ||| flag x.super 1 ||| flag p.isKs 2

/-- A special register as MFS reads it; `none` for a reserved number (R65, R97). -/
def specialReg (p : ProcId) (x : Proc) (n : Nat) : Option TWord :=
  if n = 0x000 then some (TWord.int (w32 p.tileId))
  else if n = 0x001 then some (TWord.int (modeWord p x))
  else if n = 0x002 then some (TWord.int (flag x.cy 0))
  else if n = 0x003 then some ⟨x.slim, Tag.ptr⟩
  else if n = 0x004 then some (TWord.int (x.gwin.zeroExtend 32))
  else if 0x008 ≤ n ∧ n < 0x00C then some ⟨Sparse.get 0 x.ls (n - 0x008), Tag.ptr⟩
  else if 0x00C ≤ n ∧ n < 0x010 then some ⟨Sparse.get 0 x.le (n - 0x00C), Tag.ptr⟩
  else if 0x010 ≤ n ∧ n < 0x014 then some (TWord.int (Sparse.get 0 x.lc (n - 0x010)))
  else if n = 0x014 then some (TWord.int (w32 x.ldepth))
  else if n = 0x040 then some (TWord.int x.tcause)
  else if n = 0x041 then some ⟨x.tpc, Tag.ptr⟩
  else if n = 0x042 then some (TWord.int x.taddr)
  else if n = 0x043 then some (TWord.int (flag x.tactive 0 ||| flag x.tppriv 1 ||| flag x.tskip 2))
  else if n = 0x044 then some ⟨x.tvec, Tag.ptr⟩
  else if n = 0x045 then some ⟨w32 x.ttime, Tag.time⟩
  else if n = 0x046 then some ⟨w32 (x.ttime / 2 ^ 32), Tag.time⟩
  else if n = 0x047 then some (TWord.int (w32 x.tldepth))
  else none

/-- MFS (R65, R77). -/
def fMfs (p : ProcId) (d : Fin 32) (n : Fin 1024) (s : State) : State :=
  s.compute p d.val (fun _ => []) (fun x => specialReg p x n.val) (fun x => (specialReg p x n.val).isSome)

/-- MTS may write the register at the present privilege and mode (R65, R66, R97). -/
def mtsLegal (x : Proc) (n : Nat) : Bool :=
  decide (n = 0x002) || decide (n = 0x004) || (x.super && (decide (n = 0x003) || decide (n = 0x043) || decide (n = 0x044))) ||
    (x.super && !x.sched && decide (0x008 ≤ n) && decide (n < 0x014))

/-- The fixed tag of a special register that MTS writes (R65, R97). -/
def mtsTag (n : Nat) : Tag :=
  if n = 0x003 ∨ n = 0x044 ∨ (0x008 ≤ n ∧ n < 0x010) then Tag.ptr else Tag.int

/-- The write of a special register: reserved and read-only bits keep their place. -/
def Proc.mts (x : Proc) (n : Nat) (w : Word) : Proc :=
  if n = 0x002 then { x with cy := w.getLsbD 0 }
  else if n = 0x003 then { x with slim := w }
  else if n = 0x004 then { x with gwin := w.truncate 9 }
  else if n = 0x043 then { x with tskip := w.getLsbD 2 }
  else if n = 0x044 then { x with tvec := w }
  else if n < 0x00C then { x with ls := Sparse.set 0 x.ls (n - 0x008) w }
  else if n < 0x010 then { x with le := Sparse.set 0 x.le (n - 0x00C) w }
  else { x with lc := Sparse.set 0 x.lc (n - 0x010) w }

/-- MTS (R65, R77). -/
def fMts (p : ProcId) (a : Fin 32) (n : Fin 1024) (s : State) : State :=
  s.issue p false
    (fun x => [chkLegal (mtsLegal x n.val), chkUse [x.r a.val], chkTag (decide ((x.r a.val).tag = mtsTag n.val))])
    (fun x s => s.thenNext p (x.mts n.val (x.r a.val).data))

/-- FENCE (R66, R77, R153): free mode only; it waits until every earlier global store is acknowledged. -/
def fFence (p : ProcId) (s : State) : State :=
  s.issue p false (fun x => [chkLegal (!x.sched)])
    (fun x s => if x.outStores = 0 then s.thenNext p x else s.setProc p { x with wait := some (3, 0) })

/-- FENCE_COMPLETE (R77). -/
def fFenceComplete (p : ProcId) (s : State) : State :=
  let x := s.proc p
  match x.wait with
  | some (3, _) => if x.outStores = 0 then s.setProc p ({ x with wait := none }).advance else s
  | _ => s

/-! ### Encodings (R74, R75) -/

/-- An R-format word: fields that an instruction does not use are 0. -/
def rFormOk (w : Word) (func : Nat) (usesA usesB : Bool) : Bool :=
  decide (fld w 0 11 = func) && (usesA || decide (fld w 16 5 = 0)) && (usesB || decide (fld w 11 5 = 0))

/-- The encoding is one of R74 and R77: opcode, func and unused fields. -/
def encodingLegal (w : Word) : Bool :=
  let op := fld w 26 6
  let func := fld w 0 11
  let kOk (lo : Nat) : Bool := decide (fld w lo 5 < 16)
  if op = 0x00 then decide (1 ≤ func) && decide (func ≤ 0x010) && (decide (func ≠ 0x010) || decide (fld w 11 5 = 0))
  else if op = 0x01 then decide (1 ≤ func) && decide (func ≤ 3)
  else if op = 0x02 then decide (1 ≤ func) && decide (func ≤ 4)
  else if op = 0x03 then
    rFormOk w 1 true false || (decide (func = 2) && decide (fld w 15 1 = 0) && cvtTarget (BitVec.ofNat 4 (fld w 11 4))) ||
      rFormOk w 3 true false || rFormOk w 4 false false
  else if op = 0x0B then decide (func = 0) && decide (fld w 21 1 = 0) && decide (fld w 16 1 = 0)
  else if 0x04 ≤ op ∧ op ≤ 0x09 then true
  else if op = 0x0A then decide (fld w 16 5 = 0)
  else if (0x10 ≤ op ∧ op ≤ 0x12) ∨ (0x14 ≤ op ∧ op ≤ 0x16) then true
  else if 0x18 ≤ op ∧ op ≤ 0x1A then kOk 21
  else if op = 0x1B then
    (rFormOk w 1 true false && kOk 21 && kOk 16) || (rFormOk w 2 false false && kOk 21) || (rFormOk w 3 true false && kOk 16) ||
      (rFormOk w 5 true false && kOk 21)
  else if op = 0x1C then decide (fld w 21 5 = 0)
  else if 0x20 ≤ op ∧ op ≤ 0x25 then true
  else if op = 0x28 ∨ op = 0x29 then true
  else if op = 0x2A ∨ op = 0x2B then decide (fld w 21 5 = 0) && decide (fld w 0 16 = 0)
  else if op = 0x30 then decide (fld w 21 5 = 0) && decide (0 < (w.truncate 16).toInt)
  else if op = 0x31 then decide (fld w 16 10 ≠ 0) && decide (0 < (w.truncate 16).toInt)
  else if op = 0x38 then
    let f := fld w 10 6
    let d0 := decide (fld w 21 5 = 0)
    let a0 := decide (fld w 16 5 = 0)
    let i0 := decide (fld w 0 10 = 0)
    if f ≤ 2 ∨ f = 0x0C then d0 && a0 && i0
    else if f = 3 ∨ f = 5 then d0 && i0
    else if f = 4 then d0 && decide (fld w 5 5 = 0)
    else if f = 6 then d0 && i0 && decide (fld w 16 1 = 0)
    else if f = 7 ∨ f = 8 then a0 && i0
    else if f = 9 then a0 && (specialReg (.tile 0 0) {} (fld w 0 10)).isSome
    else if f = 0x0A then d0 && (specialReg (.tile 0 0) {} (fld w 0 10)).isSome
    else if f = 0x0B then decide (fld w 4 6 = 0) && dataTag (BitVec.ofNat 4 (fld w 0 4))
    else false
  else false

/-- ILLEGAL_INSTRUCTION (R75): a word outside the encodings raises ILLEGAL when it issues. -/
def fIllegal (p : ProcId) (w : Word) (s : State) : State :=
  if encodingLegal w then s else s.issue p false (fun _ => [chkLegal false]) (fun _ s => s)

/-- Beq. -/
def execBeq (p : ProcId) (a b : Fin 32) (off : BitVec 16) (s : State) : Host.Outcome State Fault Refusal :=
  .next (s.whenReady p [a.val, b.val] (fBranch p a b off eqTags (fun u v => decide (u = v)) s))

/-- Bne. -/
def execBne (p : ProcId) (a b : Fin 32) (off : BitVec 16) (s : State) : Host.Outcome State Fault Refusal :=
  .next (s.whenReady p [a.val, b.val] (fBranch p a b off eqTags (fun u v => decide (u ≠ v)) s))

/-- Blt. -/
def execBlt (p : ProcId) (a b : Fin 32) (off : BitVec 16) (s : State) : Host.Outcome State Fault Refusal :=
  .next (s.whenReady p [a.val, b.val] (fBranch p a b off intPair (fun u v => u.slt v) s))

/-- Bge. -/
def execBge (p : ProcId) (a b : Fin 32) (off : BitVec 16) (s : State) : Host.Outcome State Fault Refusal :=
  .next (s.whenReady p [a.val, b.val] (fBranch p a b off intPair (fun u v => !u.slt v) s))

/-- Bltu. -/
def execBltu (p : ProcId) (a b : Fin 32) (off : BitVec 16) (s : State) : Host.Outcome State Fault Refusal :=
  .next (s.whenReady p [a.val, b.val] (fBranch p a b off ordTags (fun u v => u.ult v) s))

/-- Bgeu. -/
def execBgeu (p : ProcId) (a b : Fin 32) (off : BitVec 16) (s : State) : Host.Outcome State Fault Refusal :=
  .next (s.whenReady p [a.val, b.val] (fBranch p a b off ordTags (fun u v => !u.ult v) s))

/-- Jmp. -/
def execJmp (p : ProcId) (off : BitVec 26) (s : State) : Host.Outcome State Fault Refusal :=
  .next (fJmp p off s)

/-- Call. -/
def execCall (p : ProcId) (off : BitVec 26) (s : State) : Host.Outcome State Fault Refusal :=
  .next (s.whenReady p [31] (s.callTo p (fun _ => []) (fun x => jumpTarget x.pc off)))

/-- Jr. -/
def execJr (p : ProcId) (a : Fin 32) (s : State) : Host.Outcome State Fault Refusal :=
  .next (s.whenReady p [a.val] (fJr p a s))

/-- Callr. -/
def execCallr (p : ProcId) (a : Fin 32) (s : State) : Host.Outcome State Fault Refusal :=
  .next (s.whenReady p [a.val, 31] (s.callTo p (fun x => [x.r a.val]) (fun x => (x.r a.val).data)))

/-- Loop. -/
def execLoop (p : ProcId) (a : Fin 32) (off : BitVec 16) (s : State) : Host.Outcome State Fault Refusal :=
  .next (s.whenReady p [a.val] (fLoop p a off s))

/-- Loopi. -/
def execLoopi (p : ProcId) (n : Fin 1024) (off : BitVec 16) (s : State) : Host.Outcome State Fault Refusal :=
  .next (fLoopi p n off s)

/-- Nop. -/
def execNop (p : ProcId) (s : State) : Host.Outcome State Fault Refusal :=
  .next (s.issue p false (fun _ => []) (fun x s => s.thenNext p x))

/-- Ret. -/
def execRet (p : ProcId) (s : State) : Host.Outcome State Fault Refusal :=
  .next (s.whenReady p [31] (fRet p s))

/-- Wfe. -/
def execWfe (p : ProcId) (a : Fin 32) (s : State) : Host.Outcome State Fault Refusal :=
  .next (s.whenReady p [a.val] (fWfe p a s))

/-- WfeComplete. -/
def execWfeComplete (p : ProcId) (delivered : Word) (s : State) : Host.Outcome State Fault Refusal :=
  .next (fWfeComplete p delivered s)

/-- Sev. -/
def execSev (p : ProcId) (a : Fin 32) (line : Fin 32) (s : State) : Host.Outcome State Fault Refusal :=
  .next (s.whenReady p [a.val] (fSev p a line s))

/-- SevDelivery. -/
def execSevDelivery  (s : State) : Host.Outcome State Fault Refusal :=
  .next (fSevDelivery s)

/-- Sevg. -/
def execSevg (p : ProcId) (a : Fin 32) (s : State) : Host.Outcome State Fault Refusal :=
  .next (s.whenReady p [a.val] (fSevg p a s))

/-- Waitc. -/
def execWaitc (p : ProcId) (a : Fin 32) (s : State) : Host.Outcome State Fault Refusal :=
  .next (s.whenReady p [a.val, a.val + 1] (fWaitc p a s))

/-- WaitcComplete. -/
def execWaitcComplete (p : ProcId) (s : State) : Host.Outcome State Fault Refusal :=
  .next (fWaitcComplete p s)

/-- Rdscl. -/
def execRdscl (p : ProcId) (d : Fin 32) (s : State) : Host.Outcome State Fault Refusal :=
  .next (s.whenReady p [d.val] (fRdscl p d s))

/-- Rdsch. -/
def execRdsch (p : ProcId) (d : Fin 32) (s : State) : Host.Outcome State Fault Refusal :=
  .next (s.whenReady p [d.val] (fRdsch p d s))

/-- Mfs. -/
def execMfs (p : ProcId) (d : Fin 32) (n : Fin 1024) (s : State) : Host.Outcome State Fault Refusal :=
  .next (s.whenReady p [d.val] (fMfs p d n s))

/-- Mts. -/
def execMts (p : ProcId) (a : Fin 32) (n : Fin 1024) (s : State) : Host.Outcome State Fault Refusal :=
  .next (s.whenReady p [a.val] (fMts p a n s))

/-- Fence. -/
def execFence (p : ProcId) (s : State) : Host.Outcome State Fault Refusal :=
  .next (fFence p s)

/-- FenceComplete. -/
def execFenceComplete (p : ProcId) (s : State) : Host.Outcome State Fault Refusal :=
  .next (fFenceComplete p s)

/-- IllegalInstruction. -/
def execIllegalInstruction (p : ProcId) (w : Word) (s : State) : Host.Outcome State Fault Refusal :=
  .next (fIllegal p w s)

end Sys2Proof.Machine
end

