-- ==== Sys2Proof/Machine/Encoding.lean ====
section
/-! DEFINITION. GTIS instruction words (R74, R75, R77): the command that the issue of a word is, the word of an instruction, and the
word that a processor's pc points at. A row of the table is the instruction itself, so no meaning goes through these (log entry 11). -/

namespace Sys2Proof.Machine

/-- A register field. -/
def regField (w : Word) (lo : Nat) : Fin 32 := Fin.ofNat 32 (fld w lo 5)

/-- The ALU group (op 0x00). -/
def aluGroup (p : ProcId) (w : Word) : Option Instr :=
  let d := regField w 21
  let a := regField w 16
  let b := regField w 11
  match fld w 0 11 with
  | 0x001 => some (.add p d a b)
  | 0x002 => some (.sub p d a b)
  | 0x003 => some (.and p d a b)
  | 0x004 => some (.or p d a b)
  | 0x005 => some (.xor p d a b)
  | 0x006 => some (.sll p d a b)
  | 0x007 => some (.srl p d a b)
  | 0x008 => some (.sra p d a b)
  | 0x009 => some (.slli p d a b)
  | 0x00A => some (.srli p d a b)
  | 0x00B => some (.srai p d a b)
  | 0x00C => some (.slt p d a b)
  | 0x00D => some (.sltu p d a b)
  | 0x00E => some (.seq p d a b)
  | 0x00F => some (.sel p d a b)
  | 0x010 => some (.bswap p d a)
  | _ => none

/-- The multiply, limb, tag and key groups (ops 0x01-0x03 and 0x1B). -/
def otherGroup (p : ProcId) (op : Nat) (w : Word) : Option Instr :=
  let d := regField w 21
  let a := regField w 16
  let b := regField w 11
  match op, fld w 0 11 with
  | 0x01, 1 => some (.mul p d a b)
  | 0x01, 2 => some (.mulhu p d a b)
  | 0x01, 3 => some (.mulh p d a b)
  | 0x02, 1 => some (.laddc p d a b)
  | 0x02, 2 => some (.lsubb p d a b)
  | 0x02, 3 => some (.lmull p d a b)
  | 0x02, 4 => some (.lmulh p d a b)
  | 0x03, 1 => some (.mov p d a)
  | 0x03, 2 => some (.cvt p d a (BitVec.ofNat 4 (fld w 11 4)))
  | 0x03, 3 => some (.tagof p d a)
  | 0x03, 4 => some (.clrt p d)
  | 0x1B, 1 => some (.kmov p d a)
  | 0x1B, 2 => some (.kclr p d)
  | 0x1B, 3 => some (.ktagof p d a)
  | 0x1B, 5 => some (.mkey p d a)
  | _, _ => none

/-- The system group (op 0x38). -/
def systemGroup (p : ProcId) (w : Word) : Option Instr :=
  let d := regField w 21
  let a := regField w 16
  match fld w 10 6 with
  | 0x00 => some (.nop p)
  | 0x01 => some (.ret p)
  | 0x02 => some (.endHeat p)
  | 0x03 => some (.wfe p a)
  | 0x04 => some (.sev p a (regField w 0))
  | 0x05 => some (.sevg p a)
  | 0x06 => some (.waitc p a)
  | 0x07 => some (.rdscl p d)
  | 0x08 => some (.rdsch p d)
  | 0x09 => some (.mfs p d (Fin.ofNat 1024 (fld w 0 10)))
  | 0x0A => some (.mts p a (Fin.ofNat 1024 (fld w 0 10)))
  | 0x0B => some (.tag p d a (BitVec.ofNat 4 (fld w 0 4)))
  | 0x0C => some (.fence p)
  | _ => none

/-- The fields of a word read by its opcode (R74, the opcode map). -/
def gtisFields (p : ProcId) (w : Word) : Option Instr :=
  let x := regField w 21
  let y := regField w 16
  let imm := BitVec.ofNat 16 (fld w 0 16)
  let off := BitVec.ofNat 26 (fld w 0 26)
  match fld w 26 6 with
  | 0x00 => aluGroup p w
  | 0x04 => some (.addi p x y imm)
  | 0x05 => some (.andi p x y imm)
  | 0x06 => some (.ori p x y imm)
  | 0x07 => some (.xori p x y imm)
  | 0x08 => some (.slti p x y imm)
  | 0x09 => some (.sltiu p x y imm)
  | 0x0A => some (.lui p x imm)
  | 0x0B => some (.tadd p x y (regField w 11))
  | 0x10 => some (.ldw p x y imm)
  | 0x11 => some (.ldh p x y imm)
  | 0x12 => some (.ldb p x y imm)
  | 0x14 => some (.stw p x y imm)
  | 0x15 => some (.sth p x y imm)
  | 0x16 => some (.stb p x y imm)
  | 0x18 => some (.lkey p x y imm)
  | 0x19 => some (.skey p x y imm)
  | 0x1A => some (.kput p x y imm)
  | 0x1C => some (.kwipe p y imm)
  | 0x20 => some (.beq p x y imm)
  | 0x21 => some (.bne p x y imm)
  | 0x22 => some (.blt p x y imm)
  | 0x23 => some (.bge p x y imm)
  | 0x24 => some (.bltu p x y imm)
  | 0x25 => some (.bgeu p x y imm)
  | 0x28 => some (.jmp p off)
  | 0x29 => some (.call p off)
  | 0x2A => some (.jr p y)
  | 0x2B => some (.callr p y)
  | 0x30 => some (.loop p y imm)
  | 0x31 => some (.loopi p (Fin.ofNat 1024 (fld w 16 10)) imm)
  | 0x38 => systemGroup p w
  | op => otherGroup p op w

/-- The command that the issue of a word by a processor is: its instruction, or ILLEGAL_INSTRUCTION with the word (R75). -/
def gtisDecode (p : ProcId) (w : Word) : Instr :=
  if encodingLegal w then (gtisFields p w).getD (.illegalInstruction p w) else .illegalInstruction p w

/-- A word by its fields [31:26], [25:21], [20:16] and the low half. -/
def wordOf (op x y low : Nat) : Word := w32 (op * 2 ^ 26 + x * 2 ^ 21 + y * 2 ^ 16 + low)

/-- The word of a GTIS instruction (R74, R77) with the processor that issues it; `none` for every other command. -/
def gtisWord : Instr → Option (ProcId × Word)
  | .add p d a b => some (p, wordOf 0x00 d a (b * 2 ^ 11 + 0x001))
  | .sub p d a b => some (p, wordOf 0x00 d a (b * 2 ^ 11 + 0x002))
  | .and p d a b => some (p, wordOf 0x00 d a (b * 2 ^ 11 + 0x003))
  | .or p d a b => some (p, wordOf 0x00 d a (b * 2 ^ 11 + 0x004))
  | .xor p d a b => some (p, wordOf 0x00 d a (b * 2 ^ 11 + 0x005))
  | .sll p d a b => some (p, wordOf 0x00 d a (b * 2 ^ 11 + 0x006))
  | .srl p d a b => some (p, wordOf 0x00 d a (b * 2 ^ 11 + 0x007))
  | .sra p d a b => some (p, wordOf 0x00 d a (b * 2 ^ 11 + 0x008))
  | .slli p d a sh => some (p, wordOf 0x00 d a (sh * 2 ^ 11 + 0x009))
  | .srli p d a sh => some (p, wordOf 0x00 d a (sh * 2 ^ 11 + 0x00A))
  | .srai p d a sh => some (p, wordOf 0x00 d a (sh * 2 ^ 11 + 0x00B))
  | .slt p d a b => some (p, wordOf 0x00 d a (b * 2 ^ 11 + 0x00C))
  | .sltu p d a b => some (p, wordOf 0x00 d a (b * 2 ^ 11 + 0x00D))
  | .seq p d a b => some (p, wordOf 0x00 d a (b * 2 ^ 11 + 0x00E))
  | .sel p d a b => some (p, wordOf 0x00 d a (b * 2 ^ 11 + 0x00F))
  | .bswap p d a => some (p, wordOf 0x00 d a 0x010)
  | .mul p d a b => some (p, wordOf 0x01 d a (b * 2 ^ 11 + 1))
  | .mulhu p d a b => some (p, wordOf 0x01 d a (b * 2 ^ 11 + 2))
  | .mulh p d a b => some (p, wordOf 0x01 d a (b * 2 ^ 11 + 3))
  | .laddc p d a b => some (p, wordOf 0x02 d a (b * 2 ^ 11 + 1))
  | .lsubb p d a b => some (p, wordOf 0x02 d a (b * 2 ^ 11 + 2))
  | .lmull p d a b => some (p, wordOf 0x02 d a (b * 2 ^ 11 + 3))
  | .lmulh p d a b => some (p, wordOf 0x02 d a (b * 2 ^ 11 + 4))
  | .mov p d a => some (p, wordOf 0x03 d a 1)
  | .cvt p d a t => some (p, wordOf 0x03 d a (t.toNat * 2 ^ 11 + 2))
  | .tagof p d a => some (p, wordOf 0x03 d a 3)
  | .clrt p d => some (p, wordOf 0x03 d 0 4)
  | .tadd p d a b => some (p, wordOf 0x0B d a (b * 2 ^ 11))
  | .addi p d a i => some (p, wordOf 0x04 d a i.toNat)
  | .andi p d a i => some (p, wordOf 0x05 d a i.toNat)
  | .ori p d a i => some (p, wordOf 0x06 d a i.toNat)
  | .xori p d a i => some (p, wordOf 0x07 d a i.toNat)
  | .slti p d a i => some (p, wordOf 0x08 d a i.toNat)
  | .sltiu p d a i => some (p, wordOf 0x09 d a i.toNat)
  | .lui p d i => some (p, wordOf 0x0A d 0 i.toNat)
  | .ldw p d a i => some (p, wordOf 0x10 d a i.toNat)
  | .ldh p d a i => some (p, wordOf 0x11 d a i.toNat)
  | .ldb p d a i => some (p, wordOf 0x12 d a i.toNat)
  | .stw p s a i => some (p, wordOf 0x14 s a i.toNat)
  | .sth p s a i => some (p, wordOf 0x15 s a i.toNat)
  | .stb p s a i => some (p, wordOf 0x16 s a i.toNat)
  | .lkey p k a i => some (p, wordOf 0x18 k a i.toNat)
  | .skey p k a i => some (p, wordOf 0x19 k a i.toNat)
  | .kput p k a i => some (p, wordOf 0x1A k a i.toNat)
  | .kwipe p a i => some (p, wordOf 0x1C 0 a i.toNat)
  | .kmov p kd ks => some (p, wordOf 0x1B kd ks 1)
  | .kclr p kd => some (p, wordOf 0x1B kd 0 2)
  | .ktagof p d k => some (p, wordOf 0x1B d k 3)
  | .mkey p kd a => some (p, wordOf 0x1B kd a 5)
  | .beq p a b o => some (p, wordOf 0x20 a b o.toNat)
  | .bne p a b o => some (p, wordOf 0x21 a b o.toNat)
  | .blt p a b o => some (p, wordOf 0x22 a b o.toNat)
  | .bge p a b o => some (p, wordOf 0x23 a b o.toNat)
  | .bltu p a b o => some (p, wordOf 0x24 a b o.toNat)
  | .bgeu p a b o => some (p, wordOf 0x25 a b o.toNat)
  | .jmp p o => some (p, w32 (0x28 * 2 ^ 26 + o.toNat))
  | .call p o => some (p, w32 (0x29 * 2 ^ 26 + o.toNat))
  | .jr p a => some (p, wordOf 0x2A 0 a 0)
  | .callr p a => some (p, wordOf 0x2B 0 a 0)
  | .loop p a o => some (p, wordOf 0x30 0 a o.toNat)
  | .loopi p n o => some (p, w32 (0x31 * 2 ^ 26 + n * 2 ^ 16 + o.toNat))
  | .nop p => some (p, wordOf 0x38 0 0 0)
  | .ret p => some (p, wordOf 0x38 0 0 (0x01 * 2 ^ 10))
  | .endHeat p => some (p, wordOf 0x38 0 0 (0x02 * 2 ^ 10))
  | .wfe p a => some (p, wordOf 0x38 0 a (0x03 * 2 ^ 10))
  | .sev p a l => some (p, wordOf 0x38 0 a (0x04 * 2 ^ 10 + l))
  | .sevg p a => some (p, wordOf 0x38 0 a (0x05 * 2 ^ 10))
  | .waitc p a => some (p, wordOf 0x38 0 a (0x06 * 2 ^ 10))
  | .rdscl p d => some (p, wordOf 0x38 d 0 (0x07 * 2 ^ 10))
  | .rdsch p d => some (p, wordOf 0x38 d 0 (0x08 * 2 ^ 10))
  | .mfs p d n => some (p, wordOf 0x38 d 0 (0x09 * 2 ^ 10 + n))
  | .mts p a n => some (p, wordOf 0x38 0 a (0x0A * 2 ^ 10 + n))
  | .tag p d a t => some (p, wordOf 0x38 d a (0x0B * 2 ^ 10 + t.toNat))
  | .fence p => some (p, wordOf 0x38 0 0 (0x0C * 2 ^ 10))
  | _ => none

/-- The command that a processor's next issue is, as its code memory stands. -/
def State.nextIssue (s : State) (p : ProcId) : Instr := gtisDecode p (s.word (codeKey p (s.proc p).pc.toNat)).data

end Sys2Proof.Machine
end

