-- ==== Sys2Proof/Machine/Crypto.lean ====
section
/-! DEFINITION. The functions of the symmetric standards that the spec names: SHA-2 (FIPS 180-4), SHA-3 and SHAKE (FIPS 202), AES
(FIPS 197), CTR, GCM and GMAC (SP 800-38D), the RFC 3394 key wrap, HMAC and HKDF-Expand with SHA-384 (log entry 2). -/

namespace Sys2Proof.Machine

/-- Round constants of SHA-256. -/
def sha256K : List (BitVec 32) :=
  [0x428A2F98, 0x71374491, 0xB5C0FBCF, 0xE9B5DBA5, 0x3956C25B, 0x59F111F1, 0x923F82A4, 0xAB1C5ED5,
   0xD807AA98, 0x12835B01, 0x243185BE, 0x550C7DC3, 0x72BE5D74, 0x80DEB1FE, 0x9BDC06A7, 0xC19BF174,
   0xE49B69C1, 0xEFBE4786, 0xFC19DC6, 0x240CA1CC, 0x2DE92C6F, 0x4A7484AA, 0x5CB0A9DC, 0x76F988DA,
   0x983E5152, 0xA831C66D, 0xB00327C8, 0xBF597FC7, 0xC6E00BF3, 0xD5A79147, 0x6CA6351, 0x14292967,
   0x27B70A85, 0x2E1B2138, 0x4D2C6DFC, 0x53380D13, 0x650A7354, 0x766A0ABB, 0x81C2C92E, 0x92722C85,
   0xA2BFE8A1, 0xA81A664B, 0xC24B8B70, 0xC76C51A3, 0xD192E819, 0xD6990624, 0xF40E3585, 0x106AA070,
   0x19A4C116, 0x1E376C08, 0x2748774C, 0x34B0BCB5, 0x391C0CB3, 0x4ED8AA4A, 0x5B9CCA4F, 0x682E6FF3,
   0x748F82EE, 0x78A5636F, 0x84C87814, 0x8CC70208, 0x90BEFFFA, 0xA4506CEB, 0xBEF9A3F7, 0xC67178F2]

/-- Round constants of SHA-384 and SHA-512. -/
def sha512K : List (BitVec 64) :=
  [0x428A2F98D728AE22, 0x7137449123EF65CD, 0xB5C0FBCFEC4D3B2F, 0xE9B5DBA58189DBBC,
   0x3956C25BF348B538, 0x59F111F1B605D019, 0x923F82A4AF194F9B, 0xAB1C5ED5DA6D8118,
   0xD807AA98A3030242, 0x12835B0145706FBE, 0x243185BE4EE4B28C, 0x550C7DC3D5FFB4E2,
   0x72BE5D74F27B896F, 0x80DEB1FE3B1696B1, 0x9BDC06A725C71235, 0xC19BF174CF692694,
   0xE49B69C19EF14AD2, 0xEFBE4786384F25E3, 0xFC19DC68B8CD5B5, 0x240CA1CC77AC9C65,
   0x2DE92C6F592B0275, 0x4A7484AA6EA6E483, 0x5CB0A9DCBD41FBD4, 0x76F988DA831153B5,
   0x983E5152EE66DFAB, 0xA831C66D2DB43210, 0xB00327C898FB213F, 0xBF597FC7BEEF0EE4,
   0xC6E00BF33DA88FC2, 0xD5A79147930AA725, 0x6CA6351E003826F, 0x142929670A0E6E70] ++
  [0x27B70A8546D22FFC, 0x2E1B21385C26C926, 0x4D2C6DFC5AC42AED, 0x53380D139D95B3DF,
   0x650A73548BAF63DE, 0x766A0ABB3C77B2A8, 0x81C2C92E47EDAEE6, 0x92722C851482353B,
   0xA2BFE8A14CF10364, 0xA81A664BBC423001, 0xC24B8B70D0F89791, 0xC76C51A30654BE30,
   0xD192E819D6EF5218, 0xD69906245565A910, 0xF40E35855771202A, 0x106AA07032BBD1B8,
   0x19A4C116B8D2D0C8, 0x1E376C085141AB53, 0x2748774CDF8EEB99, 0x34B0BCB5E19B48A8,
   0x391C0CB3C5C95A63, 0x4ED8AA4AE3418ACB, 0x5B9CCA4F7763E373, 0x682E6FF3D6B2B8A3,
   0x748F82EE5DEFB2FC, 0x78A5636F43172F60, 0x84C87814A1F0AB72, 0x8CC702081A6439EC,
   0x90BEFFFA23631E28, 0xA4506CEBDE82BDE9, 0xBEF9A3F7B2C67915, 0xC67178F2E372532B] ++
  [0xCA273ECEEA26619C, 0xD186B8C721C0C207, 0xEADA7DD6CDE0EB1E, 0xF57D4F7FEE6ED178,
   0x6F067AA72176FBA, 0xA637DC5A2C898A6, 0x113F9804BEF90DAE, 0x1B710B35131C471B,
   0x28DB77F523047D84, 0x32CAAB7B40C72493, 0x3C9EBE0A15C9BEBC, 0x431D67C49C100D4C,
   0x4CC5D4BECB3E42B6, 0x597F299CFC657E2A, 0x5FCB6FAB3AD6FAEC, 0x6C44198C4A475817]

/-- Initial value of SHA-256. -/
def sha256H : List (BitVec 32) :=
  [0x6A09E667, 0xBB67AE85, 0x3C6EF372, 0xA54FF53A, 0x510E527F, 0x9B05688C, 0x1F83D9AB, 0x5BE0CD19]

/-- Initial value of SHA-384. -/
def sha384H : List (BitVec 64) :=
  [0xCBBB9D5DC1059ED8, 0x629A292A367CD507, 0x9159015A3070DD17, 0x152FECD8F70E5939,
   0x67332667FFC00B31, 0x8EB44A8768581511, 0xDB0C2E0D64F98FA7, 0x47B5481DBEFA4FA4]

/-- Initial value of SHA-512. -/
def sha512H : List (BitVec 64) :=
  [0x6A09E667F3BCC908, 0xBB67AE8584CAA73B, 0x3C6EF372FE94F82B, 0xA54FF53A5F1D36F1,
   0x510E527FADE682D1, 0x9B05688C2B3E6C1F, 0x1F83D9ABFB41BD6B, 0x5BE0CD19137E2179]

/-- Round constants of Keccak-f[1600]. -/
def keccakRC : List (BitVec 64) :=
  [0x1, 0x8082, 0x800000000000808A, 0x8000000080008000,
   0x808B, 0x80000001, 0x8000000080008081, 0x8000000000008009,
   0x8A, 0x88, 0x80008009, 0x8000000A,
   0x8000808B, 0x800000000000008B, 0x8000000000008089, 0x8000000000008003,
   0x8000000000008002, 0x8000000000000080, 0x800A, 0x800000008000000A,
   0x8000000080008081, 0x8000000000008080, 0x80000001, 0x8000000080008008]

/-- Rotation offsets, lane x + 5y. -/
def keccakRot : List Nat :=
  [0, 1, 62, 28, 27,
   36, 44, 6, 55, 20,
   3, 10, 43, 25, 39,
   41, 45, 15, 21, 8,
   18, 2, 61, 56, 14]

/-- The AES S-box. -/
def aesSbox : List (BitVec 8) :=
  [0x63, 0x7C, 0x77, 0x7B, 0xF2, 0x6B, 0x6F, 0xC5, 0x30, 0x1, 0x67, 0x2B, 0xFE, 0xD7, 0xAB, 0x76,
   0xCA, 0x82, 0xC9, 0x7D, 0xFA, 0x59, 0x47, 0xF0, 0xAD, 0xD4, 0xA2, 0xAF, 0x9C, 0xA4, 0x72, 0xC0,
   0xB7, 0xFD, 0x93, 0x26, 0x36, 0x3F, 0xF7, 0xCC, 0x34, 0xA5, 0xE5, 0xF1, 0x71, 0xD8, 0x31, 0x15,
   0x4, 0xC7, 0x23, 0xC3, 0x18, 0x96, 0x5, 0x9A, 0x7, 0x12, 0x80, 0xE2, 0xEB, 0x27, 0xB2, 0x75,
   0x9, 0x83, 0x2C, 0x1A, 0x1B, 0x6E, 0x5A, 0xA0, 0x52, 0x3B, 0xD6, 0xB3, 0x29, 0xE3, 0x2F, 0x84,
   0x53, 0xD1, 0x0, 0xED, 0x20, 0xFC, 0xB1, 0x5B, 0x6A, 0xCB, 0xBE, 0x39, 0x4A, 0x4C, 0x58, 0xCF,
   0xD0, 0xEF, 0xAA, 0xFB, 0x43, 0x4D, 0x33, 0x85, 0x45, 0xF9, 0x2, 0x7F, 0x50, 0x3C, 0x9F, 0xA8,
   0x51, 0xA3, 0x40, 0x8F, 0x92, 0x9D, 0x38, 0xF5, 0xBC, 0xB6, 0xDA, 0x21, 0x10, 0xFF, 0xF3, 0xD2] ++
  [0xCD, 0xC, 0x13, 0xEC, 0x5F, 0x97, 0x44, 0x17, 0xC4, 0xA7, 0x7E, 0x3D, 0x64, 0x5D, 0x19, 0x73,
   0x60, 0x81, 0x4F, 0xDC, 0x22, 0x2A, 0x90, 0x88, 0x46, 0xEE, 0xB8, 0x14, 0xDE, 0x5E, 0xB, 0xDB,
   0xE0, 0x32, 0x3A, 0xA, 0x49, 0x6, 0x24, 0x5C, 0xC2, 0xD3, 0xAC, 0x62, 0x91, 0x95, 0xE4, 0x79,
   0xE7, 0xC8, 0x37, 0x6D, 0x8D, 0xD5, 0x4E, 0xA9, 0x6C, 0x56, 0xF4, 0xEA, 0x65, 0x7A, 0xAE, 0x8,
   0xBA, 0x78, 0x25, 0x2E, 0x1C, 0xA6, 0xB4, 0xC6, 0xE8, 0xDD, 0x74, 0x1F, 0x4B, 0xBD, 0x8B, 0x8A,
   0x70, 0x3E, 0xB5, 0x66, 0x48, 0x3, 0xF6, 0xE, 0x61, 0x35, 0x57, 0xB9, 0x86, 0xC1, 0x1D, 0x9E,
   0xE1, 0xF8, 0x98, 0x11, 0x69, 0xD9, 0x8E, 0x94, 0x9B, 0x1E, 0x87, 0xE9, 0xCE, 0x55, 0x28, 0xDF,
   0x8C, 0xA1, 0x89, 0xD, 0xBF, 0xE6, 0x42, 0x68, 0x41, 0x99, 0x2D, 0xF, 0xB0, 0x54, 0xBB, 0x16]

/-- The inverse S-box. -/
def aesInvSbox : List (BitVec 8) :=
  [0x52, 0x9, 0x6A, 0xD5, 0x30, 0x36, 0xA5, 0x38, 0xBF, 0x40, 0xA3, 0x9E, 0x81, 0xF3, 0xD7, 0xFB,
   0x7C, 0xE3, 0x39, 0x82, 0x9B, 0x2F, 0xFF, 0x87, 0x34, 0x8E, 0x43, 0x44, 0xC4, 0xDE, 0xE9, 0xCB,
   0x54, 0x7B, 0x94, 0x32, 0xA6, 0xC2, 0x23, 0x3D, 0xEE, 0x4C, 0x95, 0xB, 0x42, 0xFA, 0xC3, 0x4E,
   0x8, 0x2E, 0xA1, 0x66, 0x28, 0xD9, 0x24, 0xB2, 0x76, 0x5B, 0xA2, 0x49, 0x6D, 0x8B, 0xD1, 0x25,
   0x72, 0xF8, 0xF6, 0x64, 0x86, 0x68, 0x98, 0x16, 0xD4, 0xA4, 0x5C, 0xCC, 0x5D, 0x65, 0xB6, 0x92,
   0x6C, 0x70, 0x48, 0x50, 0xFD, 0xED, 0xB9, 0xDA, 0x5E, 0x15, 0x46, 0x57, 0xA7, 0x8D, 0x9D, 0x84,
   0x90, 0xD8, 0xAB, 0x0, 0x8C, 0xBC, 0xD3, 0xA, 0xF7, 0xE4, 0x58, 0x5, 0xB8, 0xB3, 0x45, 0x6,
   0xD0, 0x2C, 0x1E, 0x8F, 0xCA, 0x3F, 0xF, 0x2, 0xC1, 0xAF, 0xBD, 0x3, 0x1, 0x13, 0x8A, 0x6B] ++
  [0x3A, 0x91, 0x11, 0x41, 0x4F, 0x67, 0xDC, 0xEA, 0x97, 0xF2, 0xCF, 0xCE, 0xF0, 0xB4, 0xE6, 0x73,
   0x96, 0xAC, 0x74, 0x22, 0xE7, 0xAD, 0x35, 0x85, 0xE2, 0xF9, 0x37, 0xE8, 0x1C, 0x75, 0xDF, 0x6E,
   0x47, 0xF1, 0x1A, 0x71, 0x1D, 0x29, 0xC5, 0x89, 0x6F, 0xB7, 0x62, 0xE, 0xAA, 0x18, 0xBE, 0x1B,
   0xFC, 0x56, 0x3E, 0x4B, 0xC6, 0xD2, 0x79, 0x20, 0x9A, 0xDB, 0xC0, 0xFE, 0x78, 0xCD, 0x5A, 0xF4,
   0x1F, 0xDD, 0xA8, 0x33, 0x88, 0x7, 0xC7, 0x31, 0xB1, 0x12, 0x10, 0x59, 0x27, 0x80, 0xEC, 0x5F,
   0x60, 0x51, 0x7F, 0xA9, 0x19, 0xB5, 0x4A, 0xD, 0x2D, 0xE5, 0x7A, 0x9F, 0x93, 0xC9, 0x9C, 0xEF,
   0xA0, 0xE0, 0x3B, 0x4D, 0xAE, 0x2A, 0xF5, 0xB0, 0xC8, 0xEB, 0xBB, 0x3C, 0x83, 0x53, 0x99, 0x61,
   0x17, 0x2B, 0x4, 0x7E, 0xBA, 0x77, 0xD6, 0x26, 0xE1, 0x69, 0x14, 0x63, 0x55, 0x21, 0xC, 0x7D]

/-- Number of a big-endian byte string. -/
def beNat (bs : List Byte) : Nat := bs.foldl (fun n b => n * 256 + b.toNat) 0
/-- Big-endian bytes of a number. -/
def beBytes (n v : Nat) : List Byte := (leBytes n v).reverse
/-- A byte string in chunks of n bytes. -/
def chunks (n : Nat) : Nat → List Byte → List (List Byte)
  | 0, _ => []
  | f + 1, bs => if bs.isEmpty then [] else bs.take n :: chunks n f (bs.drop n)
/-- Bytewise exclusive or, as long as the shorter string. -/
def xorBytes (a b : List Byte) : List Byte := List.zipWith (· ^^^ ·) a b
/-- Zero bytes. -/
def zeros (n : Nat) : List Byte := List.replicate n 0

/-- Blocks of a padded SHA-2 message of n bytes. -/
def sha2Blocks (blk n : Nat) : Nat := (n + 1 + blk / 8 + blk - 1) / blk
/-- Padding of SHA-2: 0x80, zeros, the bit length. -/
def sha2Pad (blk : Nat) (m : List Byte) : List Byte :=
  let total := sha2Blocks blk m.length * blk
  m ++ [0x80] ++ zeros (total - m.length - 1 - blk / 8) ++ beBytes (blk / 8) (8 * m.length)

/-- SHA-2 with w-bit words: rotation amounts of the round and schedule functions. -/
structure Sha2 (w : Nat) where
  k  : List (BitVec w)
  s0 : Nat × Nat × Nat
  s1 : Nat × Nat × Nat
  e0 : Nat × Nat × Nat
  e1 : Nat × Nat × Nat

/-- Three rotations. -/
def rot3 {w : Nat} (x : BitVec w) (r : Nat × Nat × Nat) : BitVec w :=
  x.rotateRight r.1 ^^^ x.rotateRight r.2.1 ^^^ x.rotateRight r.2.2
/-- Two rotations and a shift. -/
def rot2s {w : Nat} (x : BitVec w) (r : Nat × Nat × Nat) : BitVec w :=
  x.rotateRight r.1 ^^^ x.rotateRight r.2.1 ^^^ (x >>> r.2.2)
/-- Message schedule, newest word first. -/
def sha2Sched {w : Nat} (c : Sha2 w) : Nat → List (BitVec w) → List (BitVec w)
  | 0, ws => ws
  | n + 1, ws =>
    sha2Sched c n ((rot2s (ws.getD 1 0) c.s1 + ws.getD 6 0 + rot2s (ws.getD 14 0) c.s0 + ws.getD 15 0) :: ws)
/-- One round on the eight working words. -/
def sha2Round {w : Nat} (c : Sha2 w) (v : List (BitVec w)) (kw : BitVec w × BitVec w) : List (BitVec w) :=
  match v with
  | [a, b, c0, d, e, f, g, h] =>
    let t1 := h + rot3 e c.e1 + ((e &&& f) ^^^ (~~~e &&& g)) + kw.1 + kw.2
    let t2 := rot3 a c.e0 + ((a &&& b) ^^^ (a &&& c0) ^^^ (b &&& c0))
    [t1 + t2, a, b, c0, d + t1, e, f, g]
  | _ => v
/-- One block. -/
def sha2Block {w : Nat} (c : Sha2 w) (h : List (BitVec w)) (blk : List Byte) : List (BitVec w) :=
  let ws := (chunks (w / 8) 16 blk).map fun b => BitVec.ofNat w (beNat b)
  let sched := (sha2Sched c (c.k.length - 16) ws.reverse).reverse
  List.zipWith (· + ·) h ((List.zip c.k sched).foldl (sha2Round c) h)
/-- Digest bytes. -/
def sha2 {w : Nat} (c : Sha2 w) (h0 : List (BitVec w)) (m : List Byte) : List Byte :=
  let p := sha2Pad (2 * w) m
  ((chunks (2 * w) (sha2Blocks (2 * w) m.length) p).foldl (sha2Block c) h0).flatMap fun x => beBytes (w / 8) x.toNat
/-- Parameters of SHA-256. -/
def sha256P : Sha2 32 := ⟨sha256K, (7, 18, 3), (17, 19, 10), (2, 13, 22), (6, 11, 25)⟩
/-- Parameters of SHA-384 and SHA-512. -/
def sha512P : Sha2 64 := ⟨sha512K, (1, 8, 7), (19, 61, 6), (28, 34, 39), (14, 18, 41)⟩
/-- SHA-256. -/
def sha256 (m : List Byte) : List Byte := sha2 sha256P sha256H m
/-- SHA-384. -/
def sha384 (m : List Byte) : List Byte := (sha2 sha512P sha384H m).take 48
/-- SHA-512. -/
def sha512 (m : List Byte) : List Byte := sha2 sha512P sha512H m

/-- One round of Keccak-f[1600]. -/
def keccakRound (a : List (BitVec 64)) (rc : BitVec 64) : List (BitVec 64) :=
  let g (l : List (BitVec 64)) (i : Nat) := l.getD i 0
  let c := (List.range 5).map fun x => g a x ^^^ g a (x + 5) ^^^ g a (x + 10) ^^^ g a (x + 15) ^^^ g a (x + 20)
  let d := (List.range 5).map fun x => g c ((x + 4) % 5) ^^^ (g c ((x + 1) % 5)).rotateLeft 1
  let t := (List.range 25).map fun i => (g a i ^^^ g d (i % 5)).rotateLeft (keccakRot.getD i 0)
  let b := (List.range 25).map fun i => let x := i % 5; let y := i / 5; g t ((x + 3 * y) % 5 + 5 * x)
  let e := (List.range 25).map fun i => let x := i % 5; let y := i / 5
    g b i ^^^ (~~~(g b ((x + 1) % 5 + 5 * y)) &&& g b ((x + 2) % 5 + 5 * y))
  (g e 0 ^^^ rc) :: e.drop 1
/-- Keccak-f[1600]. -/
def keccakF (a : List (BitVec 64)) : List (BitVec 64) := keccakRC.foldl keccakRound a
/-- Absorption of one rate block. -/
def keccakAbsorb (a : List (BitVec 64)) (blk : List Byte) : List (BitVec 64) :=
  let ws := (chunks 8 25 blk).map fun b => BitVec.ofNat 64 (leNat b)
  keccakF ((List.range 25).map fun i => a.getD i 0 ^^^ ws.getD i 0)
/-- Squeezing of n rate blocks. -/
def keccakSqueeze (rate : Nat) : Nat → List (BitVec 64) → List Byte
  | 0, _ => []
  | n + 1, a => ((a.flatMap fun x => leBytes 8 x.toNat).take rate) ++ keccakSqueeze rate n (keccakF a)
/-- The sponge with a domain byte. -/
def keccak (rate : Nat) (dom : Byte) (out : Nat) (m : List Byte) : List Byte :=
  let blocks := m.length / rate + 1
  let pad := m ++ [dom] ++ zeros (blocks * rate - m.length - 1)
  let p := pad.take (blocks * rate - 1) ++ [pad.getD (blocks * rate - 1) 0 ||| 0x80]
  (keccakSqueeze rate ((out + rate - 1) / rate) ((chunks rate blocks p).foldl keccakAbsorb (List.replicate 25 0))).take out

/-- Multiplication by x in the AES field. -/
def xtime (b : Byte) : Byte := (b <<< 1) ^^^ (if b.getLsbD 7 then 0x1B else 0)
/-- Multiplication in the AES field. -/
def aesMul (a b : Byte) : Byte :=
  ((List.range 8).foldl (fun (st : Byte × Byte) i => (if b.getLsbD i then st.1 ^^^ st.2 else st.1, xtime st.2)) (0, a)).1
/-- S-box on a byte. -/
def subByte (t : List Byte) (b : Byte) : Byte := t.getD b.toNat 0
/-- Key expansion: words newest first, nk words of key. -/
def aesExpand (nk : Nat) : Nat → Nat → Byte → List (List Byte) → List (List Byte)
  | 0, _, _, ws => ws
  | n + 1, i, rcon, ws =>
    let t := ws.headD []
    let t := if i % nk = 0 then
        xorBytes ((t.drop 1 ++ t.take 1).map (subByte aesSbox)) [rcon, 0, 0, 0]
      else if 6 < nk ∧ i % nk = 4 then t.map (subByte aesSbox) else t
    aesExpand nk n (i + 1) (if i % nk = 0 then xtime rcon else rcon) (xorBytes (ws.getD (nk - 1) []) t :: ws)
/-- Round keys of a 16- or 32-byte key. -/
def aesKeys (key : List Byte) : List (List Byte) :=
  let nk := key.length / 4
  let ws := (aesExpand nk (4 * (nk + 7) - nk) nk 1 (chunks 4 nk key).reverse).reverse
  chunks 16 (nk + 7) ws.flatten
/-- Row shift of the column-major state. -/
def shiftRows (s : List Byte) (inv : Bool) : List Byte :=
  (List.range 16).map fun i => let r := i % 4; let c := i / 4
    s.getD (4 * ((c + (if inv then 4 - r else r)) % 4) + r) 0
/-- Column mix with the given first column of the matrix. -/
def mixColumns (k : List Byte) (s : List Byte) : List Byte :=
  (List.range 16).map fun i => let r := i % 4; let c := i / 4
    (List.range 4).foldl (fun acc j => acc ^^^ aesMul (s.getD (4 * c + j) 0) (k.getD ((j + 4 - r) % 4) 0)) 0
/-- One block encryption. -/
def aesEnc (key blk : List Byte) : List Byte :=
  let ks := aesKeys key
  let n := ks.length - 1
  (List.range n).foldl (fun s i =>
    let t := shiftRows (s.map (subByte aesSbox)) false
    xorBytes (if i + 1 = n then t else mixColumns [2, 3, 1, 1] t) (ks.getD (i + 1) [])) (xorBytes blk (ks.headD []))
/-- One block decryption. -/
def aesDec (key blk : List Byte) : List Byte :=
  let ks := (aesKeys key).reverse
  let n := ks.length - 1
  (List.range n).foldl (fun s i =>
    let t := xorBytes ((shiftRows s true).map (subByte aesInvSbox)) (ks.getD (i + 1) [])
    if i + 1 = n then t else mixColumns [14, 11, 13, 9] t) (xorBytes blk (ks.headD []))
/-- Counter block n after a start: the low 32 bits count, big-endian (R209). -/
def ctrBlock (icb : List Byte) (n : Nat) : List Byte :=
  icb.take 12 ++ beBytes 4 ((beNat (icb.drop 12) + n) % 2 ^ 32)
/-- AES-CTR. -/
def aesCtr (key icb text : List Byte) : List Byte :=
  ((chunks 16 (text.length / 16 + 1) text).zipIdx.map fun (b, i) => xorBytes b (aesEnc key (ctrBlock icb i))).flatten
/-- Product in the GCM field; blocks as big-endian numbers. -/
def gfMul (x y : Nat) : Nat :=
  ((List.range 128).foldl (fun (st : Nat × Nat) i =>
    (if x.testBit (127 - i) then st.1 ^^^ st.2 else st.1,
     if st.2 % 2 = 1 then (st.2 / 2) ^^^ (0xE1 * 2 ^ 120) else st.2 / 2)) (0, y)).1
/-- Zero bytes up to a multiple of 16. -/
def pad16 (bs : List Byte) : List Byte := bs ++ zeros ((16 - bs.length % 16) % 16)
/-- The GCM tag, 16 bytes. -/
def gcmTag (key iv aad ct : List Byte) : List Byte :=
  let h := beNat (aesEnc key (zeros 16))
  let d := pad16 aad ++ pad16 ct ++ beBytes 8 (8 * aad.length) ++ beBytes 8 (8 * ct.length)
  let g := (chunks 16 (d.length / 16 + 1) d).foldl (fun y b => gfMul (y ^^^ beNat b) h) 0
  xorBytes (beBytes 16 g) (aesEnc key (iv.take 12 ++ [0, 0, 0, 1]))
/-- GCM text transform: CTR from J0 + 1. -/
def gcmText (key iv text : List Byte) : List Byte := aesCtr key (iv.take 12 ++ [0, 0, 0, 2]) text

/-- RFC 3394 unwrap: `none` where the integrity value fails. -/
def keyUnwrap (kek wrapped : List Byte) : Option (List Byte) :=
  let blocks := chunks 8 (wrapped.length / 8) wrapped
  let n := blocks.length - 1
  let r := (List.range (6 * n)).foldl (fun (st : List Byte × List (List Byte)) k =>
    let t := 6 * n - k
    let i := (t - 1) % n
    let b := aesDec kek (xorBytes st.1 (beBytes 8 t) ++ st.2.getD i [])
    (b.take 8, st.2.set i (b.drop 8))) (blocks.headD [], blocks.drop 1)
  if r.1 = List.replicate 8 (0xA6 : Byte) then some r.2.flatten else none

/-- n blocks of the CTR_DRBG after V (SP 800-90A). -/
def drbgBlocks (k v : List Byte) (n : Nat) : List Byte :=
  (List.range n).flatMap fun i => aesEnc k (beBytes 16 ((beNat v + i + 1) % 2 ^ 128))
/-- Update of a CTR_DRBG with AES-256 by 48 bytes: the new key and V. -/
def drbgUpdate (k v seed : List Byte) : List Byte × List Byte :=
  let t := xorBytes (drbgBlocks k v 3) seed
  (t.take 32, t.drop 32)
/-- One request of n bytes: the bytes, and the new key and V. -/
def drbgGenerate (k v : List Byte) (n : Nat) : List Byte × List Byte × List Byte :=
  let m := (n + 15) / 16
  ((drbgBlocks k v m).take n, drbgUpdate k (beBytes 16 ((beNat v + m) % 2 ^ 128)) (zeros 48))

/-- HMAC with SHA-384. -/
def hmac384 (key m : List Byte) : List Byte :=
  let k := (if 128 < key.length then sha384 key else key)
  let k := k ++ zeros (128 - k.length)
  sha384 (k.map (· ^^^ 0x5C) ++ sha384 (k.map (· ^^^ 0x36) ++ m))
/-- HKDF-Expand with SHA-384, for up to 255 blocks. -/
def hkdfBlocks (prk info : List Byte) : Nat → Nat → List Byte → List Byte
  | 0, _, _ => []
  | n + 1, i, prev =>
    let t := hmac384 prk (prev ++ info ++ [BitVec.ofNat 8 i])
    t ++ hkdfBlocks prk info n (i + 1) t
def hkdfExpand (prk info : List Byte) (len : Nat) : List Byte :=
  (hkdfBlocks prk info ((len + 47) / 48) 1 []).take len
/-- ASCII bytes of a string. -/
def ascii (t : String) : List Byte := t.toList.map fun c => BitVec.ofNat 8 c.toNat

/-! ### Cyclic redundancy checks (R261, R281) -/

/-- A reflected cyclic redundancy check over bytes. -/
def crcR (poly init : Nat) (bs : List Byte) : Nat :=
  bs.foldl (fun c b => (List.range 8).foldl (fun c _ => if c % 2 = 1 then (c / 2) ^^^ poly else c / 2) (c ^^^ b.toNat)) init
/-- The check of an IEEE 1815 link block, of Modbus, and the CRC-16 and CRC-32 of ISO/IEC 13239. -/
def crcDnp (bs : List Byte) : Nat := 0xFFFF - crcR 0xA6BC 0 bs
def crcModbus (bs : List Byte) : Nat := crcR 0xA001 0xFFFF bs
def crcHdlc16 (bs : List Byte) : Nat := 0xFFFF - crcR 0x8408 0xFFFF bs
def crcHdlc32 (bs : List Byte) : Nat := 0xFFFFFFFF - crcR 0xEDB88320 0xFFFFFFFF bs

end Sys2Proof.Machine
end

