-- ==== Sys2Proof/Machine/Lattice.lean ====
section
/-! DEFINITION. The lattice schemes that R165 lists, written from FIPS 203 (ML-KEM) and FIPS 204 (ML-DSA) as R167, R169, R176 and
R177 name them: private keys are seeds, signing takes the 64-byte message representative and makes 8 attempts (log entry 2). -/

namespace Sys2Proof.Machine

/-- SHAKE256. -/
def shake256 (out : Nat) (m : List Byte) : List Byte := keccak 136 0x1F out m
/-- SHAKE128. -/
def shake128 (out : Nat) (m : List Byte) : List Byte := keccak 168 0x1F out m

/-! ### Polynomials: lists of 256 coefficients below q -/

/-- Power modulo q. -/
def qPow (q : Nat) (b e : Nat) : Nat := (List.range e).foldl (fun r _ => r * b % q) 1
/-- The n low bits of a number in reverse order. -/
def bitRev (n v : Nat) : Nat := (List.range n).foldl (fun r i => 2 * r + v / 2 ^ i % 2) 0
/-- A ring: modulus, a root of unity, layers of the transform and the powers of the root in bit-reversed order. -/
structure Ring where
  q : Nat
  layers : Nat
  zetas : List Nat
/-- The powers of the root in bit-reversed order. -/
def zetaTable (q root layers : Nat) : List Nat := (List.range (2 ^ layers)).map fun k => qPow q root (bitRev layers k)
/-- ML-KEM: q = 3329, root 17, seven layers. -/
def kemRing : Ring := ⟨3329, 7, zetaTable 3329 17 7⟩
/-- ML-DSA: q = 8380417, root 1753, eight layers. -/
def dsaRing : Ring := ⟨8380417, 8, zetaTable 8380417 1753 8⟩
/-- A polynomial. -/
abbrev Poly := List Nat
/-- Sum. -/
def Ring.add (R : Ring) (a b : Poly) : Poly := List.zipWith (fun x y => (x + y) % R.q) a b
/-- Difference. -/
def Ring.sub (R : Ring) (a b : Poly) : Poly := List.zipWith (fun x y => (x + (R.q - y)) % R.q) a b
/-- The zero polynomial. -/
def Ring.zero : Poly := List.replicate 256 0
/-- The transform below node k of the tree: n layers left. -/
def Ring.nttAt (R : Ring) : Nat → Nat → Poly → Poly
  | 0, _, a => a
  | n + 1, k, a =>
    let h := a.length / 2
    let lo := a.take h
    let hi := (a.drop h).map fun x => R.zetas.getD k 0 * x % R.q
    R.nttAt n (2 * k) (R.add lo hi) ++ R.nttAt n (2 * k + 1) (R.sub lo hi)
/-- The number-theoretic transform. -/
def Ring.ntt (R : Ring) (a : Poly) : Poly := R.nttAt R.layers 1 a
/-- The inverse below node k, without the factor 1/2 of each layer: the power of the root that undoes zeta k is the opposite of one
of the same layer. -/
def Ring.inttAt (R : Ring) : Nat → Nat → Poly → Poly
  | 0, _, a => a
  | n + 1, k, a =>
    let h := a.length / 2
    let lo := R.inttAt n (2 * k) (a.take h)
    let hi := R.inttAt n (2 * k + 1) (a.drop h)
    let m := 2 ^ (R.layers - n)
    R.add lo hi ++ (R.sub hi lo).map fun x => R.zetas.getD (m - 1 - (k - m / 2)) 0 * x % R.q
/-- The inverse transform; the modulus less its (q - 1) / 2^layers part is the inverse of 2^layers. -/
def Ring.intt (R : Ring) (a : Poly) : Poly :=
  (R.inttAt R.layers 1 a).map fun x => (R.q - (R.q - 1) / 2 ^ R.layers) * x % R.q
/-- Bits of a byte string, low bit of each byte first. -/
def bitsOf (bs : List Byte) : List Nat := bs.flatMap fun b => (List.range 8).map fun i => b.toNat / 2 ^ i % 2
/-- Number of a list of bits, low bit first. -/
def ofBits (l : List Nat) : Nat := l.foldr (fun b r => b + 2 * r) 0
/-- A list in chunks of n, at most f of them. -/
def chunked {α : Type} (n : Nat) : Nat → List α → List (List α)
  | 0, _ => []
  | f + 1, l => if l.isEmpty then [] else l.take n :: chunked n f (l.drop n)
/-- Coefficients of d bits each, packed low bit first. -/
def packBits (d : Nat) (a : List Nat) : List Byte :=
  let bits := a.flatMap fun x => (List.range d).map fun i => x / 2 ^ i % 2
  (chunked 8 (bits.length / 8) bits).map fun l => BitVec.ofNat 8 (ofBits l)
/-- The n coefficients of d bits each that a byte string packs. -/
def unpackBits (d n : Nat) (bs : List Byte) : List Nat := (chunked d n (bitsOf bs)).map ofBits
/-- Matrix entries times a vector, in the transform domain. -/
def Ring.dot (R : Ring) (mul : Poly → Poly → Poly) (row v : List Poly) : Poly :=
  (List.zipWith mul row v).foldl R.add Ring.zero

/-! ### ML-KEM -/

/-- Parameters of FIPS 203: rank, du and dv. -/
structure Kem where
  k : Nat
  du : Nat
  dv : Nat
/-- ML-KEM-768. -/
def kem768 : Kem := ⟨3, 10, 4⟩
/-- ML-KEM-1024. -/
def kem1024 : Kem := ⟨4, 11, 5⟩
/-- Bytes of squeezed output that a rejection sampler reads; the standard sets no bound. -/
def xofLen : Nat := 168 * 16
/-- Product in the transform domain: pairs modulo X^2 - zeta^(2 bitrev(i) + 1). -/
def kemMulAt : Nat → Poly → Poly → Poly
  | i, a0 :: a1 :: a, b0 :: b1 :: b =>
    let z := kemRing.zetas.getD (64 + i / 2) 0
    let g := if i % 2 = 0 then z else 3329 - z
    (a0 * b0 + a1 * b1 % 3329 * g) % 3329 :: (a0 * b1 + a1 * b0) % 3329 :: kemMulAt (i + 1) a b
  | _, _, _ => []
/-- Product in the transform domain. -/
def kemMul (a b : Poly) : Poly := kemMulAt 0 a b
/-- Coefficients below q from three bytes at a time. -/
def kemReject : List Byte → List Nat
  | a :: b :: c :: r =>
    let d1 := a.toNat + 256 * (b.toNat % 16)
    let d2 := b.toNat / 16 + 16 * c.toNat
    (if d1 < 3329 then [d1] else []) ++ (if d2 < 3329 then [d2] else []) ++ kemReject r
  | _ => []
/-- Matrix entry of row i and column j. -/
def kemEntry (rho : List Byte) (i j : Nat) : Poly :=
  (kemReject (shake128 xofLen (rho ++ [BitVec.ofNat 8 j, BitVec.ofNat 8 i]))).take 256
/-- Noise polynomial number n of a seed: centred binomial with eta 2. -/
def kemNoise (seed : List Byte) (n : Nat) : Poly :=
  (chunked 4 256 (bitsOf (shake256 128 (seed ++ [BitVec.ofNat 8 n])))).map fun l =>
    (l.getD 0 0 + l.getD 1 0 + (3329 - l.getD 2 0) + (3329 - l.getD 3 0)) % 3329
/-- Compression to d bits. -/
def kemCompress (d : Nat) (a : Poly) : Poly := a.map fun x => (x * 2 ^ (d + 1) + 3329) / 6658 % 2 ^ d
/-- Decompression from d bits. -/
def kemExpand (d : Nat) (a : Poly) : Poly := a.map fun y => (2 * 3329 * y + 2 ^ d) / 2 ^ (d + 1)
/-- A byte string of k polynomials of d bits. -/
def kemDecode (d k : Nat) (bs : List Byte) : List Poly :=
  (chunked (32 * d) k bs).map fun b => unpackBits d 256 b
/-- Key pair of a seed: the encapsulation key and the secret vector in the transform domain. -/
def Kem.keyGen (K : Kem) (d : List Byte) : List Byte × List Poly :=
  let g := keccak 72 0x06 64 (d ++ [BitVec.ofNat 8 K.k])
  let rho := g.take 32
  let s := (List.range K.k).map fun i => kemRing.ntt (kemNoise (g.drop 32) i)
  let t := (List.range K.k).map fun i => kemRing.add (kemRing.dot kemMul ((List.range K.k).map (kemEntry rho i)) s)
    (kemRing.ntt (kemNoise (g.drop 32) (K.k + i)))
  (t.flatMap (packBits 12) ++ rho, s)
/-- Encryption of 32 bytes under a key with 32 bytes of randomness. -/
def Kem.encrypt (K : Kem) (ek m r : List Byte) : List Byte :=
  let t := (kemDecode 12 K.k ek).map fun a => a.map (· % 3329)
  let rho := ek.drop (384 * K.k)
  let y := (List.range K.k).map fun i => kemRing.ntt (kemNoise r i)
  let u := (List.range K.k).map fun i => kemRing.add
    (kemRing.intt (kemRing.dot kemMul ((List.range K.k).map fun j => kemEntry rho j i) y)) (kemNoise r (K.k + i))
  let v := kemRing.add (kemRing.add (kemRing.intt (kemRing.dot kemMul t y)) (kemNoise r (2 * K.k))) (kemExpand 1 (bitsOf m))
  u.flatMap (fun a => packBits K.du (kemCompress K.du a)) ++ packBits K.dv (kemCompress K.dv v)
/-- Decryption. -/
def Kem.decrypt (K : Kem) (s : List Poly) (c : List Byte) : List Byte :=
  let u := (kemDecode K.du K.k c).map fun a => kemRing.ntt (kemExpand K.du a)
  let v := kemExpand K.dv (unpackBits K.dv 256 (c.drop (32 * K.du * K.k)))
  packBits 1 (kemCompress 1 (kemRing.sub v (kemRing.intt (kemRing.dot kemMul s u))))
/-- Encapsulation (R165, R176): ciphertext and shared key; `none` where the modulus check of the key fails. -/
def Kem.encaps (K : Kem) (ek m : List Byte) : Option (List Byte × List Byte) :=
  if (kemDecode 12 K.k ek).all fun a => a.all fun x => decide (x < 3329) then
    let g := keccak 72 0x06 64 (m ++ keccak 136 0x06 32 ek)
    some (K.encrypt ek m (g.drop 32), g.take 32)
  else none
/-- Decapsulation under the seed d ‖ z (R167, R176): an invalid ciphertext gives the key of implicit rejection. -/
def Kem.decaps (K : Kem) (seed c : List Byte) : List Byte :=
  let (ek, s) := K.keyGen (seed.take 32)
  let m := K.decrypt s c
  let g := keccak 72 0x06 64 (m ++ keccak 136 0x06 32 ek)
  if K.encrypt ek m (g.drop 32) = c then g.take 32 else shake256 32 (seed.drop 32 ++ c)

/-! ### ML-DSA -/

/-- Parameters of FIPS 204: k, l, eta, tau, omega and the bytes of the challenge; gamma1 is 2^19 and gamma2 is (q - 1) / 32. -/
structure Dsa where
  k : Nat
  l : Nat
  eta : Nat
  tau : Nat
  omega : Nat
  clen : Nat
/-- ML-DSA-65. -/
def dsa65 : Dsa := ⟨6, 5, 4, 49, 55, 48⟩
/-- ML-DSA-87. -/
def dsa87 : Dsa := ⟨8, 7, 2, 60, 75, 64⟩
/-- The modulus. -/
def dsaQ : Nat := 8380417
/-- 2 gamma2. -/
def dsaAlpha : Nat := (dsaQ - 1) / 16
/-- beta = tau · eta. -/
def Dsa.beta (D : Dsa) : Nat := D.tau * D.eta
/-- Pointwise product. -/
def dsaMul (a b : Poly) : Poly := List.zipWith (fun x y => x * y % dsaQ) a b
/-- Magnitude of a residue. -/
def dsaAbs (x : Nat) : Nat := min x (dsaQ - x)
/-- Greatest magnitude of a vector. -/
def dsaNorm (v : List Poly) : Nat := v.foldl (fun m a => a.foldl (fun m x => max m (dsaAbs x)) m) 0
/-- Coefficients below q from three bytes at a time. -/
def dsaReject : List Byte → List Nat
  | a :: b :: c :: r =>
    let z := a.toNat + 256 * b.toNat + 65536 * (c.toNat % 128)
    (if z < dsaQ then [z] else []) ++ dsaReject r
  | _ => []
/-- Matrix entry of row r and column s. -/
def dsaEntry (rho : List Byte) (r s : Nat) : Poly :=
  (dsaReject (shake128 xofLen (rho ++ [BitVec.ofNat 8 s, BitVec.ofNat 8 r]))).take 256
/-- The matrix A in the transform domain. -/
def Dsa.matrix (D : Dsa) (rho : List Byte) : List (List Poly) :=
  (List.range D.k).map fun r => (List.range D.l).map (dsaEntry rho r)
/-- Coefficient of a half byte, if it gives one. -/
def Dsa.half (D : Dsa) (b : Nat) : List Nat :=
  if D.eta = 2 then (if b < 15 then [(dsaQ + 2 - b % 5) % dsaQ] else [])
  else if b < 9 then [(dsaQ + 4 - b) % dsaQ] else []
/-- Secret polynomial number n of a seed. -/
def Dsa.small (D : Dsa) (seed : List Byte) (n : Nat) : Poly :=
  ((shake256 xofLen (seed ++ leBytes 2 n)).flatMap fun b => D.half (b.toNat % 16) ++ D.half (b.toNat / 16)).take 256
/-- Mask polynomial number n of a seed. -/
def dsaMask (seed : List Byte) (n : Nat) : Poly :=
  (unpackBits 20 256 (shake256 640 (seed ++ leBytes 2 n))).map fun v => (dsaQ + 2 ^ 19 - v) % dsaQ
/-- The challenge polynomial: tau coefficients 1 or -1. Arguments of the walk: steps left, bytes left, sign bits. -/
def dsaBallAt (tau : Nat) : Nat → List Byte → List Nat → Poly → Poly
  | 0, _, _, c => c
  | n + 1, bs, h, c =>
    let i := 256 - (n + 1)
    let bs := bs.dropWhile fun b => decide (i < b.toNat)
    let j := (bs.headD 0).toNat
    dsaBallAt tau n (bs.drop 1) (h.drop 1) ((c.set i (c.getD j 0)).set j (if h.headD 0 = 1 then dsaQ - 1 else 1))
/-- The challenge polynomial of a challenge string. -/
def Dsa.ball (D : Dsa) (c : List Byte) : Poly :=
  let x := shake256 (8 + xofLen) c
  dsaBallAt D.tau D.tau (x.drop 8) (bitsOf (x.take 8)) Ring.zero
/-- High part and low part, the low part as a residue modulo q. -/
def dsaDecompose (r : Nat) : Nat × Nat :=
  let m := r % dsaAlpha
  let r0 := if dsaAlpha / 2 < m then dsaQ - (dsaAlpha - m) else m
  let top := (r + (dsaQ - r0)) % dsaQ
  if top = dsaQ - 1 then (0, (r0 + (dsaQ - 1)) % dsaQ) else (top / dsaAlpha, r0)
/-- High part corrected by a hint bit. -/
def dsaUseHint (h r : Nat) : Nat :=
  let x := dsaDecompose r
  if h = 0 then x.1 else if 0 < x.2 ∧ x.2 ≤ dsaAlpha / 2 then (x.1 + 1) % 16 else (x.1 + 15) % 16
/-- Bytes of the high parts of a vector. -/
def dsaW1 (w : List Poly) : List Byte := w.flatMap (packBits 4)
/-- Packing of the hint vector, k polynomials of bits. -/
def Dsa.packHint (D : Dsa) (h : List Poly) : List Byte :=
  let idx := h.map fun a => (List.range 256).filter fun i => a.getD i 0 = 1
  let flat := idx.flatten.map (BitVec.ofNat 8)
  flat ++ zeros (D.omega - flat.length) ++ (List.range D.k).map fun i => BitVec.ofNat 8 (idx.take (i + 1)).flatten.length
/-- A list of bytes rises strictly. -/
def rising : List Nat → Bool
  | a :: b :: r => decide (a < b) && rising (b :: r)
  | _ => true
/-- Unpacking of the hint vector; `none` where it is malformed. -/
def Dsa.unpackHint (D : Dsa) (bs : List Byte) : Option (List Poly) :=
  let idx := (bs.take D.omega).map BitVec.toNat
  let ends := (bs.drop D.omega).map BitVec.toNat
  let parts := List.zipWith (fun a b => (idx.take b).drop a) (0 :: ends) ends
  let ok := (List.zipWith (fun a b => decide (a ≤ b)) (0 :: ends) ends).all id && ends.all (· ≤ D.omega) && parts.all rising &&
    (idx.drop (ends.getLastD 0)).all (· = 0)
  if ok then some (parts.map fun p => (List.range 256).map fun i => if p.contains i then 1 else 0) else none
/-- Key pair of a seed: rho, K, s1, s2 and t. -/
def Dsa.keyGen (D : Dsa) (xi : List Byte) : List Byte × List Byte × List Poly × List Poly × List Poly :=
  let g := shake256 128 (xi ++ [BitVec.ofNat 8 D.k, BitVec.ofNat 8 D.l])
  let rho := g.take 32
  let seed := (g.drop 32).take 64
  let s1 := (List.range D.l).map (D.small seed)
  let s2 := (List.range D.k).map fun i => D.small seed (D.l + i)
  let s1h := s1.map dsaRing.ntt
  let t := List.zipWith dsaRing.add ((D.matrix rho).map fun row => dsaRing.intt (dsaRing.dot dsaMul row s1h)) s2
  (rho, g.drop 96, s1, s2, t)
/-- High part of t: t1 with 2^13 t1 + t0 = t and t0 in (-2^12, 2^12]. -/
def dsaT1 (x : Nat) : Nat := (x + 2 ^ 12 - 1) / 2 ^ 13
/-- The public key of a key pair. -/
def dsaPublic (rho : List Byte) (t : List Poly) : List Byte := rho ++ t.flatMap fun a => packBits 10 (a.map dsaT1)
/-- One signing attempt from mask number kappa; `none` where a rejection test fails. -/
def Dsa.attempt (D : Dsa) (A : List (List Poly)) (s1 s2 t0 : List Poly) (mu seed : List Byte) (kappa : Nat) : Option (List Byte) :=
  let y := (List.range D.l).map fun r => dsaMask seed (kappa + r)
  let yh := y.map dsaRing.ntt
  let w := A.map fun row => dsaRing.intt (dsaRing.dot dsaMul row yh)
  let ct := shake256 D.clen (mu ++ dsaW1 (w.map fun a => a.map fun x => (dsaDecompose x).1))
  let c := dsaRing.ntt (D.ball ct)
  let times (v : List Poly) : List Poly := v.map fun a => dsaRing.intt (dsaMul c (dsaRing.ntt a))
  let z := List.zipWith dsaRing.add y (times s1)
  let wc := List.zipWith dsaRing.sub w (times s2)
  let r0 := wc.map fun a => a.map fun x => (dsaDecompose x).2
  if 2 ^ 19 - D.beta ≤ dsaNorm z ∨ dsaAlpha / 2 - D.beta ≤ dsaNorm r0 then none
  else
    let ct0 := times t0
    let h := List.zipWith (fun a b => List.zipWith (fun x y =>
      if (dsaDecompose ((x + y) % dsaQ)).1 = (dsaDecompose x).1 then 0 else 1) a b) wc ct0
    if dsaAlpha / 2 ≤ dsaNorm ct0 ∨ D.omega < (h.map List.sum).sum then none
    else some (ct ++ z.flatMap (fun a => packBits 20 (a.map fun x => (2 ^ 19 + dsaQ - x) % dsaQ)) ++ D.packHint h)
/-- Hedged signing of a message representative under the seed ξ (R177): the first of 8 attempts that passes. -/
def Dsa.sign (D : Dsa) (xi mu rnd : List Byte) : Option (List Byte) :=
  let (rho, key, s1, s2, t) := D.keyGen xi
  let A := D.matrix rho
  let t0 := t.map fun a => a.map fun x => (x + dsaQ - dsaT1 x * 2 ^ 13) % dsaQ
  let seed := shake256 64 (key ++ rnd ++ mu)
  (List.range 8).findSome? fun i => D.attempt A s1 s2 t0 mu seed (i * D.l)
/-- Verification of a message representative (R167, R176). -/
def Dsa.verify (D : Dsa) (pub mu sig : List Byte) : Bool :=
  let ct := sig.take D.clen
  let z := (chunked 640 D.l (sig.drop D.clen)).map fun b => (unpackBits 20 256 b).map fun v => (dsaQ + 2 ^ 19 - v) % dsaQ
  match D.unpackHint (sig.drop (D.clen + 640 * D.l)) with
  | none => false
  | some h =>
    let c := dsaRing.ntt (D.ball ct)
    let t := (chunked 320 D.k (pub.drop 32)).map fun b =>
      dsaMul c (dsaRing.ntt ((unpackBits 10 256 b).map fun x => x * 2 ^ 13 % dsaQ))
    let zh := z.map dsaRing.ntt
    let w := List.zipWith (fun row ct1 => dsaRing.intt (dsaRing.sub (dsaRing.dot dsaMul row zh) ct1)) (D.matrix (pub.take 32)) t
    let w1 := List.zipWith (fun a b => List.zipWith dsaUseHint a b) h w
    decide (dsaNorm z < 2 ^ 19 - D.beta) && decide (shake256 D.clen (mu ++ dsaW1 w1) = ct)

end Sys2Proof.Machine
end

