-- ==== Sys2Proof/Machine/TileMem.lean ====
section
/-! DEFINITION. Loads, stores and key moves of the GTIS processors (R67-R73, R79-R81). -/

namespace Sys2Proof.Machine

/-- Address of a memory operand: b[a] plus the sign-extended immediate. -/
def Proc.ea (x : Proc) (a : Fin 32) (imm : BitVec 16) : Word := (x.r a.val).data + imm.signExtend 32

/-- The address operand is a PTR: TAG_USE for NONE, else TAG_MISMATCH. -/
def ptrOk (w : TWord) : Bool := decide (w.tag = Tag.ptr)

/-- An ordinary access that reaches a key plane, locally or through a window, raises KEY_ESCAPE (R71). -/
def locPlane : Loc → Bool
  | .plane _ => true
  | .phys a => inPlane a
  | _ => false

/-- What a load makes of the memory word (R79): `none` where its tag traps. Size 4 keeps the tag, 1 and 2 need INT. -/
def loadRes (size off : Nat) (w : TWord) : Option TWord :=
  if size = 4 then (if dataTag w.tag then some w else none)
  else if w.tag = Tag.int then some (TWord.int (w32 (w.data.toNat / 2 ^ (8 * off) % 2 ^ (8 * size))))
  else none

/-- Checks of the loaded word in the order of R80: TAG_USE, TAG_MISMATCH, KEY_ESCAPE, STACK_LIMIT, ECC_UNCORR on the word. -/
def chkLoaded (x : Proc) (d size : Nat) (addr : Word) (w : TWord) (bad : Bool) : List Chk :=
  let r := loadRes size (addr.toNat % 4) w
  [{ bad := decide (w.tag = Tag.none), code := tagUse },
   { bad := (decide (size ≠ 4) || decide (w.tag ≠ Tag.key)) && (match r with | some v => !spTagOk d v | none => true),
     code := tagMismatch },
   { bad := decide (size = 4) && decide (w.tag = Tag.key), code := keyEscape, addr := addr },
   chkSp x d (r.getD TWord.none),
   { bad := bad, code := eccUncorr, addr := addr }]

/-- A local location that a load reaches. -/
def locLocal : Loc → Bool
  | .data _ | .rom _ | .flash _ | .ftab _ _ => true
  | _ => false

/-- A load of 4, 2 or 1 bytes (R79): local at once, global as a mortar read. LDH and LDB give INT, which b31 never takes (R63). A
misaligned load reports ALIGN: the model does not look at the tag of the memory word then, which R80 leaves open (DESIGN CHOICE,
log entry 85). -/
def fLoad (size : Nat) (p : ProcId) (d a : Fin 32) (imm : BitVec 16) (s : State) : State :=
  let loc (x : Proc) : Loc := localMap p x (x.ea a imm).toNat
  let word (x : Proc) : TWord := s.seen p (localMap p x ((x.ea a imm).toNat / 4 * 4))
  s.issue p false
    (fun x =>
      let ad := x.ea a imm
      let untagged := locLocal (loc x) && decide (ad.toNat % size = 0) && decide ((word x).tag = Tag.none)
      [chkUse [x.r a.val], chkTag (ptrOk (x.r a.val)),
       { bad := decide (size ≠ 4) && decide (d.val = 31) && !untagged, code := tagMismatch },
       { bad := locPlane (loc x), code := keyEscape, addr := ad },
       { bad := decide (ad.toNat % size ≠ 0), code := alignTrap, addr := ad },
       { bad := (match loc x with | .nowhere => true | _ => false), code := accessTrap, addr := ad }] ++
      (if locLocal (loc x) then chkLoaded x d.val size ad (word x) (s.locBad (localMap p x (ad.toNat / 4 * 4))) else []))
    (fun x s =>
      match loc x with
      | .phys ph => ((s.lockCmp p x 1 [0, ph, size]).sendFrom p .read ph size [] d.val).updProc p Proc.advance
      | _ => s.thenNext p (x.setR d.val ((loadRes size ((x.ea a imm).toNat % 4) (word x)).getD TWord.none)))

/-- XLOCK guards the code area of the Keystone cores (R387). -/
def State.xlockHit (s : State) (p : ProcId) (loc : Loc) : Bool :=
  match loc with
  | .data k => p.isKs && s.inKsCode k && bit (s.reg .kst 0 0x008) 2
  | _ => false

/-- A store into the locked code area of Keystone, refused by its ACCESS check, also sets KST.STKY.XLOCK_HIT (R387). -/
def State.noteXlock (s t : State) (p : ProcId) (loc : Loc) (cs : Proc → List Chk) : State :=
  let x := s.proc p
  if x.canIssue && s.xlockHit p loc && decide ((s.firstBad p x false cs).map (·.code) = some accessTrap) &&
      (s.chkFetch p x).all (fun c => !c.bad)
  then t.setSticky .kst 0 3 else t

/-- A word written by a store, after the lockstep compare (R102): the pair's one access to shared memory is the even tile's (R103),
and of the writes of one stroke to a shared word the highest pair's remains (R69). -/
def State.storeWord (s : State) (p : ProcId) (x : Proc) (ad : Nat) (k : Nat) (w : TWord) : State :=
  let s1 := s.lockCmp p x 0 [ad, w.data.toNat, w.tag.toNat]
  if !isShared p ad then s1.putWord k w
  else if x.sched && !p.sends then s1
  else match p with
    | .tile _ _ => s1.sharedPut p.pairNo k w
    | _ => s1.putWord k w

/-- STW (R79): a word of tag I, P, L, H or T, over a word of any tag. -/
def fStw (p : ProcId) (src a : Fin 32) (imm : BitVec 16) (s : State) : State :=
  let loc (x : Proc) : Loc := localMap p x (x.ea a imm).toNat
  let cs (x : Proc) : List Chk :=
      let ad := x.ea a imm
      [chkUse [x.r a.val, x.r src.val], chkTag (ptrOk (x.r a.val) && dataTag (x.r src.val).tag),
       { bad := locPlane (loc x), code := keyEscape, addr := ad },
       { bad := decide (ad.toNat % 4 ≠ 0), code := alignTrap, addr := ad },
       { bad := (match loc x with | .data _ => s.xlockHit p (loc x) | .phys _ => false | _ => true), code := accessTrap,
         addr := ad }]
  let t := s.issue p false cs
    (fun x s =>
      match loc x with
      | .data k => (s.storeWord p x (x.ea a imm).toNat k (x.r src.val)).thenNext p x
      | .phys ph =>
        (((s.lockCmp p x 1 [1, ph, (x.r src.val).data.toNat, (x.r src.val).tag.toNat]).sendFrom p .write ph 4 [x.r src.val] 32).updProc p fun y => { y with outStores := y.outStores + 1 }).updProc p Proc.advance
      | _ => s)
  s.noteXlock t p (loc (s.proc p)) cs

/-- The word after a sub-word store: a NONE target becomes INT with its other bytes 0 (R79). -/
def mergeSub (size off : Nat) (w : TWord) (v : Word) : TWord :=
  let old := if w.tag = Tag.int then w.data else 0
  TWord.int (putFld old (8 * off) (8 * size) (v.toNat % 2 ^ (8 * size)))

/-- STH and STB (R79): legal at local data memory and course shared memory; the target word is INT or NONE. A misaligned one reports
ALIGN before the tag of the memory word (DESIGN CHOICE, log entry 85). -/
def fStoreSub (size : Nat) (p : ProcId) (src a : Fin 32) (imm : BitVec 16) (s : State) : State :=
  let loc (x : Proc) : Loc := localMap p x (x.ea a imm).toNat
  let cell (x : Proc) : Loc := localMap p x ((x.ea a imm).toNat / 4 * 4)
  let cs (x : Proc) : List Chk :=
      let ad := x.ea a imm
      let w := s.seen p (cell x)
      let isData := match loc x with | .data _ => true | _ => false
      [chkUse [x.r a.val, x.r src.val],
       chkTag (ptrOk (x.r a.val) && decide ((x.r src.val).tag = Tag.int) &&
         (!isData || decide (ad.toNat % size ≠ 0) || s.xlockHit p (loc x) || decide (w.tag = Tag.int) || decide (w.tag = Tag.none))),
       { bad := locPlane (loc x), code := keyEscape, addr := ad },
       { bad := decide (ad.toNat % size ≠ 0), code := alignTrap, addr := ad },
       { bad := !isData || s.xlockHit p (loc x), code := accessTrap, addr := ad },
       { bad := s.locBad (cell x), code := eccUncorr, addr := ad }]
  let t := s.issue p false cs
    (fun x s =>
      match cell x with
      | .data k => (s.storeWord p x (x.ea a imm).toNat k
          (mergeSub size ((x.ea a imm).toNat % 4) (s.word k) (x.r src.val).data)).thenNext p x
      | _ => s)
  s.noteXlock t p (loc (s.proc p)) cs

/-- Checks of a key-plane address: KEY_ESCAPE outside the own plane, then ALIGN (R71, R80). -/
def chkPlane (p : ProcId) (x : Proc) (ad : Word) : List Chk :=
  [{ bad := (match localMap p x ad.toNat with | .plane _ => false | _ => true), code := keyEscape, addr := ad },
   { bad := decide (ad.toNat % 4 ≠ 0), code := alignTrap, addr := ad }]

/-- Memory key of an own key-plane word. -/
def planeKey (p : ProcId) (x : Proc) (ad : Word) : Nat :=
  match localMap p x ad.toNat with
  | .plane k => k
  | _ => 0

/-- The address is an aligned word of the own key plane. -/
def planeOk (p : ProcId) (x : Proc) (ad : Word) : Bool := (chkPlane p x ad).all fun c => !c.bad

/-- LKEY (R71, R77). A misaligned one reports ALIGN before the tag of the key-plane word (DESIGN CHOICE, log entry 85). -/
def fLkey (p : ProcId) (k a : Fin 32) (imm : BitVec 16) (s : State) : State :=
  s.issue p false
    (fun x =>
      let ad := x.ea a imm
      let w := s.word (planeKey p x ad)
      [chkLegal (decide (k.val < 16)),
       { bad := decide ((x.r a.val).tag = Tag.none) || ptrOk (x.r a.val) && planeOk p x ad && decide (w.tag = Tag.none), code := tagUse },
       chkTag (ptrOk (x.r a.val) && (!planeOk p x ad || decide (w.tag = Tag.key)))] ++ chkPlane p x ad ++
      [{ bad := s.isBad (planeKey p x ad), code := eccUncorr, addr := ad }])
    (fun x s => s.thenNext p (x.setK k.val (s.word (planeKey p x (x.ea a imm)))))

/-- The key register operand: an index below 16 (R64), holding KEY; NONE raises TAG_USE. -/
def chkKey (x : Proc) (k : Fin 32) (other : List TWord) : List Chk :=
  [chkLegal (decide (k.val < 16)), chkUse (x.kr k.val :: other)]

/-- SKEY (R71, R77). -/
def fSkey (p : ProcId) (k a : Fin 32) (imm : BitVec 16) (s : State) : State :=
  s.issue p false
    (fun x => chkKey x k [x.r a.val] ++ [chkTag (ptrOk (x.r a.val))] ++ chkPlane p x (x.ea a imm))
    (fun x s =>
      ((s.lockCmp p x 0 [(x.ea a imm).toNat, (x.kr k.val).data.toNat, Tag.key.toNat]).putWord (planeKey p x (x.ea a imm))
        (x.kr k.val)).thenNext p x)

/-- Destinations of KPUT: the crypto ports, for a scheduled KPUT also by a role alias (R163, R198); from a Keystone core also a
tile's key plane (R71, log entry 8). -/
def kputOk (p : ProcId) (sched : Bool) (loc : Loc) : Bool :=
  match loc with
  | .phys a => inCryptoPort a || (sched && inAlias a) || (p.isKs && inPlane a)
  | _ => false

/-- KPUT is permitted by the local map of tiles (any window) and of Keystone cores (the global window only); a Cox core's window
takes loads and word stores (R67, R135, R386). -/
def kputMap (p : ProcId) (ad : Word) : Bool :=
  match p with
  | .tile _ _ => true
  | .cox _ => false
  | .ks _ => decide (0x80000000 ≤ ad.toNat)

/-- KPUT (R71, R77). -/
def fKput (p : ProcId) (k a : Fin 32) (imm : BitVec 16) (s : State) : State :=
  let loc (x : Proc) : Loc := localMap p x (x.ea a imm).toNat
  s.issue p false
    (fun x =>
      let ad := x.ea a imm
      chkKey x k [x.r a.val] ++
      [chkTag (ptrOk (x.r a.val)),
       { bad := !kputOk p x.sched (loc x), code := keyEscape, addr := ad },
       { bad := decide (ad.toNat % 4 ≠ 0), code := alignTrap, addr := ad },
       { bad := !kputMap p ad, code := accessTrap, addr := ad }])
    (fun x s =>
      match loc x with
      | .phys ph =>
        (((s.lockCmp p x 1 [2, ph, (x.kr k.val).data.toNat]).sendFrom p .keyWrite ph 4 [x.kr k.val] 32).updProc p fun y => { y with outStores := y.outStores + 1 }).updProc p Proc.advance
      | _ => s)

/-- KWIPE (R77). -/
def fKwipe (p : ProcId) (a : Fin 32) (imm : BitVec 16) (s : State) : State :=
  s.issue p false
    (fun x => [chkUse [x.r a.val], chkTag (ptrOk (x.r a.val))] ++ chkPlane p x (x.ea a imm))
    (fun x s => ((s.lockCmp p x 0 [(x.ea a imm).toNat, 0, 0]).putWord (planeKey p x (x.ea a imm)) TWord.none).thenNext p x)

/-- KMOV (R77). -/
def fKmov (p : ProcId) (kd ks : Fin 32) (s : State) : State :=
  s.issue p false (fun x => [chkLegal (decide (kd.val < 16) && decide (ks.val < 16)), chkUse [x.kr ks.val]])
    (fun x s => s.thenNext p (x.setK kd.val (x.kr ks.val)))

/-- KCLR (R77). -/
def fKclr (p : ProcId) (kd : Fin 32) (s : State) : State :=
  s.issue p false (fun _ => [chkLegal (decide (kd.val < 16))]) (fun x s => s.thenNext p (x.setK kd.val TWord.none))

/-- KTAGOF (R77): 1 where the key register holds KEY. -/
def fKtagof (p : ProcId) (d k : Fin 32) (s : State) : State :=
  s.compute p d.val (fun _ => []) (fun x => some (boolInt (decide ((x.kr k.val).tag = Tag.key)))) (fun _ => decide (k.val < 16))

/-- MKEY (R66, R77): INT to KEY, with key authority, which the Keystone cores have. -/
def fMkey (p : ProcId) (kd a : Fin 32) (s : State) : State :=
  s.issue p false
    (fun x => [chkLegal (decide (kd.val < 16) && p.isKs), chkUse [x.r a.val], chkTag (decide ((x.r a.val).tag = Tag.int))])
    (fun x s => s.thenNext p (x.setK kd.val ⟨(x.r a.val).data, Tag.key⟩))

/-- The processors that take a response: both tiles of a pair for a scheduled access (R103). -/
def respProcs (p : ProcId) (x : Proc) : List ProcId := if x.sched && decide (p.mate ≠ p) then [p, p.mate] else [p]

/-- The oldest response of a processor of one kind. -/
def State.respFor (s : State) (p : ProcId) (err : Bool) : Option Resp :=
  s.mort.resps.find? fun r => decide (r.proc = p.key) && decide (r.err = err)

/-- A response is taken. -/
def State.takeResp (s : State) (r : Resp) : State := { s with mort := { s.mort with resps := s.mort.resps.erase r } }

/-- A global load's response reaches one processor: its word is checked as a local load's (R79), a lost word raises ECC_UNCORR
with TADDR the load address (R155), and one later than its TC-9 figure raises SCHED_SLIP on the instruction that waits for it
(R76). -/
def State.loadResp (s : State) (r : Resp) (p : ProcId) : State :=
  let x0 := s.proc p
  let waits := decide (x0.stall = some r.dest)
  let x := if waits then { x0 with stall := none } else x0
  if x.stopped || !x.running then s
  else if x.sched && waits && (match r.due with | some t => decide (t < s.stroke) | none => false) then s.trap p schedSlip x.pc 0
  else match (({ bad := r.ecc, code := eccUncorr, addr := r.addr } : Chk) ::
      chkLoaded x r.dest r.size r.addr r.data false).find? (·.bad) with
    | some c => s.trap p c.code r.pc c.addr
    | none => s.setProc p (x.setR r.dest ((loadRes r.size (r.addr.toNat % 4) r.data).getD TWord.none))

/-- GLOBAL_LOAD_RESPONSE (R76, R81, R114). -/
def fGlobalLoadResponse (p : ProcId) (s : State) : State :=
  match s.respFor p false with
  | none => s
  | some r => (respProcs p (s.proc p)).foldl (fun s q => s.loadResp r q) (s.takeResp r)

/-- An error response reaches one processor: ACCESS naming the refused instruction, or ECC_UNCORR for a load whose response
was lost (R81, R155). -/
def State.errorResp (s : State) (r : Resp) (p : ProcId) : State :=
  let x := s.proc p
  let s1 := if r.dest = 32 then s.setProc p { x with outStores := x.outStores - 1 } else s
  if x.stopped || !x.running then s1
  else s1.trap p (if r.ecc then eccUncorr else accessTrap) r.pc r.addr

/-- ACCESS_ERROR_RESPONSE (R81). -/
def fAccessErrorResponse (p : ProcId) (s : State) : State :=
  match s.respFor p true with
  | none => s
  | some r => (respProcs p (s.proc p)).foldl (fun s q => s.errorResp r q) (s.takeResp r)

/-- LDW. -/
def execLdw (p : ProcId) (d a : Fin 32) (imm : BitVec 16) (s : State) : Host.Outcome State Fault Refusal :=
  .next (s.whenReady p [d.val, a.val] (fLoad 4 p d a imm s))

/-- LDH. -/
def execLdh (p : ProcId) (d a : Fin 32) (imm : BitVec 16) (s : State) : Host.Outcome State Fault Refusal :=
  .next (s.whenReady p [d.val, a.val] (fLoad 2 p d a imm s))

/-- LDB. -/
def execLdb (p : ProcId) (d a : Fin 32) (imm : BitVec 16) (s : State) : Host.Outcome State Fault Refusal :=
  .next (s.whenReady p [d.val, a.val] (fLoad 1 p d a imm s))

/-- STW. -/
def execStw (p : ProcId) (src a : Fin 32) (imm : BitVec 16) (s : State) : Host.Outcome State Fault Refusal :=
  .next (s.whenReady p [src.val, a.val] (fStw p src a imm s))

/-- STH. -/
def execSth (p : ProcId) (src a : Fin 32) (imm : BitVec 16) (s : State) : Host.Outcome State Fault Refusal :=
  .next (s.whenReady p [src.val, a.val] (fStoreSub 2 p src a imm s))

/-- STB. -/
def execStb (p : ProcId) (src a : Fin 32) (imm : BitVec 16) (s : State) : Host.Outcome State Fault Refusal :=
  .next (s.whenReady p [src.val, a.val] (fStoreSub 1 p src a imm s))

/-- LKEY. -/
def execLkey (p : ProcId) (k a : Fin 32) (imm : BitVec 16) (s : State) : Host.Outcome State Fault Refusal :=
  .next (s.whenReady p [a.val] (fLkey p k a imm s))

/-- SKEY. -/
def execSkey (p : ProcId) (k a : Fin 32) (imm : BitVec 16) (s : State) : Host.Outcome State Fault Refusal :=
  .next (s.whenReady p [a.val] (fSkey p k a imm s))

/-- KPUT. -/
def execKput (p : ProcId) (k a : Fin 32) (imm : BitVec 16) (s : State) : Host.Outcome State Fault Refusal :=
  .next (s.whenReady p [a.val] (fKput p k a imm s))

/-- KWIPE. -/
def execKwipe (p : ProcId) (a : Fin 32) (imm : BitVec 16) (s : State) : Host.Outcome State Fault Refusal :=
  .next (s.whenReady p [a.val] (fKwipe p a imm s))

/-- KMOV. -/
def execKmov (p : ProcId) (kd ks : Fin 32) (s : State) : Host.Outcome State Fault Refusal :=
  .next (fKmov p kd ks s)

/-- KCLR. -/
def execKclr (p : ProcId) (kd : Fin 32) (s : State) : Host.Outcome State Fault Refusal :=
  .next (fKclr p kd s)

/-- KTAGOF. -/
def execKtagof (p : ProcId) (d k : Fin 32) (s : State) : Host.Outcome State Fault Refusal :=
  .next (s.whenReady p [d.val] (fKtagof p d k s))

/-- MKEY. -/
def execMkey (p : ProcId) (kd a : Fin 32) (s : State) : Host.Outcome State Fault Refusal :=
  .next (s.whenReady p [a.val] (fMkey p kd a s))

/-- GLOBALLOADRESPONSE. -/
def execGlobalLoadResponse (p : ProcId) (s : State) : Host.Outcome State Fault Refusal :=
  .next (fGlobalLoadResponse p s)

/-- ACCESSERRORRESPONSE. -/
def execAccessErrorResponse (p : ProcId) (s : State) : Host.Outcome State Fault Refusal :=
  .next (fAccessErrorResponse p s)

end Sys2Proof.Machine
end

