-- ==== Sys2Proof/Machine/Units.lean ====
section
/-! DEFINITION. What engines, hash units and cipher units share: status words, operand checks, key planes of requesters, counters,
fence bits, signer slots (R164, R174, R175, R180-R183, R237). -/

namespace Sys2Proof

/-- The master is a processor, whose KPUT gives a KEY write (R71). -/
def Master.isProc : Master → Bool
  | .proc _ => true
  | _ => false
/-- The tile pair of a tile. -/
def Master.tilePair : Master → Nat
  | .proc (.tile _ t) => t.val / 2
  | _ => 0
/-- Strokes from the issue of a scheduled W0 to the stroke in which the unit treats it as arrived, the time over a 10-hop route; a free one
counts from its arrival (R172, R173, R211, R212). -/
def Requester.ahead (r : Requester) : Nat := if r.sched then 22 else 0
/-- An access of the requester is of the kind that the pair's OWNED bit takes (R164, R199). -/
def Requester.fits (r : Requester) (owned : Bool) : Bool := decide (owned = r.sched)

end Sys2Proof

namespace Sys2Proof.Machine

/-- State codes of R180. -/
def UState.code : UState → Nat
  | .idle => 0 | .sched => 1 | .free => 2 | .wipe => 3 | .fenced => 4 | .test => 5 | .noUc => 6
/-- A pair that runs a command. -/
def UState.running : UState → Bool
  | .sched | .free => true
  | _ => false

/-- Status word (R174): STATUS 0 DONE_OK, 1 DONE_FAIL, 2 ABORTED, 3 REFUSED. -/
def statusWord (status op txn : Nat) : TWord := TWord.int (w32 (status + op * 16 + txn * 2 ^ 12))

/-- The byte string cut or filled with zeros to n bytes. -/
def fixLen (n : Nat) (bs : List Byte) : List Byte := (bs ++ zeros n).take n
/-- Data bytes of words (R62). -/
def bytesOf (ws : List TWord) : List Byte := ws.flatMap fun w => leBytes 4 w.data.toNat
/-- Words that hold n bytes. -/
def wordsFor (n : Nat) : Nat := (n + 3) / 4

/-- A key plane of the master, if it has one (R175): base and words. -/
def planesOf (r : Requester) : List (Nat × Nat) :=
  match r.master with
  | .proc (.tile c t) =>
    if r.sched then [(planeBase c.val (2 * r.pair.val), 2048), (planeBase c.val (2 * r.pair.val + 1), 2048)]
    else [(planeBase c.val t.val, 2048)]
  | .proc (.ks _) => [(ksPlane, 16384)]
  | _ => []

/-- KEY words written to a key plane from a word upward (R175); words past its end have no place. -/
def State.putKeys (s : State) (plane : Nat × Nat) (kidx : Nat) (bs : List Byte) : State :=
  s.putWords (plane.1 + 4 * kidx) (((toWords bs).take (plane.2 - kidx)).map fun w => ⟨w, Tag.key⟩)

/-- Key-out to every plane of the requester. -/
def State.keyOut (s : State) (r : Requester) (kidx : Nat) (bs : List Byte) : State :=
  (planesOf r).foldl (fun s p => s.putKeys p kidx bs) s

/-- A saturating counter field of CNT_0 and CNT_1: index 0 OK, 1 FAIL, 2 REFUSE, 3 ABORT. -/
def State.unitCount (s : State) (b : Block) (i off n : Nat) : State := s.count16 b i (off + 4 * (n / 2)) (16 * (n % 2))

/-- A bit of a page register. -/
def State.regBit (s : State) (b : Block) (i off j : Nat) : Bool := bit (s.reg b i off) j
/-- Write of a bit of a page register. -/
def State.setRegBit (s : State) (b : Block) (i off j : Nat) (v : Bool) : State := s.updReg b i off fun w => putBit w j v
/-- Hardware sets a fence bit in the committed value and the shadow (R188, R195). -/
def State.setFence (s : State) (b : Block) (i off j : Nat) (v : Bool) : State :=
  (s.setRegBit b i off j v).setRegBit b i (0x800 + off) j v

/-- A result of a unit that a heat's plan reads is outstanding, or is there (R45, R126). -/
def State.expectUnit (s : State) (r : Requester) (unit due : Nat) : State :=
  if r.sched then { s with unitDue := s.unitDue ++ [{ course := r.course.val, pair := r.pair.val, unit := unit, due := due }] } else s
def State.unitMet (s : State) (r : Requester) (unit due : Nat) : State :=
  if r.sched then { s with unitDue := s.unitDue.erase { course := r.course.val, pair := r.pair.val, unit := unit, due := due } } else s
/-- A heat that read a result of a unit too late, or found it ABORTED or REFUSED, has this pair (R45). -/
def State.lateOn (s : State) (c p : Nat) : Bool :=
  s.unitDue.any (fun d => decide (d.course = c) && decide (d.pair = p) && decide (d.due ≤ s.stroke)) || s.sigs.contains (c, p, 12)
/-- The status word of a refused command, 24 strokes after W0 arrived (R174, R212). -/
def State.refuseLate (s : State) (a : Option Nat) (w : TWord) : State :=
  match a with
  | some a => { s with late := s.late ++ [{ at_ := s.stroke + 24, addr := a, word := w }] }
  | none => s

/-- A signer slot: its algorithm and key, where it is loaded, not revoked and readable (R237, R358). -/
def State.slotAlg (s : State) (n : Nat) : Nat := if s.isBad (slotBase n) then 0 else (s.byte (slotBase n)).toNat
/-- FLAGS.REVOKED of a slot. -/
def State.slotRevoked (s : State) (n : Nat) : Bool := (s.byte (slotBase n + 1)).getLsbD 1
/-- Key bytes of a slot. -/
def slotKeyLen (alg : Nat) : Nat :=
  match alg with
  | 0x01 => 64 | 0x04 => 96 | 0x08 => 32 | 0x10 => 256 | 0x11 => 384 | 0x12 => 512 | 0x20 => 1952 | _ => 0
/-- The public key a verification fetches from a slot; `none` fails every verification that uses it (R176, R237). -/
def State.slotKey (s : State) (n alg : Nat) : Option (List Byte) :=
  if alg = 0x22 then
    if n % 2 = 0 ∧ s.slotAlg n = 0x22 ∧ s.slotAlg (n + 1) = 0x80 ∧ !s.slotRevoked n ∧ !s.slotRevoked (n + 1) then
      some (s.bytes (slotBase n + 0x20) 2016 ++ s.bytes (slotBase (n + 1) + 0x20) 576)
    else none
  else if s.slotAlg n = alg ∧ alg ≠ 0 ∧ !s.slotRevoked n then some (s.bytes (slotBase n + 0x20) (slotKeyLen alg))
  else none
/-- The 64-byte tr of the ML-DSA key in a slot, revoked or not (R203, R206, R237). -/
def State.slotTr (s : State) (n : Nat) : Option (List Byte) :=
  if s.slotAlg n = 0x20 then some (s.bytes (slotBase n + 0x7C0) 64)
  else if n % 2 = 0 ∧ s.slotAlg n = 0x22 ∧ s.slotAlg (n + 1) = 0x80 then
    some (s.bytes (slotBase (n + 1) + 0x7C0) 64)
  else none

/-- A scheduled operand lies aligned within course shared memory (R181 reason 0x5). -/
def schedAddrOk (o n : Nat) : Bool := decide (o % 4 = 0) && decide (o + n ≤ 0x80000)

/-- The first reason that holds, in the order given. -/
def firstReason (l : List (Bool × Nat)) : Option Nat := (l.find? (·.1)).map (·.2)

end Sys2Proof.Machine
end

