-- ==== Sys2Proof/Machine/Mesh.lean ====
section
/-! DEFINITION. Beats in the mortar mesh, stroke by stroke: slot ownership, scheduled beats, free beats and what becomes of a lost
one (R146-R155, R357). -/

namespace Sys2Proof.Machine

/-! ### Slot ownership (R148-R151) -/

/-- Courses that drive the ownership of a link direction in a stroke. -/
def State.owners (s : State) (d t : Nat) : List Nat :=
  (List.range 16).filter fun c => s.mort.replays.any fun r => decide (r.course = c) && r.list.any fun e =>
    let a := r.start + fld e.w1 0 22
    decide (fld e.w0 16 7 = d) && decide (a ≤ t) && decide (t < a + fld e.w1 22 10)

/-- Link directions that some replay owns in the present stroke. -/
def State.ownedNow (s : State) : List Nat :=
  (s.mort.replays.flatMap fun r => (r.list.filter fun e =>
    let a := r.start + fld e.w1 0 22
    decide (a ≤ s.stroke) && decide (s.stroke < a + fld e.w1 22 10)).map fun e => fld e.w0 16 7).eraseDups

/-! ### Lost beats (R151, R155) -/

/-- A write's acknowledge or error response ends one outstanding store of the processors that issued it (R77). -/
def State.storeDone (s : State) (p : ProcId) : State :=
  (respProcs p (s.proc p)).foldl (fun s q => s.updProc q fun x => { x with outStores := x.outStores - 1 }) s

/-- What becomes of the work of beats that the mesh loses: a request never arrives; for a free beat the source has an error response,
which for a load tells of the lost word (R155). A context that is not delivered ends its request. -/
def State.loseFlight (s : State) (f : Flight) : State :=
  let s1 : State := { s with mort := { s.mort with flights := s.mort.flights.erase f } }
  match f.body with
  | .req m =>
    let s2 : State := { s1 with mort := { s1.mort with msgs := s1.mort.msgs.erase m } }
    if f.sched then s2 else s2.respondHere m true m.addr
  | .resp m _ => if f.sched then s1 else s1.respondHere m true m.addr
  | .ctx q => { s1 with ptn := { s1.ptn with reads := s1.ptn.reads.erase q } }
  | .mark _ _ | .key _ => s1

/-- The pair of its OWNER course whose heat a scheduled beat serves. -/
def Flight.pair (f : Flight) : Nat := match f.body with
  | .req m | .resp m _ => m.src.tilePair
  | .ctx q => q.pair
  | .mark q _ => q.pair
  | .key _ => 0
/-- A beat discarded for an uncorrectable error: a scheduled one is signalled to its OWNER course (R155). -/
def State.dropFlight (s : State) (f : Flight) : State :=
  if f.sched then (s.loseFlight f).signalCourse f.owner f.pair 9 else s.loseFlight f

/-! ### Scheduled beats (R146, R151, R357) -/

/-- Link directions that beats of a scheduled flight cross in a stroke. -/
def Flight.crossesAt (f : Flight) (t : Nat) : List Nat :=
  (f.route.zipIdx.filter fun e => decide (f.start + 2 + 2 * e.2 ≤ t) && decide (t < f.start + 2 + 2 * e.2 + f.beats)).map (·.1)

/-- A scheduled beat's stroke: it crosses slots that its course owns, on a changed route also slots that no course owns; anything
else discards it, and its course is signalled (R151, R357). -/
def State.schedBeat (s : State) (f : Flight) : State :=
  let ok (d : Nat) : Bool :=
    let os := s.owners d s.stroke
    decide (os.head? = some f.owner) || (f.alt && os.isEmpty)
  let ds := f.crossesAt s.stroke
  if ds.any s.linkFenced then s.dropFlight f
  else if ds.all ok then s
  else ((s.loseFlight f).setSticky .mort 0 3).signalCourse f.owner f.pair 13

/-! ### Free beats (R152) -/

/-- The input of a router by which a link direction comes in: 0 north, 1 east, 2 south, 3 west. -/
def inputOf (d : Nat) : Nat :=
  if d < 60 then (if d % 2 = 0 then 3 else 1) else (if d % 2 = 0 then 0 else 2)

/-- The link direction by which a free beat came into its router. -/
def Flight.cameBy (f : Flight) : Option Nat := if f.hop = 0 then none else f.route[f.hop - 1]?

/-- Place of a free beat among those that want one output: the stroke its head came, then the input, then the endpoint's ACU. -/
def Flight.rank (f : Flight) : Nat × Nat × Nat :=
  (f.head, (match f.cameBy with | some d => inputOf d | none => 4), (match f.cameBy with | some _ => 0 | none => f.acu))

/-- The earlier of two beats at an output. -/
def Flight.before (f g : Flight) : Bool :=
  let a := f.rank; let b := g.rank
  decide (a.1 < b.1) || (decide (a.1 = b.1) && (decide (a.2.1 < b.2.1) || (decide (a.2.1 = b.2.1) && decide (a.2.2 < b.2.2))))

/-- The Keystone die's side of the joint waits while the joint is down: a beat from it does not enter the mesh, and one for it does
not leave (R15). -/
def Flight.fromKs (f : Flight) : Bool := match f.body with
  | .req m => m.src.isKs
  | .resp m _ => decide (m.addr < 0x04000000)
  | _ => false
def Flight.toKs (f : Flight) : Bool := match f.body with
  | .req m => decide (m.addr < 0x04000000)
  | .resp m _ => m.src.isKs
  | _ => false
def State.flightWaits (s : State) (f : Flight) : Bool :=
  f.fromKs != f.toKs && !s.jnt.up && ((f.fromKs && decide (f.hop = 0)) || (f.toKs && decide (f.route.length ≤ f.hop)))

/-- A link direction that a free beat wants in this stroke. -/
def State.wants (s : State) (f : Flight) : Option Nat :=
  if f.sched || s.flightWaits f || decide (s.stroke ≤ f.head) then none else f.route[f.hop]?

/-- Free beats that the 16-beat buffer behind a link direction holds. -/
def State.buffered (s : State) (d : Nat) : Nat :=
  (s.mort.flights.filter fun f => !f.sched && decide (f.cameBy = some d) && decide (f.hop < f.route.length)).length

/-- One stroke of a link direction for free beats: if no course owns it, the message whose head came first crosses. -/
def State.freeBeat (s : State) (d : Nat) : State :=
  if !(s.owners d s.stroke).isEmpty || s.linkFenced d then s
  else
    let cands := s.mort.flights.filter fun f => decide (s.wants f = some d)
    match cands with
    | [] => s
    | f0 :: r =>
      let f := r.foldl (fun f g => if g.before f then g else f) f0
      if 16 ≤ s.buffered d && decide (f.hop + 1 < f.route.length) then s
      else
        let g := { f with hop := f.hop + 1, head := s.stroke + 1 }
        { s with mort := { s.mort with flights := s.mort.flights.erase f ++ [g]
                                       freeWait := max s.mort.freeWait (s.stroke - (f.head + 1)) } }

/-! ### Arrival -/

/-- The beats of a flight have all reached their endpoint (R146). -/
def State.landed (s : State) (f : Flight) : Bool :=
  !s.flightWaits f &&
    (if f.sched then decide (f.start + 1 + 2 * f.route.length + f.beats ≤ s.stroke)
     else decide (f.route.length ≤ f.hop) && decide (f.head + 1 ≤ s.stroke))

/-- A response reaches its processor: an acknowledge ends a store; any other waits for its row (R77, R81, R153). -/
def State.landResp (s : State) (f : Flight) : State :=
  let s1 : State := { s with mort := { s.mort with flights := s.mort.flights.erase f } }
  match f.body with
  | .resp m r =>
    if r.ack then (match m.src with | .proc p => s1.storeDone p | _ => s1)
    else { s1 with mort := { s1.mort with resps := s1.mort.resps ++ [r] } }
  | _ => s

/-- A message's beats have landed, and no earlier message of its source endpoint to its destination endpoint in its class is still on
the way (R153). -/
def endpointOf (a : Nat) : Nat × Nat :=
  (nodeOf a, if sealedBase ≤ a then sealedChannelOf a else if a < 0x04000000 then a / 2 ^ 24
    else if 0x10000000 ≤ a ∧ a < 0x12000000 then a / 2 ^ 24 else if 0x51000000 ≤ a ∧ a < 0x53000000 then a / 2 ^ 12
    else if 0x40000000 ≤ a ∧ a < 0x44000000 then a / 2 ^ 12 else a / 2 ^ 16)
def State.arrived (s : State) (m : Msg) : Bool :=
  (s.mort.flights.all fun f => decide (f.body ≠ .req m) || s.landed f) &&
    (s.mort.msgs.takeWhile fun o => decide (o ≠ m)).all fun o =>
      decide (o.src ≠ m.src) || decide (o.sched ≠ m.sched) || decide (endpointOf o.addr ≠ endpointOf m.addr)

/-! ### Routes changed by a fence (R155) -/

/-- The node that a link direction leads to. -/
def linkEnd (d : Nat) : Nat :=
  let l := d / 2
  if l < 30 then 6 * (l / 5) + l % 5 + (if d % 2 = 0 then 1 else 0) else (l - 30) + (if d % 2 = 0 then 6 else 0)
/-- The node that a link direction starts from. -/
def linkStart (d : Nat) : Nat := linkEnd (if d % 2 = 0 then d + 1 else d - 1)

/-- Hops of a flight that are behind it: for a scheduled one by its fixed strokes. -/
def State.hopsDone (s : State) (f : Flight) : Nat :=
  if f.sched then (s.stroke - f.start) / 2 else f.hop

/-- A flight after a link direction is fenced: beats crossing it are lost; a flight that still has to cross it takes the route in
force from where it is, or finds none (R155). -/
def State.reroute (s : State) (d : Nat) (f : Flight) : State :=
  if f.sched && (f.crossesAt s.stroke).contains d then s.dropFlight f
  else
    let n := s.hopsDone f
    let rest := f.route.drop n
    if !rest.contains d then s
    else match s.route? (linkStart (rest.headD d)) (linkEnd (rest.getLastD d)) with
      | some r =>
        { s with mort := { s.mort with flights := s.mort.flights.map fun g =>
            if g = f then { g with route := g.route.take n ++ r, alt := true } else g } }
      | none => (s.dropFlight f).setSticky .mort 0 4

/-! ### The mesh in one stroke -/

/-- One stroke of the mesh, for the stroke that has begun: conflicts of ownership, scheduled beats, free beats, responses that
arrive. -/
def State.meshTick (s : State) : State :=
  let s0 := if s.mort.replays.length < 2 then s
    else if s.ownedNow.any fun d => decide (1 < (s.owners d s.stroke).length) then s.setSticky .mort 0 5 else s
  let s1 := (s0.mort.flights.filter (·.sched)).foldl State.schedBeat s0
  let s2 := (s1.mort.flights.filterMap s1.wants).eraseDups.foldl State.freeBeat s1
  (s2.mort.flights.filter fun f => (match f.body with | .resp _ _ => true | _ => false) && s2.landed f).foldl State.landResp s2

end Sys2Proof.Machine
end

