-- ==== Sys2Proof/Machine/PkMath.lean ====
section
/-! DEFINITION. The operations on curves and on RSA keys that R165 lists, written from the standards that R166, R167 and R169 name:
ECDSA and ECDH on P-256 and P-384 (FIPS 186-5, SEC 1), Ed25519 (RFC 8032), X25519 (RFC 7748) and RSA with EMSA-PKCS1-v1_5
(RFC 8017). Every check of R176 is made; `none` is DONE_FAIL (log entry 2). -/

namespace Sys2Proof.Machine

/-! ### Arithmetic modulo p -/

/-- b to the power e modulo p, for an exponent below 2^n. -/
def powMod (p : Nat) : Nat → Nat → Nat → Nat
  | 0, _, _ => 1 % p
  | n + 1, b, e =>
    let h := powMod p n (b * b % p) (e / 2)
    if e % 2 = 1 then h * b % p else h
/-- Inverse modulo a prime p below 2^n. -/
def invMod (n p x : Nat) : Nat := powMod p n (x % p) (p - 2)
/-- Difference modulo p. -/
def subMod (p a b : Nat) : Nat := (a + (p - b % p)) % p
/-- Bits of a number, highest of the n first. -/
def bitsHigh (n v : Nat) : List Bool := (List.range n).map fun i => v.testBit (n - 1 - i)

/-! ### Short Weierstrass curves with a = -3 -/

/-- A curve of SP 800-186: bits, field, coefficient b, base point and order. -/
structure Curve where
  bits : Nat
  p : Nat
  b : Nat
  gx : Nat
  gy : Nat
  n : Nat
  deriving DecidableEq, Repr

/-- P-256. -/
def curve256 : Curve where
  bits := 256
  p := 0xFFFFFFFF00000001000000000000000000000000FFFFFFFFFFFFFFFFFFFFFFFF
  b := 0x5AC635D8AA3A93E7B3EBBD55769886BC651D06B0CC53B0F63BCE3C3E27D2604B
  gx := 0x6B17D1F2E12C4247F8BCE6E563A440F277037D812DEB33A0F4A13945D898C296
  gy := 0x4FE342E2FE1A7F9B8EE7EB4A7C0F9E162BCE33576B315ECECBB6406837BF51F5
  n := 0xFFFFFFFF00000000FFFFFFFFFFFFFFFFBCE6FAADA7179E84F3B9CAC2FC632551
/-- P-384. -/
def curve384 : Curve where
  bits := 384
  p := 0xFFFFFFFFFFFFFFFFFFFFFFFFFFFFFFFFFFFFFFFFFFFFFFFFFFFFFFFFFFFFFFFEFFFFFFFF0000000000000000FFFFFFFF
  b := 0xB3312FA7E23EE7E4988E056BE3F82D19181D9C6EFE8141120314088F5013875AC656398D8A2ED19D2A85C8EDD3EC2AEF
  gx := 0xAA87CA22BE8B05378EB1C71EF320AD746E1D3B628BA79B9859F741E082542A385502F25DBF55296C3A545E3872760AB7
  gy := 0x3617DE4A96262C6F5D9E98BF9292DC29F8F41DBD289A147CE9DA3113B5F0B8C00A60B1CE1D7E819D7A431D7C90EA0E5F
  n := 0xFFFFFFFFFFFFFFFFFFFFFFFFFFFFFFFFFFFFFFFFFFFFFFFFC7634D81F4372DDF581A0DB248B0A77AECEC196ACCC52973

/-- A point in Jacobian coordinates; z = 0 is the point at infinity. -/
structure JPoint where
  x : Nat
  y : Nat
  z : Nat
  deriving DecidableEq, Repr

/-- Double of a point. -/
def Curve.dbl (c : Curve) (a : JPoint) : JPoint :=
  if a.z = 0 ∨ a.y = 0 then ⟨1, 1, 0⟩
  else
    let zz := a.z * a.z % c.p
    let yy := a.y * a.y % c.p
    let d := 4 * a.x * yy % c.p
    let m := 3 * subMod c.p a.x zz * (a.x + zz) % c.p
    let x := subMod c.p (m * m) (2 * d)
    ⟨x, subMod c.p (m * subMod c.p d x) (8 * yy * yy), 2 * a.y * a.z % c.p⟩
/-- Sum of two points. -/
def Curve.add (c : Curve) (a b : JPoint) : JPoint :=
  if a.z = 0 then b
  else if b.z = 0 then a
  else
    let za := a.z * a.z % c.p
    let zb := b.z * b.z % c.p
    let u := a.x * zb % c.p
    let v := b.x * za % c.p
    let s := a.y * zb * b.z % c.p
    let t := b.y * za * a.z % c.p
    let h := subMod c.p v u
    let r := subMod c.p t s
    if h = 0 then (if r = 0 then c.dbl a else ⟨1, 1, 0⟩)
    else
      let hh := h * h % c.p
      let hhh := hh * h % c.p
      let w := u * hh % c.p
      let x := subMod c.p (r * r) (hhh + 2 * w)
      ⟨x, subMod c.p (r * subMod c.p w x) (s * hhh), a.z * b.z * h % c.p⟩
/-- k times a point. -/
def Curve.mul (c : Curve) (k : Nat) (a : JPoint) : JPoint :=
  (bitsHigh c.bits k).foldl (fun r t => if t then c.add (c.dbl r) a else c.dbl r) ⟨1, 1, 0⟩
/-- Affine x coordinate; `none` at infinity. -/
def Curve.affineX (c : Curve) (a : JPoint) : Option Nat :=
  if a.z = 0 then none else some (a.x * invMod c.bits c.p (a.z * a.z % c.p) % c.p)
/-- Base point. -/
def Curve.base (c : Curve) : JPoint := ⟨c.gx, c.gy, 1⟩
/-- Bytes of a coordinate or scalar. -/
def Curve.len (c : Curve) : Nat := c.bits / 8
/-- The point X ‖ Y of SEC 1 without its first byte (R169), if its coordinates are below p and it lies on the curve (R176). -/
def Curve.point (c : Curve) (bs : List Byte) : Option JPoint :=
  let x := beNat (bs.take c.len)
  let y := beNat ((bs.drop c.len).take c.len)
  if x < c.p ∧ y < c.p ∧ y * y % c.p = (subMod c.p (x * x * x) (3 * x) + c.b) % c.p then some ⟨x, y, 1⟩ else none

/-- ECDSA verification (R167, R176): public key, digest e, r ‖ s. -/
def ecdsaVerify (c : Curve) (pub e sig : List Byte) : Bool :=
  let r := beNat (sig.take c.len)
  let s := beNat ((sig.drop c.len).take c.len)
  match c.point pub with
  | none => false
  | some q =>
    decide (0 < r ∧ r < c.n ∧ 0 < s ∧ s < c.n) &&
      (let w := invMod c.bits c.n s
       match c.affineX (c.add (c.mul (beNat e * w % c.n) c.base) (c.mul (r * w % c.n) q)) with
       | none => false
       | some x => decide (x % c.n = r))
/-- ECDSA signing (R165, R167, R176): the nonce is taken from the random bytes by the extra random bits method of FIPS 186-5. -/
def ecdsaSign (c : Curve) (key e rnd : List Byte) : Option (List Byte) :=
  let d := beNat key
  if d = 0 ∨ c.n ≤ d then none
  else
    let k := beNat rnd % (c.n - 1) + 1
    match c.affineX (c.mul k c.base) with
    | none => none
    | some x =>
      let r := x % c.n
      let s := invMod c.bits c.n k * (beNat e + r * d) % c.n
      if r = 0 ∨ s = 0 then none else some (beBytes c.len r ++ beBytes c.len s)
/-- ECDH (R169, R176): the x coordinate of d times the peer's point. -/
def ecdh (c : Curve) (key peer : List Byte) : Option (List Byte) :=
  let d := beNat key
  if d = 0 ∨ c.n ≤ d then none
  else (c.point peer).bind fun q => (c.affineX (c.mul d q)).map (beBytes c.len)

/-! ### The field 2^255 - 19 -/

/-- The prime of Curve25519. -/
def p25519 : Nat := 2 ^ 255 - 19
/-- The order L of the base point. -/
def order25519 : Nat := 2 ^ 252 + 27742317777372353535851937790883648493
/-- Coefficient d of the Edwards curve. -/
def edD : Nat := 37095705934669439343138083508754565189542113879843219016388785533085940283555
/-- A square root of -1. -/
def sqrtM1 : Nat := powMod p25519 255 2 ((p25519 - 1) / 4)

/-- A point of the Edwards curve in extended coordinates. -/
structure EPoint where
  x : Nat
  y : Nat
  z : Nat
  t : Nat
  deriving DecidableEq, Repr

/-- Sum of two points. -/
def EPoint.add (a b : EPoint) : EPoint :=
  let p := p25519
  let e := subMod p a.y a.x * subMod p b.y b.x % p
  let f := (a.y + a.x) * (b.y + b.x) % p
  let g := 2 * a.t * b.t * edD % p
  let h := 2 * a.z * b.z % p
  let u := subMod p f e
  let v := subMod p h g
  let w := (h + g) % p
  let k := (f + e) % p
  ⟨u * v % p, w * k % p, v * w % p, u * k % p⟩
/-- The neutral point. -/
def edZero : EPoint := ⟨0, 1, 1, 0⟩
/-- k times a point, k below 2^256. -/
def EPoint.mul (k : Nat) (a : EPoint) : EPoint :=
  (bitsHigh 256 k).foldl (fun r t => if t then (r.add r).add a else r.add r) edZero
/-- Two points are the same. -/
def EPoint.same (a b : EPoint) : Bool :=
  decide (a.x * b.z % p25519 = b.x * a.z % p25519) && decide (a.y * b.z % p25519 = b.y * a.z % p25519)
/-- The point that a number 2^255 · sign + y encodes, if y is below p and has a square root, and x is not 0 with the sign bit set
(RFC 8032, R176). -/
def edPoint (v : Nat) : Option EPoint :=
  let p := p25519
  let y := v % 2 ^ 255
  let sign := v / 2 ^ 255 % 2
  if p ≤ y then none
  else
    let u := subMod p (y * y) 1
    let w := (edD * y % p * y + 1) % p
    let x0 := u * powMod p 255 w 3 % p * powMod p 255 (u * powMod p 255 w 7 % p) ((p - 5) / 8) % p
    let chk := w * x0 % p * x0 % p
    let x? := if chk = u then some x0 else if chk = subMod p 0 u then some (x0 * sqrtM1 % p) else none
    match x? with
    | none => none
    | some x =>
      if x = 0 ∧ sign = 1 then none
      else
        let x := if x % 2 = sign then x else p - x
        some ⟨x, y, 1, x * y % p⟩
/-- The base point B, with y = 4/5 and x even. -/
def edBase : EPoint := (edPoint (4 * invMod 255 p25519 5 % p25519)).getD edZero
/-- Encoding of a point, 32 bytes. -/
def EPoint.encode (a : EPoint) : List Byte :=
  let i := invMod 255 p25519 a.z
  leBytes 32 (a.y * i % p25519 + a.x * i % p25519 % 2 * 2 ^ 255)
/-- Ed25519 verification (R167, R176): public key A, R ‖ S, message. -/
def edVerify (pub sig msg : List Byte) : Bool :=
  let rb := sig.take 32
  let s := leNat ((sig.drop 32).take 32)
  match edPoint (leNat pub), edPoint (leNat rb) with
  | some a, some r =>
    (a.mul order25519).same edZero && (r.mul order25519).same edZero && decide (s < order25519) &&
      (edBase.mul s).same (r.add (a.mul (leNat (sha512 (rb ++ pub ++ msg)) % order25519)))
  | _, _ => false
/-- The scalar that RFC 8032 and RFC 7748 make of 32 bytes. -/
def clamp25519 (v : Nat) : Nat := v % 2 ^ 254 / 8 * 8 + 2 ^ 254
/-- Ed25519 signing (R167): 32-byte seed, message. -/
def edSign (seed msg : List Byte) : List Byte :=
  let h := sha512 seed
  let a := clamp25519 (leNat (h.take 32))
  let pub := (edBase.mul a).encode
  let r := leNat (sha512 (h.drop 32 ++ msg)) % order25519
  let rb := (edBase.mul r).encode
  rb ++ leBytes 32 ((r + leNat (sha512 (rb ++ pub ++ msg)) % order25519 * a) % order25519)
/-- One step of the ladder of RFC 7748: x1, then (x2, z2, x3, z3). -/
def ladderStep (x1 : Nat) (v : Nat × Nat × Nat × Nat) (t : Bool) : Nat × Nat × Nat × Nat :=
  let p := p25519
  let w := if t then (v.2.2.1, v.2.2.2, v.1, v.2.1) else v
  let a := (w.1 + w.2.1) % p
  let b := subMod p w.1 w.2.1
  let aa := a * a % p
  let bb := b * b % p
  let e := subMod p aa bb
  let da := subMod p w.2.2.1 w.2.2.2 * a % p
  let cb := (w.2.2.1 + w.2.2.2) * b % p
  let x3 := (da + cb) * (da + cb) % p
  let d := subMod p da cb
  let z3 := x1 * (d * d % p) % p
  let x2 := aa * bb % p
  let z2 := e * ((aa + 121665 * e) % p) % p
  if t then (x3, z3, x2, z2) else (x2, z2, x3, z3)
/-- X25519 (R165, R176): an all-zero output fails. -/
def x25519 (key u : List Byte) : Option (List Byte) :=
  let k := clamp25519 (leNat key)
  let x1 := leNat u % 2 ^ 255 % p25519
  let v := (bitsHigh 255 k).foldl (ladderStep x1) (1, 0, x1, 1)
  let o := v.1 * invMod 255 p25519 v.2.1 % p25519
  if o = 0 then none else some (leBytes 32 o)

/-! ### RSA -/

/-- DER encoding before the digest, by W0.HID (RFC 8017). -/
def digestInfo (hid : Nat) : List Byte :=
  let x := match hid with | 0 => ((0x31, 0x01, 0x20) : Byte × Byte × Byte) | 1 => (0x41, 0x02, 0x30) | _ => (0x51, 0x03, 0x40)
  [0x30, x.1, 0x30, 0x0D, 0x06, 0x09, 0x60, 0x86, 0x48, 0x01, 0x65, 0x03, 0x04, 0x02, x.2.1, 0x05, 0x00, 0x04, x.2.2]
/-- EMSA-PKCS1-v1_5 encoding of a digest in n bytes (R166). -/
def emsaPkcs1 (n hid : Nat) (digest : List Byte) : List Byte :=
  let t := digestInfo hid ++ digest
  [0x00, 0x01] ++ List.replicate (n - 3 - t.length) 0xFF ++ [0x00] ++ t
/-- RSA verification with exponent 65,537 (R166, R176): modulus of n bytes, digest, signature. -/
def rsaVerify (n hid : Nat) (pub digest sig : List Byte) : Bool :=
  let m := beNat pub
  let s := beNat sig
  decide (m % 2 = 1 ∧ 2 ^ (8 * n - 1) ≤ m ∧ 0 < s ∧ s < m) &&
    decide (beBytes n (powMod m 17 s 65537) = emsaPkcs1 n hid digest)
/-- RSA signing by the Chinese remainder theorem (R166, R169, R176): p, q, dp, dq and qinv of n / 2 bytes each, digest. The result is
checked with exponent 65,537; the random bytes of R165 have no part in it. -/
def rsaSign (n hid : Nat) (key digest : List Byte) : Option (List Byte) :=
  let part (i : Nat) : Nat := beNat ((key.drop (i * (n / 2))).take (n / 2))
  let p := part 0
  let q := part 1
  let m := beNat (emsaPkcs1 n hid digest)
  if p % 2 = 0 ∨ q % 2 = 0 ∨ p * q < 2 ^ (8 * n - 1) ∨ 2 ^ (8 * n) ≤ p * q then none
  else
    let m2 := powMod q (4 * n) (m % q) (part 3)
    let h := part 4 * subMod p (powMod p (4 * n) (m % p) (part 2)) m2 % p
    let s := (m2 + h * q) % (p * q)
    if powMod (p * q) 17 s 65537 = m then some (beBytes n s) else none

end Sys2Proof.Machine
end

