-- ==== Sys2Proof/Machine/Pke.lean ====
section
/-! DEFINITION. The public-key engines (R161-R195): commands, their end, aborts and wipes, faults and substitution, self-test,
microcode, the generator, and the PKE page's own rows. -/

namespace Sys2Proof.Machine

/-- One row of R165 and R169: figure, random bytes, bytes in KEY, PUB, IN_A, IN_B and OUT, key-out bytes. IN_A 0 of the RSA rows is
the digest of W0.HID; IN_B of Ed25519 is 4 bytes of length and up to 256 of message. -/
structure PkInfo where
  f    : Nat
  rnd  : Nat := 0
  key  : Nat := 0
  pub  : Nat := 0
  inA  : Nat := 0
  inB  : Nat := 0
  out  : Nat := 0
  kout : Nat := 0
  rsa  : Bool := false
  deriving DecidableEq, Repr

/-- The operations of R165 with the operands of R169; every other OP is reserved. -/
def pkInfo : Nat → Option PkInfo
  | 0x01 => some { f := 38400, pub := 64, inA := 32, inB := 64 }
  | 0x02 => some { f := 41000, rnd := 48, key := 32, inA := 32, out := 64 }
  | 0x03 => some { f := 36000, key := 32, inB := 64, kout := 32 }
  | 0x04 => some { f := 88000, pub := 96, inA := 48, inB := 96 }
  | 0x05 => some { f := 94000, rnd := 64, key := 48, inA := 48, out := 96 }
  | 0x06 => some { f := 84000, key := 48, inB := 96, kout := 48 }
  | 0x08 => some { f := 34000, pub := 32, inA := 64, inB := 260 }
  | 0x09 => some { f := 30000, key := 32, inB := 260, out := 64 }
  | 0x0A => some { f := 29000, key := 32, inB := 32, kout := 32 }
  | 0x10 => some { f := 11000, pub := 256, inB := 256, rsa := true }
  | 0x11 => some { f := 24000, pub := 384, inB := 384, rsa := true }
  | 0x12 => some { f := 42000, pub := 512, inB := 512, rsa := true }
  | 0x14 => some { f := 370000, rnd := 64, key := 640, out := 256, rsa := true }
  | 0x15 => some { f := 1230000, rnd := 64, key := 960, out := 384, rsa := true }
  | 0x16 => some { f := 2900000, rnd := 64, key := 1280, out := 512, rsa := true }
  | 0x20 => some { f := 21000, pub := 1952, inA := 64, inB := 3309 }
  | 0x21 => some { f := 96000, rnd := 32, key := 32, inA := 64, out := 3309 }
  | 0x22 => some { f := 31000, pub := 2592, inA := 64, inB := 4627 }
  | 0x23 => some { f := 140000, rnd := 32, key := 32, inA := 64, out := 4627 }
  | 0x28 => some { f := 11000, rnd := 32, inB := 1184, out := 1088, kout := 32 }
  | 0x29 => some { f := 14000, key := 64, inB := 1088, kout := 32 }
  | 0x2A => some { f := 15000, rnd := 32, inB := 1568, out := 1568, kout := 32 }
  | 0x2B => some { f := 19000, key := 64, inB := 1568, kout := 32 }
  | _ => none

/-- Digest bytes of an RSA command by W0.HID (R171). -/
def hidLen (hid : Nat) : Nat := match hid with | 0 => 32 | 1 => 48 | _ => 64
/-- Bytes of IN_A. -/
def PkInfo.lenA (i : PkInfo) (hid : Nat) : Nat := if i.rsa then hidLen hid else i.inA
/-- Ed25519 with its message length word. -/
def isEd (op : Nat) : Bool := decide (op = 0x08) || decide (op = 0x09)

/-- Engine pair q. -/
def State.pkeU (s : State) (q : Nat) : Pke := Sparse.get {} s.pke q
/-- Write of a pair. -/
def State.setPke (s : State) (q : Nat) (x : Pke) : State := { s with pke := Sparse.set {} s.pke q x }
/-- Update of a pair. -/
def State.updPke (s : State) (q : Nat) (f : Pke → Pke) : State := s.setPke q (f (s.pkeU q))
/-- Cluster k. -/
def State.clu (s : State) (k : Nat) : Cluster := Sparse.get {} s.cluster k
/-- Update of a cluster. -/
def State.updClu (s : State) (k : Nat) (f : Cluster → Cluster) : State :=
  { s with cluster := Sparse.set {} s.cluster k (f (s.clu k)) }
/-- OWNED of pair q (R164). -/
def State.pkeOwned (s : State) (q : Nat) : Bool := s.regBit .pke (q / 12) 0x48 (q % 12)
/-- Committed FENCE of pair q. -/
def State.pkeFence (s : State) (q : Nat) : Bool := s.regBit .pke (q / 12) 0x4C (q % 12)
/-- The spare pair of q's cluster (R355). -/
def spareOf (q : Nat) : Nat := q / 12 * 12 + 11
/-- The pair that a beat addressed to q reaches (R355): the spare while a substitution of q is in force. -/
def State.pkeRoute (s : State) (q : Nat) : Nat :=
  let v := s.reg .pke (q / 12) 0xBC
  if bit v 4 && decide (fld v 0 4 = q % 12) then spareOf q else q
/-- Byte base of a region of pair q's operand memory (R168); both engines hold the same words. -/
def pkeRegion (q off : Nat) : Nat := operandBase q + off
/-- The generator cannot serve a draw (R179). -/
def Cluster.exhausted (c : Cluster) : Bool := !c.seeded || decide (2 ^ 28 ≤ c.draws)
/-- The generator as draws of a stroke find it: a reseed of the same stroke is not seen (R179). -/
def Cluster.at_ (c : Cluster) (stroke : Nat) : Cluster :=
  if c.dealAt = some stroke ∧ c.reseed.isSome then { c with seeded := c.seeded0, draws := c.draws0 + c.deals.length } else c
/-- The first draw or reseed of a stroke notes the generator as it is. -/
def Cluster.open_ (c : Cluster) (stroke : Nat) : Cluster :=
  if c.dealAt = some stroke then c
  else { c with dealAt := some stroke, seeded0 := c.seeded, draws0 := c.draws, k0 := c.drbgK, v0 := c.drbgV, deals := [], reseed := none }
/-- Draws in order of pair number. -/
def dealSort (l : List (Nat × Nat)) : List (Nat × Nat) :=
  l.foldl (fun a x => (a.filter fun y => decide (y.1 ≤ x.1)) ++ x :: a.filter fun y => decide (x.1 < y.1)) []
/-- The draws of a stroke dealt in order of local pair number, then a reseed of that stroke: the bytes by pair, and the generator after
them (R178, R179). -/
def Cluster.deal (c : Cluster) : List (Nat × List Byte) × Cluster :=
  let r := (dealSort c.deals).foldl (fun (acc : List (Nat × List Byte) × List Byte × List Byte) (x : Nat × Nat) =>
    let g := drbgGenerate acc.2.1 acc.2.2 x.2
    (acc.1 ++ [(x.1, g.1)], g.2.1, g.2.2)) ([], c.k0, c.v0)
  match c.reseed with
  | some m =>
    let g := drbgUpdate r.2.1 r.2.2 m
    (r.1, { c with drbgK := g.1, drbgV := g.2, draws := 0, uncounted := 0, seeded := true })
  | none => (r.1, { c with drbgK := r.2.1, drbgV := r.2.2, draws := min (c.draws0 + c.deals.length) (2 ^ 32 - 1) })
/-- A draw or a reseed of the present stroke: the stroke is dealt anew, and every pair that drew in it has its bytes. -/
def State.dealNow (s : State) (k : Nat) (f : Cluster → Cluster) : State :=
  let d := (f ((s.clu k).open_ s.stroke)).deal
  d.1.foldl (fun s x => s.updPke x.1 fun y => { y with cmd := y.cmd.map fun c => { c with rnd := x.2 } }) (s.updClu k fun _ => d.2)

/-- Zero into every word of the pair's operand memory (R182). -/
def State.wipeOperand (s : State) (q : Nat) : State := s.wipe (operandBase q) 0x4000

/-- Requester of a command has a key plane (R175). -/
def hasPlane (r : Requester) : Bool := !(planesOf r).isEmpty

/-- Reserved and unused fields of a command are 0 (R171). -/
def pkFieldsOk (op w0 : Nat) (w : Nat → Nat) (r : Requester) : Bool :=
  match pkInfo op with
  | none => false
  | some i =>
    let hid := w0 / 2 ^ 24 % 4
    let slot := w0 / 2 ^ 8 % 1024
    let kidx := w 4
    decide (w0 / 2 ^ 27 = 0) && decide (hid ≠ 3) && (i.rsa || decide (hid = 0)) && (decide (i.pub ≠ 0) || decide (slot = 0)) &&
      (decide (i.pub ≠ 0) || decide (w0 / 2 ^ 26 % 2 = 0)) &&
      (decide (w 1 < 2 ^ 19) && decide (w 2 < 2 ^ 19) && decide (w 3 < 2 ^ 19) && decide (kidx < 2 ^ 11)) &&
      (decide (i.kout ≠ 0) || decide (kidx = 0)) &&
      (!r.sched || ((decide (i.lenA hid ≠ 0) || decide (w 1 = 0)) && (decide (i.inB ≠ 0) || decide (w 2 = 0))))

/-- Addresses of a command (R181 reason 0x5). -/
def pkAddrOk (op w0 : Nat) (w : Nat → Nat) (r : Requester) : Bool :=
  match pkInfo op with
  | none => true
  | some i =>
    if r.sched then
      schedAddrOk (w 1) (i.lenA (w0 / 2 ^ 24 % 4)) && schedAddrOk (w 2) i.inB && schedAddrOk (w 3) (4 + i.out)
    else decide (w 1 = 0) && decide (w 2 = 0) && decide (w 3 = 0)

/-- Reason of refusal of W0 (R181), `none` where the command starts. -/
def State.pkeReason (s : State) (r : Requester) (q w0 : Nat) (w : Nat → Nat) : Option Nat :=
  let x := s.pkeU q
  let op := w0 % 256
  let i := (pkInfo op).getD { f := 0 }
  firstReason
    [(!(s.clu (q / 12)).ucValid, 6), (decide (x.st = .fenced) || decide (x.st = .test), 8),
     (!r.sched && s.pkeOwned q, 2), (r.sched && !s.pkeOwned q, 3), (decide (x.st ≠ .idle), 1),
     (!pkFieldsOk op w0 w r, 4), (r.sched && decide (w0 / 2 ^ 26 % 2 = 1), 10), (!pkAddrOk op w0 w r, 5),
     (decide (i.kout ≠ 0) && !hasPlane r, 9), (decide (i.rnd ≠ 0) && ((s.clu (q / 12)).at_ s.stroke).exhausted, 7)]

/-- Where a status word goes: OUT in course shared memory, or CTL (R172, R173); `none` for an address that is not legal. -/
def pkStatusAt (r : Requester) (q w3 : Nat) : Option Nat :=
  if r.sched then (if schedAddrOk w3 4 then some (sharedBase r.course.val + w3) else none) else some (pkeRegion q 0x3F00)

/-- A refused W0 (R174, R181): its status word 24 strokes later, LAST_REFUSE, REFUSE_CNT, STKY.REFUSED, and DRBG_LIMIT for reason 0x7.
For a heat it is a fault (R45). -/
def State.pkeRefuse (s : State) (r : Requester) (q w0 w3 reason : Nat) : State :=
  let k := q / 12
  let op := w0 % 256
  let s := (s.setSticky .pke k 3).unitCount .pke k 0xB0 2
  let s := s.setReg .pke k 0xB8 (w32 (q % 12 + op * 16 + reason * 2 ^ 12))
  let s := if reason = 7 then s.setSticky .pke k 6 else s
  (s.refuseLate (pkStatusAt r q w3) (statusWord 3 op (w0 / 2 ^ 18 % 64))).expectUnit r q (s.stroke + 24)

/-- Microcode fetch of an operation (R191): a word bad in one bank is rewritten from the other and ECC_UNCORR sets; a word bad in
both clears UC_VALID. -/
def State.ucFetch (s : State) (k : Nat) : State :=
  let c := s.clu k
  if c.bad0.isEmpty && c.bad1.isEmpty then s
  else
    let both := c.bad0.filter fun w => c.bad1.contains w
    let s1 := s.setSticky .pke k 1
    if both.isEmpty then s1.updClu k fun c => { c with bad0 := [], bad1 := [] }
    else s1.updClu k fun c => { c with ucValid := false, bad0 := both, bad1 := both }

/-- Abort of the running command of a pair, or a wipe without one: WIPE for 512 strokes, operand memory zeroed (R182). -/
def State.pkeAbortNow (s : State) (q : Nat) (toFence : Bool) : State :=
  (s.updPke q fun x =>
    { x with st := .wipe, due := s.stroke + 512, toFence := toFence || x.fenceWait, fenceWait := false, cmd := none, result := false,
             aborted := if x.st.running then x.cmd else x.aborted }).wipeOperand q

/-- Pairs of a cluster. -/
def clusterPairs (k : Nat) : List Nat := (List.range 12).map (12 * k + ·)

/-- Operands of a scheduled command fetched from course shared memory, and the public key from its slot (R172, R173): an unusable
slot leaves PUB NONE, which fails the operation. -/
def State.pkeFetch (s : State) (r : Requester) (q w0 : Nat) (w : Nat → Nat) (i : PkInfo) : State :=
  let b := sharedBase r.course.val
  let s := if r.sched then
      (s.putWords (pkeRegion q 0x1800) (s.words (b + w 1) (wordsFor (i.lenA (w0 / 2 ^ 24 % 4))))).putWords (pkeRegion q 0x1900)
        (s.words (b + w 2) (wordsFor i.inB))
    else s
  if i.pub = 0 ∨ w0 / 2 ^ 26 % 2 = 1 then s
  else match s.slotKey (w0 / 2 ^ 8 % 1024) (w0 % 256) with
    | some key => s.putInts (pkeRegion q 0x0800) key
    | none => s.wipe (pkeRegion q 0x0800) i.pub

/-- The owner course of a scheduled command that runs on a pair is told of its abort (R187, R188). -/
def State.pkeTell (s : State) (q cause : Nat) : State :=
  match (s.pkeU q).cmd with
  | some c => if c.req.sched && (s.pkeU q).st.running then s.signalCourse c.req.course.val c.req.pair.val cause else s
  | none => s
/-- Microcode bad in both banks (R191): every pair of the cluster that runs aborts, and every pair enters NO_UC, at the end of its wipe
where it has one. -/
def State.pkeNoUc (s : State) (k : Nat) : State :=
  (clusterPairs k).foldl (fun s q =>
    if (s.pkeU q).st.running then (s.pkeTell q 12).pkeAbortNow q false
    else if (s.pkeU q).st = .wipe then s
    else s.updPke q fun x => { x with st := .noUc }) s

/-- The key of a free verification leaves the signer store over free joints (R173); with no route it never comes. -/
def State.keyFlight (s : State) (q : Nat) : State :=
  match s.route? (nodeOf 0x11000000) (nodeOf (0x50000000 + 2 * q * 2 ^ 16)) with
  | some r => s.fly { body := .key q, sched := false, owner := 0, route := r, start := s.stroke, head := s.stroke + 1 }
  | none => s.setSticky .mort 0 4
/-- W0 arrives at engine pair q (R171-R173, R179, R181): staging words are taken and reset, then the command is refused or starts. The
figure of a scheduled command counts from its issue, 22 strokes before (R172). The fetch of a free command's key crosses the free joints
(R173). -/
def State.pkeW0 (s : State) (r : Requester) (q0 : Nat) (v : Word) : State :=
  let q := s.pkeRoute q0
  let k := q / 12
  let st := (s.pkeU q).stage
  let w (n : Nat) : Nat := (Sparse.get 0 st n).toNat
  let s := s.updPke q fun x => { x with stage := [] }
  match s.pkeReason r q v.toNat w with
  | some reason => s.pkeRefuse r q v.toNat (w 3) reason
  | none =>
    let i := (pkInfo (v.toNat % 256)).getD { f := 0 }
    let s := s.ucFetch k
    let due := s.stroke + i.f - r.ahead
    let far := !r.sched && decide (i.pub ≠ 0) && !bit v 26
    let s := s.pkeFetch r q v.toNat w i
    let s := s.putWords (pkeRegion q 0x3F04) ([v, w32 (w 1), w32 (w 2), w32 (w 3), w32 (w 4)].map TWord.int)
    let s := s.updPke q fun x =>
      { x with st := if r.sched then .sched else .free, due := due, result := false,
               cmd := some { w := [v, w32 (w 1), w32 (w 2), w32 (w 3), w32 (w 4)], req := r, due := due
                             fetch := if far then some (s.stroke + Config.keyNeeded (v.toNat % 256)) else none } }
    let s := s.expectUnit r q due
    let s := if far then s.keyFlight q else s
    if !(s.clu k).ucValid then s.pkeNoUc k
    else if i.rnd = 0 then s
    else s.dealNow k fun c => { c with deals := c.deals ++ [(q, i.rnd)] }

/-- The command's row: a W0 whose OP is the row's. A word with another OP is no such command and changes nothing. -/
def pkeRow (op : Nat) (r : Requester) (q : Fin 48) (w0 : Word) (s : State) : State :=
  if w0.toNat % 256 = op then s.pkeW0 r q.val w0 else s

/-- Words an operation may read: INT or LIMB (R176). -/
def limbOk (ws : List TWord) : Bool := ws.all fun w => decide (w.tag = Tag.int) || decide (w.tag = Tag.limb)

/-- A check without output. -/
def pkVerdict (ok : Bool) : Option (List Byte × List Byte) := if ok then some ([], []) else none
/-- A result for OUT. -/
def pkOut (o : Option (List Byte)) : Option (List Byte × List Byte) := o.map fun b => (b, [])
/-- A result for the key planes. -/
def pkKey (o : Option (List Byte)) : Option (List Byte × List Byte) := o.map fun b => ([], b)
/-- The operation by its standard (R165-R167, R169, R176, R177): OUT and key-out bytes, or `none` for DONE_FAIL. Arguments: OP, HID,
KEY, PUB, IN_A and IN_B bytes, random bytes. -/
def pkOp (op hid : Nat) (key pub a b rnd : List Byte) : Option (List Byte × List Byte) :=
  match op with
  | 0x01 => pkVerdict (ecdsaVerify curve256 pub a b)
  | 0x02 => pkOut (ecdsaSign curve256 key a rnd)
  | 0x03 => pkKey (ecdh curve256 key b)
  | 0x04 => pkVerdict (ecdsaVerify curve384 pub a b)
  | 0x05 => pkOut (ecdsaSign curve384 key a rnd)
  | 0x06 => pkKey (ecdh curve384 key b)
  | 0x08 => pkVerdict (edVerify pub a b)
  | 0x09 => pkOut (some (edSign key b))
  | 0x0A => pkKey (x25519 key b)
  | 0x10 => pkVerdict (rsaVerify 256 hid pub a b)
  | 0x11 => pkVerdict (rsaVerify 384 hid pub a b)
  | 0x12 => pkVerdict (rsaVerify 512 hid pub a b)
  | 0x14 => pkOut (rsaSign 256 hid key a)
  | 0x15 => pkOut (rsaSign 384 hid key a)
  | 0x16 => pkOut (rsaSign 512 hid key a)
  | 0x20 => pkVerdict (dsa65.verify pub a b)
  | 0x21 => pkOut (dsa65.sign key a rnd)
  | 0x22 => pkVerdict (dsa87.verify pub a b)
  | 0x23 => pkOut (dsa87.sign key a rnd)
  | 0x28 => kem768.encaps b rnd
  | 0x29 => pkKey (some (kem768.decaps key b))
  | 0x2A => kem1024.encaps b rnd
  | 0x2B => pkKey (some (kem1024.decaps key b))
  | _ => none

/-- Outcome of the operation on the operands in the pair's regions: OUT and key-out bytes, or `none` for DONE_FAIL (R176), as for a
command whose key came too late (R173). -/
def State.pkeCompute (s : State) (q : Nat) (c : UCmd) : Option (List Byte × List Byte) :=
  let w0 := (c.w.headD 0).toNat
  let op := w0 % 256
  let hid := w0 / 2 ^ 24 % 4
  match pkInfo op with
  | none => none
  | some i =>
    let key := s.words (pkeRegion q 0) (wordsFor i.key)
    let pub := s.words (pkeRegion q 0x0800) (wordsFor i.pub)
    let a := s.words (pkeRegion q 0x1800) (wordsFor (i.lenA hid))
    let len := (s.word (pkeRegion q 0x1900)).data.toNat
    let nb := if isEd op then 4 + min len 256 else i.inB
    let b := s.words (pkeRegion q 0x1900) (wordsFor nb)
    if !c.late && key.all (fun w => decide (w.tag = Tag.key)) && limbOk pub && limbOk a && limbOk b && !(isEd op && decide (256 < len)) then
      let bb := (bytesOf b).take nb
      (pkOp op hid ((bytesOf key).take i.key) ((bytesOf pub).take i.pub) ((bytesOf a).take (i.lenA hid))
        (if isEd op then bb.drop 4 else bb) c.rnd).map fun o => (fixLen i.out o.1, fixLen i.kout o.2)
    else none

/-- The fence of a pair takes it out of service: PASS clears (R195), and the spare takes its place where it can (R355, R512). -/
def State.pkeEnterFence (s : State) (q : Nat) : State :=
  let k := q / 12
  let s := s.updPke q fun x => { x with passed := false }
  let sp := spareOf q
  if q = sp then
    if bit (s.reg .pke k 0xBC) 4 then s.updReg .pke k 0xBC fun v => putBit v 4 false else s
  else if s.pkeFence sp || bit (s.reg .pke k 0xBC) 4 then s
  else (s.setReg .pke k 0xBC (w32 (q % 12 + 16))).setRegBit .pke k 0x48 11 (s.pkeOwned q)

/-- PKE_OPERATION_DONE (R172-R176): at the end of the figure the status and OUT data are written, key-out goes to the planes, the
KEY region is cleared, and the pair is IDLE or, after a commit of its fence bit, FENCED (R512). -/
def fPkeDone (q : Nat) (s : State) : State :=
  let x := s.pkeU q
  match x.cmd with
  | none => s
  | some c =>
    if !x.st.running || decide (s.stroke < c.due) then s
    else
      let w0 := (c.w.headD 0).toNat
      let op := w0 % 256
      let k := q / 12
      let i := (pkInfo op).getD { f := 0 }
      let res := s.pkeCompute q c
      let outB := (res.map (·.1)).getD (zeros i.out)
      let keyB := (res.map (·.2)).getD (zeros i.kout)
      let st := statusWord (if res.isSome then 0 else 1) op (w0 / 2 ^ 18 % 64)
      let s1 := if c.req.sched then
          (s.putWord (sharedBase c.req.course.val + (c.w.getD 3 0).toNat) st).putInts
            (sharedBase c.req.course.val + (c.w.getD 3 0).toNat + 4) outB
        else (s.putWord (pkeRegion q 0x3F00) st).putInts (pkeRegion q 0x2C00) outB
      let s2 := if i.kout = 0 then s1 else s1.keyOut c.req (c.w.getD 4 0).toNat keyB
      let s3 := if i.key = 0 then s2 else s2.wipe (pkeRegion q 0) 0x800
      let s4 := (s3.unitCount .pke k 0xB0 (if res.isSome then 0 else 1)).unitMet c.req q c.due
      let s5 := s4.updPke q fun x =>
        { x with st := if x.fenceWait then .fenced else .idle, cmd := none, result := !c.req.sched, fenceWait := false }
      if x.fenceWait then s5.pkeEnterFence q else s5

/-- A pair whose command's end has come is finished, whatever comes in that stroke (R183). -/
def State.pkeAlive (s : State) (q : Nat) : Bool := (s.pkeU q).st.running && decide (s.stroke < (s.pkeU q).due)
/-- The commands of a cluster whose end has come deliver their results (R183). -/
def State.pkeFinish (s : State) (k : Nat) : State :=
  (clusterPairs k).foldl (fun s q => if (s.pkeU q).st.running && !s.pkeAlive q then fPkeDone q s else s) s
/-- A write of PKE.ABORT (R182, R183). -/
def fPkeAbort (k : Nat) (v : Word) (s : State) : State :=
  let j := fld v 0 4
  if j < 12 ∧ (s.pkeU (12 * k + j)).st = .free ∧ s.pkeAlive (12 * k + j) then s.pkeAbortNow (12 * k + j) false
  else s.setSticky .pke k 0 0x50 j

/-- The wipe ends (R174, R182, R187): IDLE, FENCED or NO_UC, and ABORTED is reported. -/
def fPkeWipeDone (q : Nat) (s : State) : State :=
  let x := s.pkeU q
  let k := q / 12
  if x.st ≠ .wipe ∨ s.stroke < x.due then s
  else
    let s0 := s.setPke q { x with
      st := if !(s.clu k).ucValid then .noUc else if x.toFence then .fenced else .idle, toFence := false, aborted := none }
    let s1 := if x.toFence then s0.pkeEnterFence q else s0
    match x.aborted with
    | none => s1
    | some c =>
      let w0 := (c.w.headD 0).toNat
      let s2 := (s1.setSticky .pke k 4).unitCount .pke k 0xB0 3
      if c.req.sched then s2 else s2.putWord (pkeRegion q 0x3F00) (statusWord 2 (w0 % 256) (w0 / 2 ^ 18 % 64))

/-- A lockstep mismatch or an uncorrectable error of a pair (R185, R186, R188): the owner course of a scheduled command is
signalled, the pair aborts and is fenced. -/
def fPkeFault (q : Nat) (f : UnitFault) (s : State) : State :=
  let k := q / 12
  let s1 := s.pkeTell q (if f = UnitFault.mismatch then 14 else 12)
  let s2 := (s1.setSticky .pke k (if f = UnitFault.mismatch then 2 else 1)).setFence .pke k 0x4C (q % 12) true
  (s2.pkeAbortNow q true).pkeEnterFence q

/-- A write of OWNED (R164, R187): after the results of the stroke (R183), a change aborts a running command, whose owner course
is told; clearing the bit wipes the
pair. The spare of a substituted pair follows it (R355). -/
def fPkeOwned (k : Nat) (v : Word) (s0 : State) : State :=
  let s := s0.pkeFinish k
  let old := s.reg .pke k 0x48
  let new := v &&& 0xFFF
  let sub := s.reg .pke k 0xBC
  let new := if bit sub 4 then putBit new 11 (bit new (fld sub 0 4)) else new
  let s1 := s.setReg .pke k 0x48 new
  (List.range 12).foldl (fun s j =>
    let q := 12 * k + j
    let x := s.pkeU q
    if bit old j = bit new j then s
    else if s.pkeAlive q then (s.pkeTell q 12).pkeAbortNow q false
    else if bit new j then s
    else if x.st = .idle then s.pkeAbortNow q false
    else s.wipeOperand q) s1

/-- SELFTEST.START (R189). -/
def fPkeSelftest (k : Nat) (v : Word) (s : State) : State :=
  let j := fld v 0 4
  let q := 12 * k + j
  let s1 := if j < 12 then s.updReg .pke k 0x54 fun w => putFld w 0 4 j else s.reject .pke k 0x54 v
  if 12 ≤ j ∨ !bit v 4 then s1
  else
    let x := s1.pkeU q
    if x.st = .fenced ∨ (x.st = .idle ∧ !s1.pkeOwned q) then
      s1.setPke q { x with st := .test, due := s.stroke + 4200000, before := decide (x.st = .fenced) }
    else s1.reject .pke k 0x54 v

/-- A self-test ends (R189): the pair is wiped, PASS or FAIL sets, and it returns to the state it held. -/
def fPkeSelftestDone (k : Nat) (ok : Bool) (s : State) : State :=
  match (clusterPairs k).find? fun q => decide ((s.pkeU q).st = .test) && decide ((s.pkeU q).due ≤ s.stroke) with
  | none => s
  | some q =>
    let s1 := (s.updPke q fun x =>
      { x with st := if !(s.clu k).ucValid then .noUc else if x.before then .fenced else .idle, passed := ok, failed := !ok
               testAt := if ok then some s.stroke else x.testAt }).wipeOperand q
    if ok then s1 else s1.setSticky .pke k 5

/-- FREE_ACK (R195). -/
def fPkeFreeAck (k : Nat) (v : Word) (s : State) : State :=
  (List.range 12).foldl (fun s j => if bit v j then s.updPke (12 * k + j) fun x => { x with result := false } else s) s

/-- UC_CTL.BEGIN (R192). -/
def fUcBegin (k : Nat) (v : Word) (s : State) : State :=
  if (clusterPairs k).any (fun q => s.pkeOwned q || (match (s.pkeU q).st with | .sched | .free | .wipe | .test => true | _ => false))
  then s.reject .pke k 0x5C v
  else
    (clusterPairs k).foldl (fun s q => s.updPke q fun x => { x with st := .noUc })
      (s.updClu k fun c => { c with ucValid := false, loading := true })

/-- The microcode floor of OTP counter 2 (R192, R396). -/
def State.ucFloor (s : State) : Nat := Sparse.get 0 s.lcs.counter 2

/-- UC_CTL.FINISH (R192). -/
def fUcFinish (k : Nat) (v : Word) (s : State) : State :=
  let ver := fld v 8 8
  if !(s.clu k).loading ∨ ver < s.ucFloor then s.reject .pke k 0x5C v
  else
    (clusterPairs k).foldl (fun s q => s.updPke q fun x => { x with st := if s.pkeFence q then .fenced else .idle })
      ((s.updClu k fun c => { c with ucValid := true, loading := false }).setReg .pke k 0x68 (w32 (ver % 128)))

/-- A write of UC_CTL: BEGIN, then FINISH. -/
def fUcCtl (k : Nat) (v : Word) (s : State) : State :=
  let s := if bit v 0 then fUcBegin k v s else s
  if bit v 1 then fUcFinish k v s else s

/-- UC_DATA (R191, R192): the word of UC_ADDR in both banks, and the next address. -/
def fUcData (k : Nat) (v : Word) (s : State) : State :=
  let a := fld (s.reg .pke k 0x60) 0 12
  (s.updClu k fun c => { c with uc := Sparse.set 0 c.uc a v, bad0 := c.bad0.filter (· ≠ a), bad1 := c.bad1.filter (· ≠ a) }).setReg
    .pke k 0x60 (w32 ((a + 1) % 4096))

/-- DRBG_SEED_i (R178). -/
def fDrbgSeed (k i : Nat) (v : Word) (s : State) : State :=
  s.updClu k fun c => { c with seedSet := (i, v) :: c.seedSet.filter (·.1 ≠ i) }

/-- DRBG_CTL.RESEED (R178, R179): needs every seed register written since the last one; the 48 bytes update the generator, after the
draws of the same stroke. -/
def fDrbgReseed (k : Nat) (v : Word) (s : State) : State :=
  if !bit v 0 then s
  else if (List.range 12).all fun i => (s.clu k).seedSet.any fun e => decide (e.1 = i) then
    (s.dealNow k fun c => { c with reseed := some ((List.range 12).flatMap fun i => leBytes 4 (Sparse.get 0 c.seedSet i).toNat) }).updClu k
      fun c => { c with seedSet := [] }
  else s.reject .pke k 0x6C v

/-- A staging write (R171): any pair state. -/
def State.pkeStage (s : State) (q0 n : Nat) (v : Word) : State :=
  s.updPke (s.pkeRoute q0) fun x => { x with stage := Sparse.set 0 x.stage n v }

/-- A staging write by a requester: a word that is not INT, and a beat of the wrong kind for the OWNED bit, are refused as under R72
(R164, R171). -/
def fPkeStagingWrite (r : Requester) (q n : Nat) (v : TWord) (s : State) : State :=
  if v.tag = Tag.int ∧ r.fits (s.pkeOwned (s.pkeRoute q)) then s.pkeStage q n v.data
  else s.targetRefuse r.master 1 (0x50000000 + 2 * q * 2 ^ 16 + 0x8000 + 4 * n)

/-- PKE_STAGING_WRITE (R171). -/
def execPkeStagingWrite (q : Fin 48) (k : Fin 4) (v : PortWrite) (s : State) : Host.Outcome State Fault Refusal :=
  .next (fPkeStagingWrite v.src q.val (k.val + 1) v.word s)

/-- W0 with OP 0x01 (R165). -/
def execEcdsaP256Verify (r : Requester) (q : Fin 48) (w0 : Word) (s : State) : Host.Outcome State Fault Refusal :=
  .next (pkeRow 0x01 r q w0 s)

/-- W0 with OP 0x02 (R165). -/
def execEcdsaP256Sign (r : Requester) (q : Fin 48) (w0 : Word) (s : State) : Host.Outcome State Fault Refusal :=
  .next (pkeRow 0x02 r q w0 s)

/-- W0 with OP 0x03 (R165). -/
def execEcdhP256 (r : Requester) (q : Fin 48) (w0 : Word) (s : State) : Host.Outcome State Fault Refusal :=
  .next (pkeRow 0x03 r q w0 s)

/-- W0 with OP 0x04 (R165). -/
def execEcdsaP384Verify (r : Requester) (q : Fin 48) (w0 : Word) (s : State) : Host.Outcome State Fault Refusal :=
  .next (pkeRow 0x04 r q w0 s)

/-- W0 with OP 0x05 (R165). -/
def execEcdsaP384Sign (r : Requester) (q : Fin 48) (w0 : Word) (s : State) : Host.Outcome State Fault Refusal :=
  .next (pkeRow 0x05 r q w0 s)

/-- W0 with OP 0x06 (R165). -/
def execEcdhP384 (r : Requester) (q : Fin 48) (w0 : Word) (s : State) : Host.Outcome State Fault Refusal :=
  .next (pkeRow 0x06 r q w0 s)

/-- W0 with OP 0x08 (R165). -/
def execEd25519Verify (r : Requester) (q : Fin 48) (w0 : Word) (s : State) : Host.Outcome State Fault Refusal :=
  .next (pkeRow 0x08 r q w0 s)

/-- W0 with OP 0x09 (R165). -/
def execEd25519Sign (r : Requester) (q : Fin 48) (w0 : Word) (s : State) : Host.Outcome State Fault Refusal :=
  .next (pkeRow 0x09 r q w0 s)

/-- W0 with OP 0x0A (R165). -/
def execX25519 (r : Requester) (q : Fin 48) (w0 : Word) (s : State) : Host.Outcome State Fault Refusal :=
  .next (pkeRow 0x0A r q w0 s)

/-- W0 with OP 0x10 (R165). -/
def execRsa2048Verify (r : Requester) (q : Fin 48) (w0 : Word) (s : State) : Host.Outcome State Fault Refusal :=
  .next (pkeRow 0x10 r q w0 s)

/-- W0 with OP 0x11 (R165). -/
def execRsa3072Verify (r : Requester) (q : Fin 48) (w0 : Word) (s : State) : Host.Outcome State Fault Refusal :=
  .next (pkeRow 0x11 r q w0 s)

/-- W0 with OP 0x12 (R165). -/
def execRsa4096Verify (r : Requester) (q : Fin 48) (w0 : Word) (s : State) : Host.Outcome State Fault Refusal :=
  .next (pkeRow 0x12 r q w0 s)

/-- W0 with OP 0x14 (R165). -/
def execRsa2048CrtSign (r : Requester) (q : Fin 48) (w0 : Word) (s : State) : Host.Outcome State Fault Refusal :=
  .next (pkeRow 0x14 r q w0 s)

/-- W0 with OP 0x15 (R165). -/
def execRsa3072CrtSign (r : Requester) (q : Fin 48) (w0 : Word) (s : State) : Host.Outcome State Fault Refusal :=
  .next (pkeRow 0x15 r q w0 s)

/-- W0 with OP 0x16 (R165). -/
def execRsa4096CrtSign (r : Requester) (q : Fin 48) (w0 : Word) (s : State) : Host.Outcome State Fault Refusal :=
  .next (pkeRow 0x16 r q w0 s)

/-- W0 with OP 0x20 (R165). -/
def execMlDsa65Verify (r : Requester) (q : Fin 48) (w0 : Word) (s : State) : Host.Outcome State Fault Refusal :=
  .next (pkeRow 0x20 r q w0 s)

/-- W0 with OP 0x21 (R165). -/
def execMlDsa65Sign (r : Requester) (q : Fin 48) (w0 : Word) (s : State) : Host.Outcome State Fault Refusal :=
  .next (pkeRow 0x21 r q w0 s)

/-- W0 with OP 0x22 (R165). -/
def execMlDsa87Verify (r : Requester) (q : Fin 48) (w0 : Word) (s : State) : Host.Outcome State Fault Refusal :=
  .next (pkeRow 0x22 r q w0 s)

/-- W0 with OP 0x23 (R165). -/
def execMlDsa87Sign (r : Requester) (q : Fin 48) (w0 : Word) (s : State) : Host.Outcome State Fault Refusal :=
  .next (pkeRow 0x23 r q w0 s)

/-- W0 with OP 0x28 (R165). -/
def execMlKem768Encapsulate (r : Requester) (q : Fin 48) (w0 : Word) (s : State) : Host.Outcome State Fault Refusal :=
  .next (pkeRow 0x28 r q w0 s)

/-- W0 with OP 0x29 (R165). -/
def execMlKem768Decapsulate (r : Requester) (q : Fin 48) (w0 : Word) (s : State) : Host.Outcome State Fault Refusal :=
  .next (pkeRow 0x29 r q w0 s)

/-- W0 with OP 0x2A (R165). -/
def execMlKem1024Encapsulate (r : Requester) (q : Fin 48) (w0 : Word) (s : State) : Host.Outcome State Fault Refusal :=
  .next (pkeRow 0x2A r q w0 s)

/-- W0 with OP 0x2B (R165). -/
def execMlKem1024Decapsulate (r : Requester) (q : Fin 48) (w0 : Word) (s : State) : Host.Outcome State Fault Refusal :=
  .next (pkeRow 0x2B r q w0 s)

/-- PkeOperationDone. -/
def execPkeOperationDone (q : Fin 48) (s : State) : Host.Outcome State Fault Refusal :=
  .next (fPkeDone q.val s)

/-- PkeAbort. -/
def execPkeAbort (m : Master) (k : Fin 4) (v : Word) (s : State) : Host.Outcome State Fault Refusal :=
  .next (s.gated m .pke k.val 0x50 (fPkeAbort k.val v))

/-- PkeWipeDone. -/
def execPkeWipeDone (q : Fin 48) (s : State) : Host.Outcome State Fault Refusal :=
  .next (fPkeWipeDone q.val s)

/-- PkePairFault. -/
def execPkePairFault (q : Fin 48) (f : UnitFault) (s : State) : Host.Outcome State Fault Refusal :=
  .next (fPkeFault q.val f s)

/-- PkeOwnedWrite. -/
def execPkeOwnedWrite (m : Master) (k : Fin 4) (v : Word) (s : State) : Host.Outcome State Fault Refusal :=
  .next (s.gated m .pke k.val 0x48 (fPkeOwned k.val v))

/-- PkeSelftestStart. -/
def execPkeSelftestStart (m : Master) (k : Fin 4) (v : Word) (s : State) : Host.Outcome State Fault Refusal :=
  .next (s.gated m .pke k.val 0x54 (fPkeSelftest k.val v))

/-- PkeSelftestDone. -/
def execPkeSelftestDone (k : Fin 4) (ok : Bool) (s : State) : Host.Outcome State Fault Refusal :=
  .next (fPkeSelftestDone k.val ok s)

/-- PkeFreeAck. -/
def execPkeFreeAck (m : Master) (k : Fin 4) (v : Word) (s : State) : Host.Outcome State Fault Refusal :=
  .next (s.gated m .pke k.val 0x58 (fPkeFreeAck k.val v))

/-- UcBegin. -/
def execUcBegin (m : Master) (k : Fin 4) (v : Word) (s : State) : Host.Outcome State Fault Refusal :=
  .next (s.gated m .pke k.val 0x5C fun s => s.ksOnly m .pke k.val 0x5C v (fUcCtl k.val v))

/-- UcDataWrite. -/
def execUcDataWrite (m : Master) (k : Fin 4) (v : Word) (s : State) : Host.Outcome State Fault Refusal :=
  .next (s.gated m .pke k.val 0x64 fun s => s.ksOnly m .pke k.val 0x64 v (fUcData k.val v))

/-- UcFinish. -/
def execUcFinish (m : Master) (k : Fin 4) (v : Word) (s : State) : Host.Outcome State Fault Refusal :=
  .next (s.gated m .pke k.val 0x5C fun s => s.ksOnly m .pke k.val 0x5C v (fUcCtl k.val v))

/-- DrbgReseed. -/
def execDrbgReseed (m : Master) (k : Fin 4) (v : Word) (s : State) : Host.Outcome State Fault Refusal :=
  .next (s.gated m .pke k.val 0x6C fun s => s.ksOnly m .pke k.val 0x6C v (fDrbgReseed k.val v))

end Sys2Proof.Machine
end

