-- ==== Sys2Proof/Machine/Plan.lean ====
section
/-! DEFINITION. Heat plan files (R117-R122, R243-R246): the fields of a file, the ranges and the form that the audit of one plan checks,
the plan authority's signatures, and the POLICY section. -/

namespace Sys2Proof.Machine

/-! ### Sections (R118) -/

/-- A directory entry. -/
structure Sect where
  typ : Nat
  off : Nat
  len : Nat
  deriving DecidableEq, Repr

/-- The section directory, at offset 0x40. -/
def planSects (f : List Byte) : List Sect :=
  (List.range (natAt f 0x1B 1)).map fun i => ⟨natAt f (0x40 + 16 * i) 2, natAt f (0x44 + 16 * i) 4, natAt f (0x48 + 16 * i) 4⟩
/-- The bytes of the section of a type; none where the file has no such section. -/
def planSect (f : List Byte) (t : Nat) : List Byte :=
  match (planSects f).find? fun x => decide (x.typ = t) with
  | some x => slice f x.off x.len
  | none => []
/-- The DATA section cut into segments: address and bytes. -/
def dataSegs : Nat → List Byte → List (Nat × List Byte)
  | 0, _ => []
  | n + 1, b => if b.length < 8 then [] else (natAt b 0 4, slice b 8 (natAt b 4 4)) :: dataSegs n (b.drop (8 + natAt b 4 4))
/-- Occupancy record i of a section (R119). -/
def occAt (b : List Byte) (i : Nat) : Occ :=
  { res := natAt b (16 * i) 1, role := natAt b (16 * i + 1) 1, dest := natAt b (16 * i + 2) 1, start := natAt b (16 * i + 4) 4
    length := natAt b (16 * i + 8) 4, beats := natAt b (16 * i + 12) 4 }
/-- Binding i of a section: its five unit bytes (R120). -/
def bindAt (b : List Byte) (i : Nat) : List Nat := (slice b (8 * i) 5).map (·.toNat)
/-- The records of the SIGNATURE section: ALG, key index and signature (R121). -/
def sigRecs : Nat → List Byte → List (Nat × Nat × List Byte)
  | 0, _ => []
  | n + 1, b => if b.length < 8 then [] else (natAt b 0 2, natAt b 2 2, slice b 8 (natAt b 4 4)) :: sigRecs n (b.drop (8 + natAt b 4 4))
/-- Bytes that a list of records with 8-byte heads takes. -/
def recsLen {α : Type} (l : List (α × List Byte)) : Nat := (l.map fun e => 8 + e.2.length).foldl (· + ·) 0

/-- The plan that a file holds (R117-R120). -/
def planParse (f : List Byte) (g : Program) : PlanFile :=
  let code := planSect f 1
  let sh := planSect f 3
  { cls := natAt f 0x08 2, version := natAt f 0x10 4, telemetry := decide (natAt f 0x06 2 % 2 = 1), long := decide (natAt f 0x06 2 / 2 % 2 = 1)
    total := natAt f 0x0C 4, maxEnv := natAt f 0x14 2, maxSigned := natAt f 0x16 2, qdepth := natAt f 0x18 1, sigs := natAt f 0x19 1
    keyfoot := natAt f 0x1C 2, codeAt := natAt code 0 4, entry := natAt code 4 4, stackTop := natAt code 8 4, slim := natAt code 12 4
    image := toWords (code.drop 16), data := dataSegs f.length (planSect f 2)
    occ := (List.range ((planSect f 4).length / 16)).map (occAt (planSect f 4))
    bindings := (List.range (natAt f 0x1A 1)).map (bindAt (planSect f 5)), rerun := bindAt (planSect f 6) 0
    queueOff := natAt sh 0 4, queueSize := natAt sh 4 4, regionOff := natAt sh 8 4, regionSize := natAt sh 12 4
    policy := planSect f 7, prog := g, size := f.length, digest := sha384 f }

/-- Bytes of a signature of an algorithm, 0 for a code that is none (R257). -/
def algSlen (alg : Nat) : Nat :=
  match alg with
  | 0x01 => 64 | 0x04 => 96 | 0x08 => 64 | 0x10 => 256 | 0x11 => 384 | 0x12 => 512 | 0x20 => 3309 | 0x22 => 4627 | 0xF0 => 28 | _ => 0
/-- Bytes of the class's signature blocks (R117, R259). -/
def PlanFile.sigBytes (p : PlanFile) : Nat := (p.prog.algs.map fun a => 8 + pad4 (algSlen a)).foldl (· + ·) 0

/-! ### Rule 2: header and sections (R117-R120, R310) -/

/-- Header ranges (R117). -/
def planHeadOk (f : List Byte) (p : PlanFile) : Bool :=
  decide (0x40 ≤ f.length) && decide (natAt f 0 4 = 0x39504847) && decide (natAt f 4 2 = 1) && decide (natAt f 6 2 < 4) &&
    decide (1 ≤ p.cls) && decide (p.cls ≤ 1023) && decide (natAt f 0x0A 2 = 0x0901) &&
    (if p.long then decide (120001 ≤ p.total) && decide (p.total ≤ 3600000) else decide (p.total ≤ 120000)) &&
    decide (64 ≤ p.maxEnv) && decide (p.maxEnv ≤ 16384) && decide (p.maxSigned % 4 = 0) && decide (36 ≤ p.maxSigned) &&
    decide (p.maxSigned + p.sigBytes ≤ p.maxEnv) && decide (1 ≤ p.qdepth) && decide (p.qdepth ≤ 64) &&
    (decide (p.sigs = 1) || decide (p.sigs = 2)) && decide (1 ≤ natAt f 0x1A 1) && decide (natAt f 0x1A 1 ≤ 16) &&
    decide (p.keyfoot ≤ 2048) && zeroAt f 0x1E 2
/-- The directory: known types, each as often as R118 allows, within the file, apart, SIGNATURE last in both. -/
def planDirOk (f : List Byte) : Bool :=
  let l := planSects f
  let n := 0x40 + 16 * l.length
  let count (t : Nat) : Nat := (l.filter fun x => decide (x.typ = t)).length
  (List.range l.length).all (fun i => zeroAt f (0x42 + 16 * i) 2 && zeroAt f (0x4C + 16 * i) 4) &&
    l.all (fun x => (decide (1 ≤ x.typ) && decide (x.typ ≤ 8) || decide (x.typ = 0x7F)) && decide (n ≤ x.off) &&
      decide (x.off + x.len ≤ f.length)) &&
    ([1, 5, 6, 0x7F].all fun t => decide (count t = 1)) && ([2, 3, 4, 7, 8].all fun t => decide (count t ≤ 1)) &&
    (l.zipIdx.all fun a => l.zipIdx.all fun b => decide (a.2 = b.2) || decide (a.1.off + a.1.len ≤ b.1.off) ||
      decide (b.1.off + b.1.len ≤ a.1.off)) &&
    (match l.getLast? with
      | some x => decide (x.typ = 0x7F) && decide (x.off + x.len = f.length)
      | none => false)
/-- A range of local addresses that a plan may give its data: general data scratch, or its own plan region; never the journal ring
(R118, R310). -/
def PlanFile.dataOk (p : PlanFile) (a n : Nat) : Bool :=
  (decide (0x10000 ≤ a) && decide (a + n ≤ 0x1E000)) || (decide (p.regionOff ≤ a) && decide (a + n ≤ p.regionOff + p.regionSize))
/-- A range of shared memory above 0x0002_4000 outside the journal ring; an empty one is no range (R118, R310). -/
def sharedOk (a n : Nat) : Bool := decide (n = 0) || (decide (0x24000 ≤ a) && decide (a + n ≤ 0x90000))
/-- An endpoint code of a mortar path. No code names SGRAM, a register page, flash or Keystone memory, so no path of a heat reaches
them (R114, R119). -/
def endpointOk (x : Nat) : Bool := [0, 0x10, 0x11, 0x20, 0x21, 0x30, 0x40, 0x41, 0x50].contains x
/-- An occupancy record is in form and its interval lies within [0, TOTAL) (R119). -/
def occOk (total : Nat) (b : List Byte) (i : Nat) : Bool :=
  let o := occAt b i
  decide (1 ≤ o.res) && decide (o.res ≤ 9) && zeroAt b (16 * i + 3) 1 && decide (o.start + o.length ≤ total) &&
    (if o.res = 2 then endpointOk o.role && endpointOk o.dest else decide (o.dest = 0) && decide (o.beats = 0)) &&
    (if o.res = 3 ∨ o.res = 4 then decide (o.role ≤ 1) else if o.res = 5 then decide (o.role = 0) else true) &&
    (decide (o.res ≠ 2) || decide (o.beats ≤ o.length))
/-- The engine pairs of a binding must be no spare pairs of R16, but in the RERUN binding (R120). -/
def bindOk (rerun : Bool) (b : List Nat) : Bool :=
  decide (b.length = 5) && (List.range 5).all fun i =>
    let u := b.getD i 0xFF
    decide (u = 0xFF) || (if i < 2 then decide (u < 48) && (rerun || decide (u % 12 ≠ 11)) else decide (u < 16))
/-- The sections of the file (R118-R121). -/
def planBodyOk (f : List Byte) (p : PlanFile) : Bool :=
  let code := planSect f 1
  decide (16 ≤ code.length) && decide (code.length % 4 = 0) && decide (p.codeAt % 4 = 0) && decide (p.codeAt + 4 * p.image.length ≤ 0x8000) &&
    decide (0x10000 ≤ p.slim) && decide (p.slim ≤ p.stackTop) && decide (p.stackTop ≤ 0x1E000) &&
    decide (recsLen p.data = (planSect f 2).length) && (p.data.all fun e => p.dataOk e.1 e.2.length) &&
    (decide ((planSect f 3).length = 0) || decide ((planSect f 3).length = 16)) && sharedOk p.queueOff p.queueSize &&
    sharedOk p.regionOff p.regionSize && decide (p.policy.length ≤ p.regionSize) &&
    decide ((planSect f 4).length % 16 = 0) && (List.range p.occ.length).all (occOk p.total (planSect f 4)) &&
    decide ((planSect f 5).length = 8 * p.bindings.length) && (List.range p.bindings.length).all (fun i => zeroAt (planSect f 5) (8 * i + 5) 3) &&
    p.bindings.all (bindOk false) && decide ((planSect f 6).length = 8) && zeroAt (planSect f 6) 5 3 && bindOk true p.rerun &&
    decide ((planSect f 8).length % 8 = 0) &&
    (let r := sigRecs 3 (planSect f 0x7F)
     (decide (r.length = 1) || decide (r.length = 2)) && decide (recsLen (r.map fun e => (e.1, e.2.2)) = (planSect f 0x7F).length))

/-! ### Rule 1: the plan authority (R121, R395) -/

/-- The plan authority keys in force: those of the highest-numbered OTP slot that is programmed and not revoked, where flash still holds
key records (R395). -/
def State.authKeys (s : State) : List (Nat × List Byte) :=
  let recs := s.flc.bytes.filter fun e => decide (0x208000 ≤ e.1) && decide (e.1 < 0x280000)
  if recs.isEmpty then []
  else match (s.lcs.authority.filter fun e => !s.lcs.revoked.contains e.1).getLast? with
    | some (_, d) => Config.authorityKeys recs d
    | none => []
/-- A signature over a digest by an authority key: P-384 or ML-DSA-87 (R121). -/
def authVerify (alg : Nat) (key digest sig : List Byte) : Bool :=
  if alg = 0x04 then (pkOp 0x04 0 [] key digest sig []).isSome
  else if alg = 0x22 then (pkOp 0x22 0 [] key (shake256 64 (shake256 64 key ++ [0, 0] ++ digest)) sig []).isSome
  else false
/-- Every authority key in force has a valid record in the file, and there is one (R121). -/
def State.planSigned (s : State) (f : List Byte) : Bool :=
  let off := match (planSects f).getLast? with | some x => x.off | none => 0
  let keys := s.authKeys
  !keys.isEmpty && keys.all fun k => (sigRecs 3 (planSect f 0x7F)).any fun r =>
    decide (r.1 = k.1) && authVerify k.1 k.2 (sha384 (f.take off)) r.2.2
/-- The anti-rollback floor of a class: the highest VERSION admitted (R117, R393; log entry 95). -/
def State.planFloorOf (s : State) (cls : Nat) : Nat := Sparse.get 0 s.planFloor cls

/-! ### Rule 3: the image (R66, R122) -/

/-- A word of an image is a legal instruction permitted in scheduled mode. -/
def imageWordOk (w : Word) : Bool :=
  match gtisDecode (.tile 0 0) w with
  | .illegalInstruction _ _ | .tag _ _ _ _ | .mkey _ _ _ | .fence _ => false
  | .mts _ _ n => mtsLegal { sched := true } n.val
  | _ => true

/-! ### Steps of a heat (R119) -/

/-- The occupancy records of a resource, by their START. -/
def PlanFile.occOf (p : PlanFile) (res : Nat) : List Occ :=
  (p.occ.filter fun o => decide (o.res = res)).foldl (fun a x => (a.filter fun y => decide (y.start ≤ x.start)) ++ x ::
    a.filter fun y => decide (x.start < y.start)) []
/-- START of record i of a resource falls on stroke t of the heat. -/
def PlanFile.starts (p : PlanFile) (res t : Nat) : Option Nat := ((p.occOf res).zipIdx.find? fun o => decide (o.1.start = t)).map (·.2)
/-- The verdict stroke from launch: the first stroke of the journal step (R46). -/
def PlanFile.verdictAt (p : PlanFile) : Nat := match (p.occOf 9).head? with | some o => o.start | none => p.total
/-- The last stroke of the journal step, at which the record is complete (R48, R51). -/
def PlanFile.recordAt (p : PlanFile) : Nat := match (p.occOf 9).head? with | some o => o.start + o.length - 1 | none => p.total

/-! ### The POLICY section (R243-R246) -/

/-- Header fields of a section (R244). -/
def polNClass (b : List Byte) : Nat := natAt b 0x04 2
def polNAllow (b : List Byte) : Nat := natAt b 0x06 2
def polNIl (b : List Byte) : Nat := natAt b 0x08 2
def polMaxIl (b : List Byte) : Nat := natAt b 0x0A 1
def polMaxItem (b : List Byte) : Nat := natAt b 0x0B 1
def polMaxAllow (b : List Byte) : Nat := natAt b 0x0C 1
def polVersion (b : List Byte) : Nat := natAt b 0x14 4
/-- LOCAL_OFFSET as a signed number of seconds. -/
def polOffset (b : List Byte) : Int := (BitVec.ofNat 32 (natAt b 0x10 4)).toInt
/-- Offsets of class entry i, allow entry i and interlock entry i: the arrays are packed without gaps (R244-R246). -/
def polClassAt (i : Nat) : Nat := 0x20 + 64 * i
def polAllowAt (b : List Byte) (i : Nat) : Nat := 0x20 + 64 * polNClass b + 32 * i
def polIlAt (b : List Byte) (i : Nat) : Nat := 0x20 + 64 * polNClass b + 32 * polNAllow b + 8 * i
/-- Fields of a partner class entry at an offset (R245). -/
def pcAllowFirst (b : List Byte) (o : Nat) : Nat := natAt b o 2
def pcAllowCount (b : List Byte) (o : Nat) : Nat := natAt b (o + 2) 2
def pcIlFirst (b : List Byte) (o : Nat) : Nat := natAt b (o + 4) 2
def pcIlCount (b : List Byte) (o : Nat) : Nat := natAt b (o + 6) 1
def pcTwCount (b : List Byte) (o : Nat) : Nat := natAt b (o + 7) 1

/-- Header ranges (R244). -/
def polHeadOk (b : List Byte) : Bool :=
  decide (natAt b 0 4 = 0x504C4359) && decide (1 ≤ polNClass b) && decide (polNClass b ≤ 256) && decide (polNAllow b ≤ 4096) &&
    decide (polNIl b ≤ 1024) && decide (polMaxIl b ≤ 4) && decide (1 ≤ polMaxItem b) && decide (polMaxItem b ≤ 8) &&
    decide (1 ≤ polMaxAllow b) && decide (polMaxAllow b ≤ 64) && zeroAt b 0x0D 3 && zeroAt b 0x18 8 &&
    decide (b.length = polIlAt b (polNIl b))
/-- A time window word is in form (R252). -/
def twOk (w : Nat) : Bool :=
  decide (w / 2 ^ 7 % 2 = 0) && decide (w / 2 ^ 8 % 2 ^ 11 ≤ 1439) && decide (1 ≤ w / 2 ^ 19 % 2 ^ 11) && decide (w / 2 ^ 19 % 2 ^ 11 ≤ 1440) &&
    decide (w / 2 ^ 30 = 0) && decide (w / 2 ^ 8 % 2 ^ 11 ≠ w / 2 ^ 19 % 2 ^ 11)
/-- Partner class entry i (R245, R252). -/
def polClassOk (b : List Byte) (i : Nat) : Bool :=
  let o := polClassAt i
  decide (pcAllowCount b o ≤ polMaxAllow b) && decide (pcAllowFirst b o + pcAllowCount b o ≤ polNAllow b) &&
    decide (pcIlCount b o ≤ polMaxIl b) && decide (pcIlFirst b o + pcIlCount b o ≤ polNIl b) && decide (pcTwCount b o ≤ 4) &&
    (List.range (pcTwCount b o)).all (fun k => twOk (natAt b (o + 0x18 + 4 * k) 4)) && zeroAt b (o + 0x28) 24
/-- Allow entry j: its own form, and for each partner class whose range holds it no IL_MASK bit at or above that class's IL_COUNT
(R246). -/
def polAllowOk (b : List Byte) (j : Nat) : Bool :=
  let o := polAllowAt b j
  decide (natAt b (o + 1) 1 < 32) && decide (natAt b (o + 6) 1 ≤ 2) && zeroAt b (o + 0x18) 8 &&
    (List.range (polNClass b)).all fun i =>
      let c := polClassAt i
      !(decide (pcAllowFirst b c ≤ j) && decide (j < pcAllowFirst b c + pcAllowCount b c)) || decide (natAt b (o + 7) 1 < 2 ^ pcIlCount b c)
/-- Interlock entry j (R246). -/
def polIlOk (b : List Byte) (j : Nat) : Bool :=
  let o := polIlAt b j
  decide (natAt b o 2 < 4096) && decide (natAt b (o + 2) 1 ≤ 31) && decide (natAt b (o + 3) 1 ≤ 1) && zeroAt b (o + 4) 4
/-- The section keeps R244 to R246. -/
def polSectionOk (b : List Byte) : Bool :=
  polHeadOk b && (List.range (polNClass b)).all (polClassOk b) && (List.range (polNAllow b)).all (polAllowOk b) &&
    (List.range (polNIl b)).all (polIlOk b)
/-- An allow entry has TWO_SIG set. -/
def polTwoSig (b : List Byte) : Bool := (List.range (polNAllow b)).any fun j => decide (natAt b (polAllowAt b j + 1) 1 % 2 = 1)
/-- The refusals of R243. -/
def PlanFile.policyOk (p : PlanFile) : Bool :=
  !p.prog.storesPolicy && (p.policy.isEmpty || (polSectionOk p.policy && !(decide (p.sigs = 1) && polTwoSig p.policy)))

/-! ### The audit of one plan (R122) -/

/-- Rule 5 as far as the records show it: the journal step of a heat has one record (log entry 96). -/
def PlanFile.stepsOk (p : PlanFile) : Bool := decide ((p.occ.filter fun o => decide (o.res = 9)).length = 1)
/-- The failing rule of R122, 0 for none. A refusal of R243 counts under rule 2 (log entry 96). -/
def State.planAudit (s : State) (f : List Byte) (g : Program) : Nat :=
  let p := planParse f g
  if !s.planSigned f || decide (p.version < s.planFloorOf p.cls) then 1
  else if !planHeadOk f p || !planDirOk f || !planBodyOk f p || !p.policyOk then 2
  else if !p.image.all imageWordOk then 3
  else if g.failing ≠ 0 then g.failing
  else if !p.stepsOk then 5
  else 0

end Sys2Proof.Machine
end

