-- ==== Sys2Proof/Machine/HashCipher.lean ====
section
/-! DEFINITION. The hash and cipher units (R196-R217): keys and HANDLEs, commands and their end, aborts, faults with substitution,
self-test, end notices, and the HSH and CIP pages' own rows. `cipher` tells the two kinds apart. -/

namespace Sys2Proof.Machine

/-- The page of a kind. -/
def hcPage (cipher : Bool) : Block := if cipher then .cip else .hsh
/-- Pair k of a kind. -/
def State.hc (s : State) (cipher : Bool) (k : Nat) : HcPair := Sparse.get {} (if cipher then s.cip else s.hsh) k
/-- Write of a pair. -/
def State.setHc (s : State) (cipher : Bool) (k : Nat) (x : HcPair) : State :=
  if cipher then { s with cip := Sparse.set {} s.cip k x } else { s with hsh := Sparse.set {} s.hsh k x }
/-- Update of a pair. -/
def State.updHc (s : State) (cipher : Bool) (k : Nat) (f : HcPair → HcPair) : State := s.setHc cipher k (f (s.hc cipher k))
/-- OWNED and committed FENCE of a pair (R199, R214). -/
def State.hcOwned (s : State) (cipher : Bool) (k : Nat) : Bool := s.regBit (hcPage cipher) 0 0x48 k
def State.hcFence (s : State) (cipher : Bool) (k : Nat) : Bool := s.regBit (hcPage cipher) 0 0x4C k
/-- Cover pair of a pair (R365). -/
def State.coverOf (s : State) (cipher : Bool) (k : Nat) : Nat := fld (s.reg (hcPage cipher) 0 (0x68 + 4 * (k / 8))) (4 * (k % 8)) 4
/-- The pair that a beat addressed to k reaches (R355). -/
def State.hcRoute (s : State) (cipher : Bool) (k : Nat) : Nat :=
  let v := s.reg (hcPage cipher) 0 0x70
  if bit v 4 && decide (fld v 0 4 = k) then s.coverOf cipher k else k

/-- A context of the partner cache. -/
def State.ctx (s : State) (p : Nat) : Ctx := Sparse.get {} s.ptn.ctx p
/-- A byte of a context's configuration area. -/
def Ctx.cfgByte (c : Ctx) (off : Nat) : Byte := Sparse.get 0 c.cfg off
/-- A little-endian field of the configuration area. -/
def Ctx.cfgNat (c : Ctx) (off n : Nat) : Nat := leNat ((List.range n).map fun i => c.cfgByte (off + i))
/-- Configuration version; 0 for a context that is not installed (R219). -/
def Ctx.version (c : Ctx) : Nat := c.cfgNat 0x2C0 4

/-- HANDLE_RESOLVE (R200): the session key a HANDLE names, `none` where it resolves to no key: the words of a withdrawn context are
uncorrectable, and the key bus reports that (log entry 94). -/
def State.handleKey (s : State) (h : Word) : Option (List Byte) :=
  let c := s.ctx (fld h 16 12)
  let i := fld h 8 8
  if fld h 28 4 = 1 ∧ i < 8 ∧ c.enabled ∧ c.version ≠ 0 ∧ !c.withdrawn ∧ c.cfgNat (0x400 + 48 * i) 1 = fld h 0 8 ∧
      c.cfgNat (0x401 + 48 * i) 1 ≠ 0 then
    some (Sparse.get [] c.keys i)
  else none

/-- NONE into KEYIN and 0 into HANDLE (R201). -/
def State.clearKeyIn (s : State) (cipher : Bool) (k : Nat) : State :=
  (s.wipe (unitBase cipher k) 0x40).updHc cipher k fun x => { x with handle := 0 }

/-- The key schedule, KEYIN, HANDLE and hash state wiped (R201, R202). -/
def State.hcForget (s : State) (cipher : Bool) (k : Nat) : State :=
  (s.clearKeyIn cipher k).updHc cipher k fun x => { x with key := none, hash := none }

/-! ### Hash commands (R203-R206) -/

/-- Digest bytes and the block or rate size of a hash OP. -/
def hashBlk (op : Nat) : Nat := match op with | 1 => 64 | 2 | 3 => 128 | 5 => 168 | _ => 136
/-- Output bytes: OUTLEN of SHAKE, 0 standing for 32 and 64. -/
def hashOut (op outlen : Nat) : Nat :=
  match op with
  | 1 => 32 | 2 => 48 | 3 => 64 | 4 => 32
  | 5 => if outlen = 0 then 32 else outlen
  | _ => if outlen = 0 then 64 else outlen
/-- The digest of a message. -/
def hashDigest (op outlen : Nat) (m : List Byte) : List Byte :=
  match op with
  | 1 => sha256 m
  | 2 => sha384 m
  | 3 => sha512 m
  | 4 => keccak 136 0x06 32 m
  | 5 => keccak 168 0x1F (hashOut 5 outlen) m
  | _ => keccak 136 0x1F (hashOut 6 outlen) m
/-- Blocks or permutations of a padded message of n bytes (R115). -/
def hashBlocks (op outlen n : Nat) : Nat :=
  match op with
  | 1 => sha2Blocks 64 n
  | 2 | 3 => sha2Blocks 128 n
  | _ => n / hashBlk op + 1 + ((hashOut op outlen + hashBlk op - 1) / hashBlk op - 1)
/-- Blocks that a command processes after `prev` bytes of the message have been taken by earlier ones (R206, R211). -/
def hashCost (op outlen prev n : Nat) (final : Bool) : Nat :=
  (if final then hashBlocks op outlen (prev + n) else (prev + n) / hashBlk op) - prev / hashBlk op
/-- Figure of a hash command (R115). -/
def hashF (op maxb : Nat) : Nat := 76 + (match op with | 1 => 64 | 2 | 3 => 80 | _ => 26) * maxb

/-- Fields of a hash command. -/
structure HashCmd where
  op     : Nat
  pfx    : Nat
  kwords : Nat
  kout   : Bool
  init   : Bool
  final  : Bool
  txn    : Nat
  inp    : Nat
  out    : Nat
  len    : Nat
  maxb   : Nat
  outlen : Nat
  kidx   : Nat
  slot   : Nat
  deriving DecidableEq, Repr

/-- The words as fields (R203). -/
def hashCmd (w : Nat → Nat) : HashCmd :=
  { op := w 0 % 256, pfx := w 0 / 2 ^ 8 % 4, kwords := w 0 / 2 ^ 10 % 16, kout := (w 0).testBit 14, init := (w 0).testBit 15,
    final := (w 0).testBit 16, txn := w 0 / 2 ^ 18 % 64, inp := w 1 % 2 ^ 19, out := w 2 % 2 ^ 19, len := w 3 % 2 ^ 15,
    maxb := w 4 % 2 ^ 12, outlen := w 4 / 2 ^ 16 % 2 ^ 11, kidx := w 5 % 2 ^ 11, slot := w 5 / 2 ^ 16 % 1024 }

/-- Codes in range, reserved and unused fields 0 (R203, R212 reason 0x4). -/
def hashFieldsOk (c : HashCmd) (w : Nat → Nat) : Bool :=
  decide (1 ≤ c.op) && decide (c.op ≤ 6) && decide ((w 0).testBit 17 = false) && decide (w 0 / 2 ^ 24 = 0) &&
    (decide (c.pfx = 1) || decide (c.kwords = 0)) && decide (w 1 < 2 ^ 19) && decide (w 2 < 2 ^ 19) && decide (w 3 ≤ 16384) &&
    decide (1 ≤ c.maxb) && decide (w 4 / 2 ^ 12 % 16 = 0) && decide (w 4 / 2 ^ 27 = 0) && decide (c.outlen ≤ 1024) &&
    (decide (5 ≤ c.op) || decide (c.outlen = 0)) && decide (w 5 / 2 ^ 11 % 32 = 0) && decide (w 5 / 2 ^ 26 = 0) &&
    (c.kout || decide (c.kidx = 0)) && (decide (c.pfx = 3) || decide (c.slot = 0))

/-- Operands in place (R211, R212 reason 0x5). -/
def hashAddrOk (c : HashCmd) (w : Nat → Nat) (sched : Bool) : Bool :=
  let out := if c.kout ∨ !c.final then 0 else hashOut c.op c.outlen
  if sched then schedAddrOk c.inp c.len && schedAddrOk c.out (4 + out)
  else decide (w 1 = 0) && decide (w 2 = 0) && decide (c.len ≤ 2048) && decide (out ≤ 1024)

/-! ### Cipher commands (R207-R210) -/

/-- Fields of a cipher command. -/
structure CipherCmd where
  op     : Nat
  ksrc   : Nat
  klen   : Bool
  tagl   : Nat
  txn    : Nat
  inp    : Nat
  out    : Nat
  alen   : Nat
  nlen   : Nat
  amax   : Nat
  nmax   : Nat
  deriving DecidableEq, Repr

/-- The words as fields (R207). -/
def cipherCmd (w : Nat → Nat) : CipherCmd :=
  { op := w 0 % 256, ksrc := w 0 / 2 ^ 8 % 4, klen := (w 0).testBit 10, tagl := w 0 / 2 ^ 12 % 4, txn := w 0 / 2 ^ 18 % 64,
    inp := w 1 % 2 ^ 19, out := w 2 % 2 ^ 19, alen := w 3 % 2 ^ 15, nlen := w 4 % 2 ^ 15, amax := w 5 % 2 ^ 12,
    nmax := w 5 / 2 ^ 16 % 2 ^ 12 }

/-- KEYSET or KEYCLR. -/
def CipherCmd.isKey (c : CipherCmd) : Bool := decide (c.op = 1) || decide (c.op = 2)
/-- An operation with a tag: GCM and GMAC. -/
def CipherCmd.hasTag (c : CipherCmd) : Bool := decide (0x11 ≤ c.op) && decide (c.op ≤ 0x14)
/-- Decrypt or verify. -/
def CipherCmd.checks (c : CipherCmd) : Bool := decide (c.op = 0x12) || decide (c.op = 0x14)
/-- Tag bytes. -/
def CipherCmd.tagBytes (c : CipherCmd) : Nat := match c.tagl with | 0 => 16 | 1 => 12 | _ => 8
/-- Bytes of the input block (R208). -/
def CipherCmd.inBytes (c : CipherCmd) : Nat :=
  if c.isKey then 0 else 16 + pad4 c.alen + pad4 c.nlen + (if c.checks then c.tagBytes else 0)
/-- Bytes of output text and tag after the status word (R208). -/
def CipherCmd.outBytes (c : CipherCmd) : Nat :=
  if c.isKey then 0 else pad4 c.nlen + (if c.hasTag && !c.checks then c.tagBytes else 0)
/-- Figure of a cipher command (R115). -/
def CipherCmd.f (c : CipherCmd) : Nat :=
  if c.isKey then 40 else if c.op = 0x10 then 52 + c.nmax else if c.op ≤ 0x12 then 64 + c.amax + c.nmax else 64 + c.amax

/-- Codes in range, reserved and unused fields 0 (R207, R212 reason 0x4). -/
def cipherFieldsOk (c : CipherCmd) (w : Nat → Nat) : Bool :=
  (c.isKey || (decide (0x10 ≤ c.op) && decide (c.op ≤ 0x14))) && decide ((w 0).testBit 11 = false) &&
    decide (w 0 / 2 ^ 14 % 16 = 0) && decide (w 0 / 2 ^ 24 = 0) &&
    (if c.op = 1 then decide (c.ksrc = 1) || (decide (c.ksrc = 2) && !c.klen) else decide (c.ksrc = 0) && !c.klen) &&
    (if c.hasTag then decide (c.tagl ≠ 3) else decide (c.tagl = 0)) && decide (w 1 < 2 ^ 19) && decide (w 2 < 2 ^ 19) &&
    decide (w 3 ≤ 16384) && decide (w 4 ≤ 16384) && decide (w 5 / 2 ^ 12 % 16 = 0) && decide (w 5 / 2 ^ 28 = 0) &&
    (!c.isKey || (decide (w 2 = 0) && decide (w 3 = 0) && decide (w 4 = 0) && decide (w 5 = 0))) &&
    (decide (c.op ≠ 0x10) || (decide (c.alen = 0) && decide (c.amax = 0))) &&
    (decide (c.op < 0x13) || (decide (c.nlen = 0) && decide (c.nmax = 0)))

/-- Operands in place (R207, R208, R211, R212 reason 0x5). -/
def cipherAddrOk (c : CipherCmd) (w : Nat → Nat) (sched : Bool) : Bool :=
  if sched then
    if c.isKey then schedAddrOk c.inp 4 else schedAddrOk c.inp c.inBytes && schedAddrOk c.out (4 + c.outBytes)
  else decide (w 1 = 0) && decide (w 2 = 0) && decide (c.inBytes ≤ 2048) && decide (c.outBytes ≤ 1024)

/-- Offset of the status word of a command of either kind. -/
def hcStatusOff (cipher : Bool) (w : Nat → Nat) : Nat :=
  if cipher && (cipherCmd w).isKey then w 1 else w 2

/-! ### Start, end and refusal -/

/-- Reason of refusal of W0 in the order of R181 (R212). -/
def State.hcReason (s : State) (cipher : Bool) (r : Requester) (k : Nat) (w : Nat → Nat) : Option Nat :=
  let x := s.hc cipher k
  let h := hashCmd w
  let c := cipherCmd w
  firstReason
    [(decide (x.st = .fenced) || decide (x.st = .test), 8), (!r.sched && s.hcOwned cipher k, 2),
     (r.sched && !s.hcOwned cipher k, 3), (decide (x.st ≠ .idle), 1),
     (!(if cipher then cipherFieldsOk c w else hashFieldsOk h w), 4),
     ((!r.sched && !r.master.isKs) || (!cipher && r.sched && !(h.init && h.final)), 10),
     (!(if cipher then cipherAddrOk c w r.sched else hashAddrOk h w r.sched), 5),
     (!cipher && h.kout && !hasPlaneHc r, 9)]
where
  /-- The requester has a key plane (R175). -/
  hasPlaneHc (r : Requester) : Bool := !(planesOf r).isEmpty

/-- Where the status word goes (R203, R207, R211). -/
def hcStatusAt (cipher : Bool) (r : Requester) (k off : Nat) : Option Nat :=
  if r.sched then (if schedAddrOk off 4 then some (sharedBase r.course.val + off) else none) else some (unitBase cipher k + 0x200)

/-- A pair's number among the units whose results a heat reads. -/
def hcUnit (cipher : Bool) (k : Nat) : Nat := (if cipher then 96 else 64) + k
/-- A refused W0 (R212): the status word 24 strokes later; for a heat it is a fault (R45). -/
def State.hcRefuse (s : State) (cipher : Bool) (r : Requester) (k : Nat) (w : Nat → Nat) (reason : Nat) : State :=
  let b := hcPage cipher
  let op := w 0 % 256
  let s := ((s.setSticky b 0 3).unitCount b 0 0x5C 2).setReg b 0 0x64 (w32 (k + op * 16 + reason * 2 ^ 12))
  (s.refuseLate (hcStatusAt cipher r k (hcStatusOff cipher w)) (statusWord 3 op (w 0 / 2 ^ 18 % 64))).expectUnit r (hcUnit cipher k)
    (s.stroke + 24)

/-- Key material that a command fetches at its start over the key bus or from the signer store; empty where there is none. -/
def State.hcFetchKey (s : State) (cipher : Bool) (k : Nat) (w : Nat → Nat) : List Byte :=
  if cipher then
    if (cipherCmd w).op = 1 ∧ (cipherCmd w).ksrc = 2 then (s.handleKey (s.hc cipher k).handle).getD [] else []
  else
    match (hashCmd w).pfx with
    | 2 => (s.handleKey (s.hc cipher k).handle).getD []
    | 3 => (s.slotTr (hashCmd w).slot).getD []
    | _ => []

/-- A command that starts with a HANDLE whose key the key bus cannot deliver sets STKY.KEYBUS (R200, R216). -/
def State.keyBus (s : State) (cipher : Bool) (k : Nat) (w : Nat → Nat) : State :=
  let uses := if cipher then decide ((cipherCmd w).op = 1) && decide ((cipherCmd w).ksrc = 2) else decide ((hashCmd w).pfx = 2)
  let h := (s.hc cipher k).handle
  if uses && decide (fld h 28 4 = 1) && decide (fld h 8 8 < 8) && (s.ctx (fld h 16 12)).withdrawn then s.setSticky (hcPage cipher) 0 6 else s
/-- W0 arrives at a hash or cipher pair (R203, R207, R211, R212). The figure of a scheduled command counts from its issue, 22 strokes
before. -/
def State.hcW0 (s : State) (cipher : Bool) (r : Requester) (k0 : Nat) (v : Word) : State :=
  let k := s.hcRoute cipher k0
  let st := (s.hc cipher k).stage
  let w (n : Nat) : Nat := if n = 0 then v.toNat else (Sparse.get 0 st n).toNat
  let s := s.updHc cipher k fun x => { x with stage := [] }
  match s.hcReason cipher r k w with
  | some reason => s.hcRefuse cipher r k w reason
  | none =>
    let n := if cipher then (cipherCmd w).inBytes else (hashCmd w).len
    let f := if cipher then (cipherCmd w).f else hashF (hashCmd w).op (hashCmd w).maxb
    let src := if r.sched then sharedBase r.course.val + w 1 else unitBase cipher k + 0x400
    let due := s.stroke + f - r.ahead
    ((s.keyBus cipher k w).updHc cipher k fun x =>
      { x with st := if r.sched then .sched else .free, due := due,
               cmd := some { w := (List.range 6).map fun i => w32 (w i), req := r, due := due,
                             rnd := s.hcFetchKey cipher k w, inp := s.words src (wordsFor n) } }).expectUnit r (hcUnit cipher k) due

/-- The command's row: a W0 whose OP is the row's. -/
def hcRow (cipher : Bool) (op : Nat) (r : Requester) (k : Fin 16) (w0 : Word) (s : State) : State :=
  if w0.toNat % 256 = op then s.hcW0 cipher r k.val w0 else s

/-- Every word is INT. -/
def allInt (ws : List TWord) : Bool := ws.all fun w => decide (w.tag = Tag.int)

/-- The fence of a pair takes it out of service: PASS clears, and its cover pair takes its place where it can (R355, R512). -/
def State.hcEnterFence (s : State) (cipher : Bool) (k : Nat) : State :=
  let b := hcPage cipher
  let s := s.updHc cipher k fun x => { x with passed := false }
  let v := s.reg b 0 0x70
  let s := if bit v 4 && decide (s.coverOf cipher (fld v 0 4) = k) then s.updReg b 0 0x70 fun u => putBit u 4 false else s
  let c := s.coverOf cipher k
  if c = k ∨ s.hcFence cipher c ∨ bit (s.reg b 0 0x70) 4 then s
  else
    let s := s.setReg b 0 0x70 (w32 (k + 16))
    if s.hcOwned cipher k then s.setRegBit b 0 0x48 c true else s

/-- The end of any command: counter, pair state, free result (R204, R211, R217, R512). -/
def State.hcFinish (s : State) (cipher : Bool) (k : Nat) (c : UCmd) (ok : Bool) : State :=
  let x := s.hc cipher k
  let s1 := ((s.unitCount (hcPage cipher) 0 0x5C (if ok then 0 else 1)).unitMet c.req (hcUnit cipher k) c.due).updHc cipher k fun x =>
    { x with st := if x.fenceWait then .fenced else .idle, cmd := none, result := x.result || !c.req.sched, fenceWait := false }
  if x.fenceWait then s1.hcEnterFence cipher k else s1

/-- Status word, then data bytes, to the requester (R204, R208, R211). -/
def State.hcDeliver (s : State) (cipher : Bool) (k : Nat) (c : UCmd) (off : Nat) (st : TWord) (data : List Byte) : State :=
  if c.req.sched then (s.putWord (sharedBase c.req.course.val + off) st).putInts (sharedBase c.req.course.val + off + 4) data
  else (s.putWord (unitBase cipher k + 0x200) st).putInts (unitBase cipher k + 0xC00) data

/-- HASH_DONE (R201, R204-R206, R211). -/
def fHashDone (k : Nat) (s : State) : State :=
  let x := s.hc false k
  match x.cmd with
  | none => s
  | some c =>
    if !x.st.running || decide (s.stroke < c.due) then s
    else
      let w (n : Nat) : Nat := (c.w.getD n 0).toNat
      let h := hashCmd w
      let keyin := s.words (unitBase false k) (h.kwords + 1)
      let pre := match h.pfx with | 0 => [] | 1 => bytesOf keyin | _ => c.rnd
      let preOk := match h.pfx with | 0 => true | 1 => keyin.all (fun u => decide (u.tag = Tag.key)) | _ => !c.rnd.isEmpty
      let held := if h.init then some [] else match x.hash with | some (o, m) => if o = h.op then some m else none | none => none
      let msg := (held.getD []) ++ pre ++ (bytesOf c.inp).take h.len
      let ok := preOk && held.isSome && allInt c.inp &&
        decide (hashCost h.op h.outlen (held.getD []).length (msg.length - (held.getD []).length) h.final ≤ h.maxb)
      let n := hashOut h.op h.outlen
      let dig := if ok then fixLen n (hashDigest h.op h.outlen msg) else zeros n
      let st := statusWord (if ok then 0 else 1) h.op h.txn
      let s1 := s.hcDeliver false k c h.out st (if h.final && !h.kout then dig else [])
      let s2 := if h.final && h.kout then s1.keyOut c.req h.kidx dig else s1
      let s3 := if h.pfx = 1 ∨ h.pfx = 2 then s2.clearKeyIn false k else s2
      let s4 := s3.updHc false k fun y =>
        { y with hash := if h.final then none else if ok then some (h.op, msg) else if h.init then some (h.op, []) else y.hash }
      s4.hcFinish false k c ok

/-- CIPHER_DONE (R201, R207-R210). -/
def fCipherDone (k : Nat) (s : State) : State :=
  let x := s.hc true k
  match x.cmd with
  | none => s
  | some u =>
    if !x.st.running || decide (s.stroke < u.due) then s
    else
      let w (n : Nat) : Nat := (u.w.getD n 0).toNat
      let c := cipherCmd w
      let status (ok : Bool) := statusWord (if ok then 0 else 1) c.op c.txn
      if c.op = 2 then
        ((s.updHc true k fun y => { y with key := none }).hcDeliver true k u c.inp (status true) []).hcFinish true k u true
      else if c.op = 1 then
        let nk := if c.klen then 8 else 4
        let keyin := s.words (unitBase true k) nk
        let key := if c.ksrc = 1 then (if keyin.all (fun v => decide (v.tag = Tag.key)) then some (bytesOf keyin) else none)
          else if u.rnd.isEmpty then none else some u.rnd
        let s1 := (s.clearKeyIn true k).updHc true k fun y => { y with key := key }
        (s1.hcDeliver true k u c.inp (status key.isSome) []).hcFinish true k u key.isSome
      else
        let bs := bytesOf u.inp
        let iv := bs.take 16
        let aad := (bs.drop 16).take c.alen
        let text := (bs.drop (16 + pad4 c.alen)).take c.nlen
        let rtag := (bs.drop (16 + pad4 c.alen + pad4 c.nlen)).take c.tagBytes
        let key := x.key.getD (zeros 16)
        let outText := if c.op = 0x10 then aesCtr key iv text else if c.op ≤ 0x12 then gcmText key iv text else []
        let ct := if c.op = 0x12 then text else outText
        let tag := (gcmTag key iv aad ct).take c.tagBytes
        let ok := x.key.isSome && decide (c.alen ≤ 8 * c.amax ∨ c.op = 0x10) && decide (c.nlen ≤ 8 * c.nmax ∨ 0x13 ≤ c.op) &&
          allInt u.inp && (!c.checks || decide (rtag = tag))
        let out := fixLen (pad4 c.nlen) outText ++ (if c.hasTag && !c.checks then tag else [])
        let out := if ok then out else zeros out.length
        (s.hcDeliver true k u c.out (status ok) out).hcFinish true k u ok

/-- An abort: WIPE for 32 strokes with state, key schedule, KEYIN, HANDLE, BUF and OUT zeroised (R213). -/
def State.hcAbortNow (s : State) (cipher : Bool) (k : Nat) (toFence : Bool) : State :=
  ((s.wipe (unitBase cipher k) 0x1000).hcForget cipher k).updHc cipher k fun x =>
    { x with st := .wipe, due := s.stroke + 32, toFence := toFence || x.fenceWait, fenceWait := false, cmd := none,
             aborted := if x.st.running then x.cmd else x.aborted }

/-- A pair whose command's end has come is finished, whatever comes in that stroke (R183, R213). -/
def State.hcAlive (s : State) (cipher : Bool) (k : Nat) : Bool :=
  (s.hc cipher k).st.running && decide (s.stroke < (s.hc cipher k).due)
/-- The owner course of a scheduled command that runs on a pair is told of its abort (R187, R188, R214). -/
def State.hcTell (s : State) (cipher : Bool) (k cause : Nat) : State :=
  match (s.hc cipher k).cmd with
  | some c => if c.req.sched && (s.hc cipher k).st.running then s.signalCourse c.req.course.val c.req.pair.val cause else s
  | none => s
/-- A write of ABORT (R183, R213). -/
def fUnitAbort (cipher : Bool) (v : Word) (s : State) : State :=
  let k := fld v 0 4
  if (s.hc cipher k).st = .free ∧ s.hcAlive cipher k then s.hcAbortNow cipher k false else s.setSticky (hcPage cipher) 0 0 0x50 k

/-- The wipe ends (R213). -/
def fUnitWipeDone (cipher : Bool) (k : Nat) (s : State) : State :=
  let x := s.hc cipher k
  let b := hcPage cipher
  if x.st ≠ .wipe ∨ s.stroke < x.due then s
  else
    let s0 := s.setHc cipher k { x with st := if x.toFence then .fenced else .idle, toFence := false, aborted := none }
    let s1 := if x.toFence then s0.hcEnterFence cipher k else s0
    match x.aborted with
    | none => s1
    | some c =>
      let w0 := (c.w.headD 0).toNat
      let s2 := (s1.setSticky b 0 4).unitCount b 0 0x5C 3
      if c.req.sched then s2 else s2.putWord (unitBase cipher k + 0x200) (statusWord 2 (w0 % 256) (w0 / 2 ^ 18 % 64))

/-- A mismatch or an uncorrectable error of a pair (R214). -/
def fUnitFault (cipher : Bool) (k : Nat) (f : UnitFault) (s : State) : State :=
  let b := hcPage cipher
  let s1 := s.hcTell cipher k (if f = UnitFault.mismatch then 14 else 12)
  let s2 := (s1.setSticky b 0 (if f = UnitFault.mismatch then 2 else 1)).setFence b 0 0x4C k true
  (s2.hcAbortNow cipher k true).hcEnterFence cipher k

/-- The commands of a page whose end has come deliver their results (R183, R213). -/
def State.hcFinishAll (s : State) (cipher : Bool) : State :=
  (List.range 16).foldl (fun s k =>
    if (s.hc cipher k).st.running && !s.hcAlive cipher k then (if cipher then fCipherDone k s else fHashDone k s) else s) s
/-- A write of OWNED (R164, R199, R201, R202, R213): after the results of the stroke a change aborts, and the pair zeroises; a
pair that is out of service, in its test or
in a wipe zeroises where it is. -/
def fUnitOwned (cipher : Bool) (v : Word) (s0 : State) : State :=
  let s := s0.hcFinishAll cipher
  let b := hcPage cipher
  let old := s.reg b 0 0x48
  let new := v &&& 0xFFFF
  (List.range 16).foldl (fun s k =>
    let x := s.hc cipher k
    if bit old k = bit new k then s
    else if s.hcAlive cipher k || decide (x.st = .idle) then (s.hcTell cipher k 12).hcAbortNow cipher k false
    else (s.wipe (unitBase cipher k) 0x1000).hcForget cipher k) (s.setReg b 0 0x48 new)

/-- SELFTEST.START (R189, R214). -/
def fUnitSelftest (cipher : Bool) (v : Word) (s : State) : State :=
  let b := hcPage cipher
  let k := fld v 0 4
  let s1 := s.updReg b 0 0x54 fun w => putFld w 0 4 k
  if !bit v 4 then s1
  else
    let x := s1.hc cipher k
    if x.st = .fenced ∨ (x.st = .idle ∧ !s1.hcOwned cipher k) then
      s1.setHc cipher k { x with st := .test, due := s.stroke + 60000, before := decide (x.st = .fenced) }
    else s1.reject b 0 0x54 v

/-- A self-test ends with its wipe (R214). -/
def fUnitSelftestDone (cipher : Bool) (ok : Bool) (s : State) : State :=
  match (List.range 16).find? fun k => decide ((s.hc cipher k).st = .test) && decide ((s.hc cipher k).due ≤ s.stroke) with
  | none => s
  | some k =>
    let s1 := ((s.wipe (unitBase cipher k) 0x1000).hcForget cipher k).updHc cipher k fun x =>
      { x with st := if x.before then .fenced else .idle, passed := ok, failed := !ok, testAt := if ok then some s.stroke else x.testAt }
    if ok then s1 else s1.setSticky (hcPage cipher) 0 5

/-- FREE_ACK (R217). -/
def fUnitFreeAck (cipher : Bool) (v : Word) (s : State) : State :=
  (List.range 16).foldl (fun s k => if bit v k then s.updHc cipher k fun x => { x with result := false } else s) s

/-- FT_AUDIT.PASS of every course cleared (R365). -/
def State.clearAllPass (s : State) : State := (List.range 16).foldl (fun s c => s.setRegBit .cox c 0x54 0 false) s

/-- A COVER write (R365): COVER_0 or COVER_1. -/
def fCover (cipher hi : Bool) (v : Word) (s : State) : State :=
  (s.setReg (hcPage cipher) 0 (if hi then 0x6C else 0x68) v).clearAllPass

/-- END_NOTICE_WIPE (R202): a pair that holds a notice wipes its key schedule, KEYIN, HANDLE and hash state. -/
def fEndNotice (cipher : Bool) (k : Nat) (s : State) : State :=
  if s.cox.any fun e => e.2.notices.contains (cipher, k) then
    let s1 := { s with cox := s.cox.map fun (e : Nat × Cox) => (e.1, { e.2 with notices := e.2.notices.filter (· ≠ (cipher, k)) }) }
    s1.hcForget cipher k
  else s

/-- A write into a pair's KEYIN (R71, R201): KEY words that a processor's KPUT or a Keystone core sends, while the pair is IDLE; refused
otherwise as under R72. -/
def State.hcKeyin (s : State) (cipher : Bool) (k0 i : Nat) (v : TWord) (m : Master) : State :=
  let k := s.hcRoute cipher k0
  let a := unitBase cipher k + 4 * i
  if v.tag = Tag.key ∧ m.isProc ∧ (s.hc cipher k).st = .idle then s.putWord a v else s.targetRefuse m 2 a

/-- A write into a pair's HANDLE (R197, R200, R201): a HANDLE word, while the pair is IDLE. -/
def State.hcHandle (s : State) (cipher : Bool) (k0 : Nat) (v : TWord) (m : Master) : State :=
  let k := s.hcRoute cipher k0
  if v.tag = Tag.handle ∧ (s.hc cipher k).st = .idle then s.updHc cipher k fun x => { x with handle := v.data }
  else s.targetRefuse m 1 (unitBase cipher k + 0x40)

/-- A staging write of W1-W5 (R171, R203). -/
def State.hcStage (s : State) (cipher : Bool) (k0 n : Nat) (v : Word) : State :=
  s.updHc cipher (s.hcRoute cipher k0) fun x => { x with stage := Sparse.set 0 x.stage n v }

/-- A staging write by a requester: a word that is not INT, and a beat of the wrong kind for the OWNED bit, are refused as under R72
(R199, R203). -/
def fHashStagingWrite (r : Requester) (cipher : Bool) (k n : Nat) (v : TWord) (s : State) : State :=
  if v.tag = Tag.int ∧ r.fits (s.hcOwned cipher (s.hcRoute cipher k)) then s.hcStage cipher k n v.data
  else s.targetRefuse r.master 1 (unitBase cipher k + 0x100 + 4 * n)

/-- HASH_STAGING_WRITE (R203). -/
def execHashStagingWrite (cipher : Bool) (k : Fin 16) (i : Fin 5) (v : PortWrite) (s : State) :
    Host.Outcome State Fault Refusal :=
  .next (fHashStagingWrite v.src cipher k.val (i.val + 1) v.word s)

/-- KeyinWrite. -/
def execKeyinWrite (cipher : Bool) (k : Fin 16) (i : Fin 16) (v : TWord) (m : Master) (s : State) : Host.Outcome State Fault Refusal :=
  .next (s.hcKeyin cipher k.val i.val v m)

/-- HandleWrite. -/
def execHandleWrite (cipher : Bool) (k : Fin 16) (v : TWord) (m : Master) (s : State) : Host.Outcome State Fault Refusal :=
  .next (s.hcHandle cipher k.val v m)

/-- HashSha256. -/
def execHashSha256 (r : Requester) (k : Fin 16) (w0 : Word) (s : State) : Host.Outcome State Fault Refusal :=
  .next (hcRow false 1 r k w0 s)

/-- HashSha384. -/
def execHashSha384 (r : Requester) (k : Fin 16) (w0 : Word) (s : State) : Host.Outcome State Fault Refusal :=
  .next (hcRow false 2 r k w0 s)

/-- HashSha512. -/
def execHashSha512 (r : Requester) (k : Fin 16) (w0 : Word) (s : State) : Host.Outcome State Fault Refusal :=
  .next (hcRow false 3 r k w0 s)

/-- HashSha3x256. -/
def execHashSha3x256 (r : Requester) (k : Fin 16) (w0 : Word) (s : State) : Host.Outcome State Fault Refusal :=
  .next (hcRow false 4 r k w0 s)

/-- HashShake128. -/
def execHashShake128 (r : Requester) (k : Fin 16) (w0 : Word) (s : State) : Host.Outcome State Fault Refusal :=
  .next (hcRow false 5 r k w0 s)

/-- HashShake256. -/
def execHashShake256 (r : Requester) (k : Fin 16) (w0 : Word) (s : State) : Host.Outcome State Fault Refusal :=
  .next (hcRow false 6 r k w0 s)

/-- HashDone. -/
def execHashDone (k : Fin 16) (s : State) : Host.Outcome State Fault Refusal :=
  .next (fHashDone k.val s)

/-- CipherKeyset. -/
def execCipherKeyset (r : Requester) (k : Fin 16) (w0 : Word) (s : State) : Host.Outcome State Fault Refusal :=
  .next (hcRow true 0x01 r k w0 s)

/-- CipherKeyclr. -/
def execCipherKeyclr (r : Requester) (k : Fin 16) (w0 : Word) (s : State) : Host.Outcome State Fault Refusal :=
  .next (hcRow true 0x02 r k w0 s)

/-- AesCtr. -/
def execAesCtr (r : Requester) (k : Fin 16) (w0 : Word) (s : State) : Host.Outcome State Fault Refusal :=
  .next (hcRow true 0x10 r k w0 s)

/-- GcmEncrypt. -/
def execGcmEncrypt (r : Requester) (k : Fin 16) (w0 : Word) (s : State) : Host.Outcome State Fault Refusal :=
  .next (hcRow true 0x11 r k w0 s)

/-- GcmDecrypt. -/
def execGcmDecrypt (r : Requester) (k : Fin 16) (w0 : Word) (s : State) : Host.Outcome State Fault Refusal :=
  .next (hcRow true 0x12 r k w0 s)

/-- GmacGenerate. -/
def execGmacGenerate (r : Requester) (k : Fin 16) (w0 : Word) (s : State) : Host.Outcome State Fault Refusal :=
  .next (hcRow true 0x13 r k w0 s)

/-- GmacVerify. -/
def execGmacVerify (r : Requester) (k : Fin 16) (w0 : Word) (s : State) : Host.Outcome State Fault Refusal :=
  .next (hcRow true 0x14 r k w0 s)

/-- CipherDone. -/
def execCipherDone (k : Fin 16) (s : State) : Host.Outcome State Fault Refusal :=
  .next (fCipherDone k.val s)

/-- UnitAbort. -/
def execUnitAbort (m : Master) (cipher : Bool) (v : Word) (s : State) : Host.Outcome State Fault Refusal :=
  .next (s.gated m (hcPage cipher) 0 0x50 (fUnitAbort cipher v))

/-- UnitWipeDone. -/
def execUnitWipeDone (cipher : Bool) (k : Fin 16) (s : State) : Host.Outcome State Fault Refusal :=
  .next (fUnitWipeDone cipher k.val s)

/-- UnitPairFault. -/
def execUnitPairFault (cipher : Bool) (k : Fin 16) (f : UnitFault) (s : State) : Host.Outcome State Fault Refusal :=
  .next (fUnitFault cipher k.val f s)

/-- UnitOwnedWrite. -/
def execUnitOwnedWrite (m : Master) (cipher : Bool) (v : Word) (s : State) : Host.Outcome State Fault Refusal :=
  .next (s.gated m (hcPage cipher) 0 0x48 (fUnitOwned cipher v))

/-- UnitSelftestStart. -/
def execUnitSelftestStart (m : Master) (cipher : Bool) (v : Word) (s : State) : Host.Outcome State Fault Refusal :=
  .next (s.gated m (hcPage cipher) 0 0x54 (fUnitSelftest cipher v))

/-- UnitSelftestDone. -/
def execUnitSelftestDone (cipher : Bool) (ok : Bool) (s : State) : Host.Outcome State Fault Refusal :=
  .next (fUnitSelftestDone cipher ok s)

/-- UnitFreeAck. -/
def execUnitFreeAck (m : Master) (cipher : Bool) (v : Word) (s : State) : Host.Outcome State Fault Refusal :=
  .next (s.gated m (hcPage cipher) 0 0x58 (fUnitFreeAck cipher v))

/-- CoverWrite. -/
def execCoverWrite (m : Master) (cipher : Bool) (hi : Bool) (v : Word) (s : State) : Host.Outcome State Fault Refusal :=
  .next (s.gated m (hcPage cipher) 0 (if hi then 0x6C else 0x68) fun s => s.ksOnly m (hcPage cipher) 0 (if hi then 0x6C else 0x68) v (fCover cipher hi v))

/-- EndNoticeWipe. -/
def execEndNoticeWipe (cipher : Bool) (k : Fin 16) (s : State) : Host.Outcome State Fault Refusal :=
  .next (fEndNotice cipher k.val s)

end Sys2Proof.Machine
end

