-- ==== Sys2Proof/Machine/Partner.lean ====
section
/-! DEFINITION. Partners, signers and secure time (R218-R242, R251, R358, R361): context images, the read and check-and-mark ports,
high-water keeping, load commands of both stores, and the TIM block. -/

namespace Sys2Proof.Machine

/-! ### Context images (R218, R219) -/

/-- Write of a context. The first change of a stroke keeps what the context was before it (R222). -/
def State.setCtx (s : State) (p : Nat) (c : Ctx) : State :=
  let was := s.ptn.was.filter fun e => decide (e.1 = s.stroke)
  { s with ptn := { s.ptn with
      ctx := Sparse.set {} s.ptn.ctx p c
      was := if was.any fun e => decide (e.2.1 = p) then was else (s.stroke, p, s.ctx p) :: was } }
/-- A context as it was before any change of the present stroke (R222). -/
def State.ctxBefore (s : State) (p : Nat) : Ctx :=
  match s.ptn.was.find? fun e => decide (e.1 = s.stroke) && decide (e.2.1 = p) with
  | some e => e.2.2
  | none => s.ctx p

/-- A ring entry as 32 bytes (R225). -/
def RingMark.bytes (r : RingMark) : List Byte := leBytes 8 r.seq ++ leBytes 8 r.tag ++ leBytes 8 r.stroke ++ zeros 8
/-- A rate counter as 8 bytes (R251). -/
def Rate.bytes (r : Rate) : List Byte := leBytes 4 r.count ++ leBytes 4 r.epoch
/-- A byte of the configuration area as a read of the window delivers it: the wrapped key bytes of an entry read 0 (R218). -/
def Ctx.shownByte (c : Ctx) (off : Nat) : Byte :=
  if 0x400 ≤ off ∧ off < 0x580 ∧ 8 ≤ (off - 0x400) % 48 then 0 else c.cfgByte off
/-- Bytes 0x000-0x01F of a context. -/
def Ctx.head (c : Ctx) : List Byte :=
  leBytes 2 c.partner ++ [if c.enabled then 1 else 0] ++ leBytes 1 c.ringNext ++ leBytes 4 c.state.toNat ++ leBytes 8 c.hw ++
    leBytes 8 c.fence ++ zeros 8
/-- The mutable area, bytes 0x000-0x2BF. -/
def Ctx.mutArea (c : Ctx) : List Byte :=
  c.head ++ ((List.range 4).flatMap fun k => (Sparse.get {} c.rate k).bytes) ++ leBytes 128 c.window.toNat ++
    ((List.range 16).flatMap fun k => (Sparse.get {} c.ring k).bytes)
/-- The 2,048-byte image; zeros for a withdrawn context (R358). -/
def Ctx.image (c : Ctx) : List Byte :=
  if c.withdrawn then zeros 2048 else c.mutArea ++ (List.range 0x540).map fun i => c.shownByte (0x2C0 + i)

/-- Write of INT words into course shared memory from an offset; words past its end have no place (R67). -/
def State.toShared (s : State) (c off : Nat) (bs : List Byte) : State :=
  s.putWords (sharedBase c + off / 4 * 4) (((toWords bs).take (0x20000 - off / 4)).map TWord.int)

/-- Oldest request that satisfies a test, requests of one stroke in course order (R226), with the rest. -/
def takeOldest {α : Type} [DecidableEq α] (key : α → Nat) (p : α → Bool) (l : List α) : Option (α × List α) :=
  let c := l.filter p
  match c with
  | [] => none
  | x :: r =>
    let y := r.foldl (fun a b => if key b < key a then b else a) x
    some (y, l.erase y)

/-- Bytes that a read request brings: the image, or its first 32 bytes with STATE_ONLY (R222). -/
def Ctx.readBytes (c : Ctx) (stateOnly : Bool) : List Byte := if stateOnly then c.image.take 32 else c.image
/-- The beats of a read have all reached their course (R115, R146). -/
def State.readLanded (s : State) (r : CtxRead) : Bool := s.mort.flights.all fun f => decide (f.body ≠ .ctx r) || s.landed f
/-- A context read whose beats have arrived is complete at its destination (R222, R115). -/
def fCtxRead (stateOnly : Bool) (s : State) : State :=
  match takeOldest (fun r : CtxRead => r.stroke * 16 + r.course) (fun r => decide (r.stateOnly = stateOnly) && s.readLanded r) s.ptn.reads with
  | none => s
  | some (r, rest) =>
    ({ s with ptn := { s.ptn with reads := rest }
              mort := { s.mort with flights := s.mort.flights.filter fun f => decide (f.body ≠ .ctx r) } } : State).toShared r.course r.dest
      r.img

/-! ### Check-and-mark (R223-R226, R230, R232, R251) -/

/-- Window of counter k in seconds, and the epoch of a time in µs (R251). -/
def rateWindow (k : Nat) : Nat := match k with | 0 => 1 | 1 => 60 | 2 => 3600 | _ => 86400
def rateEpoch (k t : Nat) : Nat := t / (rateWindow k * 1000000) % 2 ^ 32
/-- Advance of a counter (R251). -/
def Rate.advance (r : Rate) (k t : Nat) : Rate :=
  if r.epoch = rateEpoch k t then { r with count := satInc r.count (2 ^ 32 - 1) } else { epoch := rateEpoch k t, count := 1 }
/-- Bit of a sequence in the window. -/
def Ctx.marked (c : Ctx) (q : Nat) : Bool := c.window.getLsbD (q % 1024)
/-- A ring entry holds the sequence with the ingress tag. -/
def Ctx.inRing (c : Ctx) (q tag : Nat) : Bool := c.ring.any fun e => e.2.used && decide (e.2.seq = q) && decide (e.2.tag = tag)
/-- Test 1, and test 2 without its exception (R224). -/
def Ctx.tooOld (c : Ctx) (q : Nat) : Bool := decide (q + 1024 ≤ c.hw)
def Ctx.known (c : Ctx) (q : Nat) : Bool := decide (c.hw < q + 1024) && decide (q ≤ c.hw) && c.marked q
/-- The window after a mark (R224). -/
def Ctx.markWindow (c : Ctx) (q : Nat) : Ctx :=
  let put (w : BitVec 1024) (i : Nat) : BitVec 1024 := w ||| ((1 : BitVec 1024) <<< (i % 1024))
  let clr (w : BitVec 1024) (i : Nat) : BitVec 1024 := w &&& ~~~((1 : BitVec 1024) <<< (i % 1024))
  if c.hw < q then
    let w := if 1024 ≤ q - c.hw then 0 else (List.range (q - c.hw - 1)).foldl (fun w i => clr w (c.hw + 1 + i)) c.window
    { c with window := put w q, hw := q }
  else { c with window := put c.window q }
/-- STATE after words 5 and 6 (R223). -/
def Ctx.setState (c : Ctx) (set clear : Word) : Ctx := { c with state := (c.state ||| set) &&& ~~~clear }
/-- Ring entry written by a mark (R225). -/
def Ctx.ringPut (c : Ctx) (q tag stroke : Nat) : Ctx :=
  { c with ring := Sparse.set {} c.ring c.ringNext { seq := q, tag := tag, stroke := stroke, used := true }
           ringNext := (c.ringNext + 1) % 16 }
/-- The ring entry to be written is younger than 3,840,000 strokes (R225). -/
def Ctx.ringYoung (c : Ctx) (stroke : Nat) : Bool :=
  let e := Sparse.get {} c.ring c.ringNext
  e.used && decide (stroke - e.stroke < 3840000)

/-- Bytes written into BBRAM over the joint (R230). -/
def State.bbPut (s : State) (off : Nat) (bs : List Byte) : State :=
  { s with aon := { s.aon with bbram := (List.range bs.length).foldl (fun m i => Sparse.set 0 m (off + i) (bs.getD i 0)) s.aon.bbram } }
/-- A number held in BBRAM. -/
def State.bbNat (s : State) (off n : Nat) : Nat := leNat ((List.range n).map fun i => Sparse.get 0 s.aon.bbram (off + i))
/-- The BBRAM pending bit of a context (R226); one already set keeps its stroke. -/
def State.bbPendSet (s : State) (p : Nat) : State :=
  if s.ptn.bbPend.any (·.1 = p) then s else { s with ptn := { s.ptn with bbPend := s.ptn.bbPend ++ [(p, s.stroke)] } }
/-- A checkpoint request (R226, R232). -/
def State.ckptPush (s : State) (p hw : Nat) : State :=
  if s.ptn.ckpt.length < 64 then { s with ptn := { s.ptn with ckpt := s.ptn.ckpt ++ [(p, hw)] } } else s.setSticky .ptn 0 6

/-- A check-and-mark on a context at secure time tm: the state after it and whether it took effect (R223-R226). -/
def State.markOn (s : State) (p q tag : Nat) (mark : Bool) (rates : BitVec 4) (set clear : Word) (tm : Nat) : State × Bool :=
  let c := s.ctx p
  if !mark then (s.setCtx p (c.setState set clear), true)
  else if s.ptn.draining || c.tooOld q || (c.known q && !c.inRing q tag) then
    (s.updReg .ptn 0 0x68 fun v => putFld v 16 16 (satInc (fld v 16 16) 0xFFFF), false)
  else if c.known q then (s, true)
  else if c.ringYoung s.stroke then
    ((s.updReg .ptn 0 0x68 fun v => putFld v 16 16 (satInc (fld v 16 16) 0xFFFF)).setSticky .ptn 0 2, false)
  else
    let c1 := ((c.markWindow q).ringPut q tag s.stroke).setState set clear
    let c2 := { c1 with rate := (List.range 4).foldl (fun m k =>
      if rates.getLsbD k then Sparse.upd {} m k (fun r => r.advance k tm) else m) c1.rate }
    let s1 := (s.setCtx p c2).count16 .ptn 0 0x68 0
    let s2 := if c.hw < q then s1.bbPendSet p else s1
    (if c.hw / 2 ^ 16 ≠ c2.hw / 2 ^ 16 then s2.ckptPush p c2.hw else s2, true)

/-- A mark that took effect goes to the sister device (R361); a DEMOTED device streams the marks of the heats in progress (R363). -/
def State.streamMark (s : State) (r : MarkReq) (tm : Nat) : State :=
  if s.pairM.role = 1 ∨ s.pairM.role = 3 then
    let cls := match (Sparse.get {} s.cox r.course).heats.find? (fun h => decide (h.pair = r.pair)) with
      | some h => h.cls
      | none => 0
    let n := s.pairM.send
    let s1 := { s with pairM := { s.pairM with send := n + 1
                                               unacked := if s.pairM.link then s.pairM.unacked ++ [(n, r.tag)] else s.pairM.unacked } }
    if s.pairM.link then
      s1.emit (.sisterMark { num := n, partner := Fin.ofNat 4096 r.partner, version := (s.ctx r.partner).version, mark := r.mark,
                             seq := r.seq, tag := r.tag, set := r.set, clear := r.clear, rate := r.rates, tm := tm, cls := cls })
    else s1
  else s

/-- The result of a check-and-mark: the beat on its way carries it, and the heat's own request gives it to the heat (R223, R48). -/
def State.markResult (s : State) (r : MarkReq) (ok : Bool) : State :=
  let tell (f : Flight) : Flight := if f.body = .mark r none then { f with body := .mark r (some ok) } else f
  let note (h : Heat) : Heat := if h.pair = r.pair ∧ h.entry.tag = r.tag then { h with marked := some ok } else h
  let noteIn (x : Nat × Cox) : Nat × Cox := if x.1 = r.course then (x.1, { x.2 with heats := x.2.heats.map note }) else x
  let s1 : State := { s with mort := { s.mort with flights := s.mort.flights.map tell } }
  if r.heat then { s1 with cox := s1.cox.map noteIn } else s1
/-- The result word of a check-and-mark reaches course shared memory (R223). -/
def State.landMark (s : State) (f : Flight) : State :=
  match f.body with
  | .mark r (some ok) =>
    ({ s with mort := { s.mort with flights := s.mort.flights.erase f } } : State).toShared r.course r.dest (leBytes 4 (if ok then 0 else 1))
  | _ => s
/-- The oldest check-and-mark at the port: by the stroke of its arrival, in one stroke by course (R48, R226). -/
def State.takeMark (s : State) : State :=
  match takeOldest (fun r : MarkReq => r.arrive * 16 + r.course) (fun _ => true) s.ptn.marks with
  | none => s
  | some (r, rest) =>
    let s0 := { s with ptn := { s.ptn with marks := rest } }
    let (s1, ok) := s0.markOn r.partner r.seq r.tag r.mark r.rates r.set r.clear s.secNow
    let s2 := s1.markResult r ok
    if ok then s2.streamMark r s.secNow else s2
/-- The last word of a check-and-mark has reached the port and is not yet delivered. -/
def State.markLanding (s : State) : Bool := s.mort.msgs.any fun m => decide (m.addr = 0x1089001C) && s.arrived m
/-- CHECK_AND_MARK: the oldest request, its result and its message to the sister (R223, R226, R361); one that arrives in the same stroke
from a lower course goes first. -/
def fCheckAndMark (s : State) : State := if s.markLanding then s else s.takeMark

/-! ### High-water keeping (R230-R232) -/

/-- The pending partner to send next: the lowest at or above the place of the last send, wrapping (R230). -/
def Ptn.nextPend (t : Ptn) : Option Nat :=
  let ps := t.bbPend.map (·.1)
  let low (l : List Nat) : Option Nat := match l with | [] => none | x :: r => some (r.foldl min x)
  match low (ps.filter (t.bbNext ≤ ·)) with
  | some p => some p
  | none => low ps

/-- BB_PENDING_SEND: one high-water over the joint, at most one in 32 strokes; an outage delays it (R230, R15). -/
def fBbSend (s : State) : State :=
  if !s.jnt.up ∨ s.stroke < s.ptn.bbAt then s
  else match s.ptn.nextPend with
    | none => s
    | some p =>
      let s1 := { s with ptn := { s.ptn with bbPend := s.ptn.bbPend.filter (·.1 ≠ p), bbNext := (p + 1) % 4096, bbAt := s.stroke + 32 } }
      s1.bbPut (8 * p) (leBytes 8 (s.ctx p).hw)

/-- BB_LAG_TIMEOUT: a pending bit older than 1,200,000 strokes (R230). -/
def fBbLag (p : Nat) (s : State) : State :=
  if s.ptn.bbPend.any fun e => decide (e.1 = p) && decide (1200000 < s.stroke - e.2) then s.setSticky .ptn 0 4 else s

/-- PARTNER_DRAIN: later marks fail, and the high-waters then drain (R231). -/
def fDrain (s : State) : State := { s with ptn := { s.ptn with draining := true } }

/-- DRAIN_COMPLETE: every pending high-water has been sent, and the marker sets CLEAN (R231). -/
def fDrainDone (s : State) : State :=
  if s.ptn.draining && s.ptn.bbPend.isEmpty && s.jnt.up then
    ({ s with ptn := { s.ptn with drained := true } }).bbPut 0x8000 (leBytes 4 1)
  else s

/-- A high-water recorded in the checkpoint partition; it never falls (R232). -/
def State.ckptRecord (s : State) (p hw : Nat) : State :=
  { s with flc := { s.flc with ckpt := Sparse.upd 0 s.flc.ckpt p (max hw) } }
/-- CKPT_POP: a read of CKPT_HW_HI delivers the held half and removes the oldest request (R240, R30), which Keystone firmware records;
after an overflow it records every enabled context (R232). -/
def fCkptPop (s : State) : State × Word :=
  let s1 := match s.ptn.ckpt with | (p, hw) :: _ => s.ckptRecord p hw | [] => s
  let s2 := if bit (s.stky .ptn 0) 6 then
      (s1.ptn.ctx.filter fun e => e.2.enabled).foldl (fun s e => s.ckptRecord e.1 e.2.hw) s1 else s1
  ({ s2 with ptn := { s2.ptn with ckpt := s2.ptn.ckpt.drop 1 } }, Sparse.get 0 s.held (regKey .ptn 0 0x60))

/-! ### Loads (R235, R236) -/

/-- A configuration area taken from an image. -/
def cfgOf (img : List Byte) : List (Nat × Byte) :=
  (List.range 0x540).filterMap fun i =>
    let b := img.getD (0x2C0 + i) 0
    if b = 0 then none else some (0x2C0 + i, b)

/-- The key array of a configuration area: `none` where an entry fails its unwrap integrity check (R221). -/
def State.unwrapAll (s : State) (c : Ctx) : Option (List (Nat × List Byte)) :=
  (List.range 8).foldl (fun acc k =>
    match acc with
    | none => none
    | some m =>
      let len := c.cfgNat (0x401 + 48 * k) 1
      if len = 0 then some m
      else
        let wrapped := (List.range (len + 8)).map fun i => c.cfgByte (0x408 + 48 * k + i)
        match s.ptn.wrapKey with
        | none => none
        | some kek => (keyUnwrap kek wrapped).map fun key => Sparse.set [] m k key) (some [])

/-- Two contexts of one protocol share a lookup key (R287). -/
def sameKey (a b : Ctx) : Bool :=
  match a.cfgNat 0x2C6 1 with
  | 1 | 4 | 6 => decide (a.cfgNat 0x2C8 4 = b.cfgNat 0x2C8 4)
  | 2 => decide (a.cfgNat 0x2C8 4 = b.cfgNat 0x2C8 4) && decide (a.cfgNat 0x2CC 4 = b.cfgNat 0x2CC 4)
  | _ => false
/-- Port and lookup cases that refuse INSTALL and UPDATE (R287). -/
def State.bindBad (s : State) (p : Nat) (c : Ctx) : Bool :=
  let proto := c.cfgNat 0x2C6 1
  let port := c.cfgNat 0x2C4 1
  let serial := decide (proto = 1) || decide (proto = 2) || decide (proto = 4)
  (serial && decide (port < 64)) || (!serial && decide (64 ≤ port)) ||
  (decide (8 ≤ port) && decide (port < 64) && decide (port % 2 = 1) && decide (fld (s.reg .eth (port - 1) 0x40) 4 2 ≠ 0)) ||
  s.ptn.ctx.any fun e => decide (e.1 ≠ p) && decide (e.2.version ≠ 0) && decide (e.2.cfgNat 0x2C4 1 = port) &&
    (decide (e.2.cfgNat 0x2C6 1 ≠ proto) || sameKey e.2 c)

/-- Cases that refuse INSTALL and UPDATE alike (R235, R287). -/
def State.imageBad (s : State) (p : Nat) (c : Ctx) (img : List Byte) : Bool :=
  let proto := c.cfgNat 0x2C6 1
  let port := c.cfgNat 0x2C4 1
  !(decide (1 ≤ proto) && decide (proto ≤ 6)) ||
  !(decide (10 ≤ c.cfgNat 0x2D0 4) && decide (c.cfgNat 0x2D0 4 ≤ 60000)) ||
  decide (leNat (img.take 2) % 4096 ≠ p) || s.bindBad p c ||
  decide (256 ≤ (s.ptn.ctx.filter fun e => decide (e.1 ≠ p) && decide (e.2.version ≠ 0) && decide (e.2.cfgNat 0x2C4 1 = port)).length) ||
  (List.range 8).any fun k => let l := c.cfgNat (0x401 + 48 * k) 1; !(decide (l = 0) || decide (l = 16) || decide (l = 32))

/-- End of a load: LOAD_STS.RESULT and DONE; a refused one sets CMD_REJECT (R235). -/
def State.loadEnd (s : State) (b : Block) (result : Nat) : State :=
  let s1 := s.updReg b 0 0x44 fun v => putFld (putBit v 1 true) 2 2 result
  if result = 2 then s1.reject b 0 0x40 (s.reg b 0 0x40) else s1

/-- RESTORE of an installed context (R235, R233): the high-water and the fence, the whole window marked, RING and RATE cleared. -/
def State.restoreCtx (s : State) (p hw fence : Nat) : State :=
  let s1 := (s.setCtx p { s.ctx p with hw := hw, window := BitVec.allOnes 1024, ring := [], rate := [], fence := fence }).bbPendSet p
  { s1 with ptn := { s1.ptn with restored := p :: s1.ptn.restored.erase p } }
/-- A fence that stands for an unknown shutdown time (R234). -/
def fenceOpen : Nat := 2 ^ 64 - 1
/-- Once VALID becomes 1, Keystone firmware lowers each fence of R234 to the secure time of that moment with the FENCE mode. -/
def State.fenceLower (s : State) : State :=
  (s.ptn.ctx.filter fun e => decide (e.2.version ≠ 0) && decide (e.2.fence = fenceOpen)).foldl
    (fun s e => s.setCtx e.1 { s.ctx e.1 with fence := s.secNow }) s
/-- A change of secure time, after which a first VALID of 1 lowers the open fences (R228, R234). -/
def State.validAfter (s t : State) : State := if !s.tim.valid && t.tim.valid then t.fenceLower else t

/-- The applied or refused load (R235). -/
def State.applyLoad (s : State) (mode p : Nat) : State :=
  let c := s.ctx p
  let img := s.bytes ctxStaging 2048
  let arg := (s.reg .ptn 0 0x48).toNat
  let new : Ctx := { partner := p, window := 1, cfg := cfgOf img }
  match mode with
  | 1 =>
    if c.enabled || decide (new.version ≠ arg) || decide (new.version = 0) || s.imageBad p new img then
      (if new.version ≠ arg then (s.loadEnd .ptn 2).setSticky .ptn 0 5 else s.loadEnd .ptn 2)
    else match s.unwrapAll new with
      | none => (s.setSticky .ptn 0 3).loadEnd .ptn 3
      | some ks =>
        let s1 := s.setCtx p { new with keys := ks }
        ({ s1 with ptn := { s1.ptn with restored := s1.ptn.restored.erase p } } : State).loadEnd .ptn 1
  | 2 =>
    let mism := decide (new.version ≠ arg) || decide (new.version ≤ c.version)
    if decide (c.version = 0) || mism || s.imageBad p new img then
      (if mism && decide (c.version ≠ 0) then (s.loadEnd .ptn 2).setSticky .ptn 0 5 else s.loadEnd .ptn 2)
    else match s.unwrapAll new with
      | none => (s.setSticky .ptn 0 3).loadEnd .ptn 3
      | some ks => (s.setCtx p { c with cfg := new.cfg, keys := ks }).loadEnd .ptn 1
  | 3 => if c.version = 0 then s.loadEnd .ptn 2 else (s.setCtx p { c with enabled := true }).loadEnd .ptn 1
  | 4 => (s.setCtx p { c with enabled := false }).loadEnd .ptn 1
  | 5 => if c.enabled then s.loadEnd .ptn 2 else ((s.setCtx p {}).bbPut (8 * p) (zeros 8)).loadEnd .ptn 1
  | 6 =>
    if c.version = 0 then s.loadEnd .ptn 2
    else (s.restoreCtx p (s.reg64 .ptn 0 0x48) (s.reg64 .ptn 0 0x50)).loadEnd .ptn 1
  | 7 => if c.version = 0 then s.loadEnd .ptn 2 else (s.setCtx p { c with fence := s.reg64 .ptn 0 0x50 }).loadEnd .ptn 1
  | _ => s.loadEnd .ptn 2

/-- The load that runs is applied (R235). -/
def State.takeLoad (s : State) : State :=
  match s.ptn.load with
  | none => s
  | some (mode, p, _) => ({ s with ptn := { s.ptn with load := none } }).applyLoad mode p
/-- PARTNER_LOAD_APPLY (R235): a check-and-mark of the same stroke to the context is taken first (R226). -/
def fLoadApply (s : State) : State :=
  match s.ptn.load with
  | none => s
  | some (_, p, _) => if s.markLanding || s.ptn.marks.any (fun r => decide (r.partner = p)) then s else s.takeLoad

/-- A write of PTN.LOAD_CMD (R235, R240): refused in full while a load runs. -/
def fPtnLoadCmd (v : Word) (s : State) : State :=
  if s.ptn.load.isSome then s.reject .ptn 0 0x40 v
  else
    let s1 := s.setReg .ptn 0 0x40 (v &&& 0xFFFF)
    if bit v 16 then { s1 with ptn := { s1.ptn with load := some (fld v 12 4, fld v 0 12, s.stroke + 2048) } } else s1

/-- The LOAD_CMD word of a row: the row's mode with START. -/
def loadWord (mode : Nat) (v : Word) : Word := putBit (putFld v 12 4 mode) 16 true
/-- The SGN.LOAD_CMD word of a row (R241). -/
def slotWord (mode : Nat) (v : Word) : Word := putBit (putFld v 10 3 mode) 16 true

/-- PARTNER_CONTEXT_ECC: the context is withdrawn (R358). -/
def fCtxEcc (p : Nat) (s : State) : State := (s.setCtx p { withdrawn := true }).setSticky .ptn 0 1

/-! ### Signer slots (R237, R238) -/

/-- Slots of a key: both of an ML-DSA-87 pair when either is named (R238). -/
def State.slotsOf (s : State) (n : Nat) : List Nat :=
  if n % 2 = 0 ∧ (s.byte (slotBase n)).toNat = 0x22 then [n, n + 1]
  else if n % 2 = 1 ∧ (s.byte (slotBase n)).toNat = 0x80 then [n - 1, n]
  else [n]

/-- Algorithms that INSTALL takes (R238). -/
def slotAlgOk (alg n : Nat) : Bool :=
  [0x01, 0x04, 0x08, 0x10, 0x11, 0x12, 0x20].contains alg || (decide (alg = 0x22) && decide (n % 2 = 0))

/-- The applied or refused signer load (R238). -/
def State.applySlot (s : State) (mode n : Nat) : State :=
  let alg := (s.byte slotStaging).toNat
  match mode with
  | 1 =>
    let two := decide (alg = 0x22)
    if !slotAlgOk alg n || decide (s.slotAlg n ≠ 0) || (two && decide (s.slotAlg (n + 1) ≠ 0)) ||
        decide (leNat (s.bytes (slotStaging + 4) 4) = 0) then s.loadEnd .sgn 2
    else
      let s1 := s.putInts (slotBase n) (s.bytes slotStaging 2048)
      (if two then s1.putInts (slotBase (n + 1)) (s.bytes (slotStaging + 0x800) 2048) else s1).loadEnd .sgn 1
  | 2 => ((s.slotsOf n).foldl (fun s k => s.wipe (slotBase k) 2048) s).loadEnd .sgn 1
  | 3 =>
    if s.slotAlg n = 0 then s.loadEnd .sgn 2
    else ((s.slotsOf n).foldl (fun s k => s.putByte (slotBase k + 1) (s.byte (slotBase k + 1) ||| 2)) s).loadEnd .sgn 1
  | _ => s.loadEnd .sgn 2

/-- SIGNER_LOAD_APPLY (R238). -/
def fSlotApply (s : State) : State :=
  match s.ptn.sgnLoad with
  | none => s
  | some (mode, n, _) => ({ s with ptn := { s.ptn with sgnLoad := none } }).applySlot mode n

/-- A write of SGN.LOAD_CMD (R238, R241): refused in full while a load runs. -/
def fSgnLoadCmd (v : Word) (s : State) : State :=
  if s.ptn.sgnLoad.isSome then s.reject .sgn 0 0x40 v
  else
    let s1 := s.setReg .sgn 0 0x40 (v &&& 0x1FFF)
    if bit v 16 then { s1 with ptn := { s1.ptn with sgnLoad := some (fld v 10 3, fld v 0 10, s.stroke + 1024) } } else s1

/-- SIGNER_SLOT_ECC: every fetch of the slot returns zero from then on (R358). -/
def fSlotEcc (n : Nat) (s : State) : State :=
  ({ s with badWords := slotBase n / 4 :: s.badWords.erase (slotBase n / 4) }).setSticky .sgn 0 1

/-! ### Secure time (R227, R228) -/

/-- TIM_ADJ: an offset in µs added to what is left to slew out, judged against STEP_MAX (R227, R228). -/
def fTimAdj (v : Word) (s : State) : State :=
  let left := s.tim.slew + v.toInt * usUnits
  if fld (s.reg .tim 0 0x4C) 0 20 * 1000 * usUnits < left.natAbs then s.setSticky .tim 0 2
  else
    s.validAfter { s with tim := { s.tim with slew := left, slewing := decide (left ≠ 0), lastDisc := s.secNow
                                              valid := s.tim.valid || s.tim.rtcCont || s.tim.stepped } }

/-- SLEW_COMPLETE: nothing is left to slew out (R227). -/
def fSlewDone (s : State) : State :=
  if s.tim.slew = 0 then { s with tim := { s.tim with slewing := false } } else s

/-- TIM_RTC_WRITEBACK over the joint (R227, R228). -/
def fTimWriteback (s : State) : State :=
  if s.jnt.up then
    { s with aon := { s.aon with rtc := s.tim.now, holdover := (s.reg .tim 0 0x48).toNat, lastDisc := s.tim.lastDisc
                                 timeValid := s.tim.valid, interrupted := s.aon.interrupted && !s.tim.valid } }
  else s

/-- HOLDOVER_EXPIRY (R228). -/
def fHoldover (s : State) : State :=
  if s.tim.valid && decide (s.tim.lastDisc + (s.reg .tim 0 0x48).toNat * 1000000 ≤ s.secNow) then
    ({ s with tim := { s.tim with valid := false } }).setSticky .tim 0 3
  else s

/-! ### The rows -/

/-- PARTNER_CONTEXT_READ (R222). -/
def execPartnerContextRead (s : State) : Host.Outcome State Fault Refusal := .next (fCtxRead false s)

/-- PARTNER_STATE_READ (R222). -/
def execPartnerStateRead (s : State) : Host.Outcome State Fault Refusal := .next (fCtxRead true s)

/-- CHECK_AND_MARK (R223). -/
def execCheckAndMark (s : State) : Host.Outcome State Fault Refusal := .next (fCheckAndMark s)

/-- BB_PENDING_SEND (R230). -/
def execBbPendingSend (s : State) : Host.Outcome State Fault Refusal := .next (fBbSend s)

/-- BB_LAG_TIMEOUT (R230). -/
def execBbLagTimeout (p : Fin 4096) (s : State) : Host.Outcome State Fault Refusal := .next (fBbLag p s)

/-- PARTNER_DRAIN (R231). -/
def execPartnerDrain (s : State) : Host.Outcome State Fault Refusal := .next (fDrain s)

/-- DRAIN_COMPLETE (R231). -/
def execDrainComplete (s : State) : Host.Outcome State Fault Refusal := .next (fDrainDone s)

/-- CKPT_POP (R240). -/
def execCkptPop (m : Master) (s : State) : Host.Outcome State Fault Refusal := .next (s.gatedRead m .ptn 0 0x60 fCkptPop)

/-- PARTNER_INSTALL (R235). -/
def execPartnerInstall (m : Master) (v : Word) (s : State) : Host.Outcome State Fault Refusal := .next (s.gated m .ptn 0 0x40 (fPtnLoadCmd (loadWord 1 v)))

/-- PARTNER_UPDATE (R235). -/
def execPartnerUpdate (m : Master) (v : Word) (s : State) : Host.Outcome State Fault Refusal := .next (s.gated m .ptn 0 0x40 (fPtnLoadCmd (loadWord 2 v)))

/-- PARTNER_ENABLE (R235). -/
def execPartnerEnable (m : Master) (v : Word) (s : State) : Host.Outcome State Fault Refusal := .next (s.gated m .ptn 0 0x40 (fPtnLoadCmd (loadWord 3 v)))

/-- PARTNER_DISABLE (R235). -/
def execPartnerDisable (m : Master) (v : Word) (s : State) : Host.Outcome State Fault Refusal := .next (s.gated m .ptn 0 0x40 (fPtnLoadCmd (loadWord 4 v)))

/-- PARTNER_ERASE (R235). -/
def execPartnerErase (m : Master) (v : Word) (s : State) : Host.Outcome State Fault Refusal := .next (s.gated m .ptn 0 0x40 (fPtnLoadCmd (loadWord 5 v)))

/-- PARTNER_RESTORE (R235). -/
def execPartnerRestore (m : Master) (v : Word) (s : State) : Host.Outcome State Fault Refusal := .next (s.gated m .ptn 0 0x40 (fPtnLoadCmd (loadWord 6 v)))

/-- PARTNER_FENCE (R235). -/
def execPartnerFence (m : Master) (v : Word) (s : State) : Host.Outcome State Fault Refusal := .next (s.gated m .ptn 0 0x40 (fPtnLoadCmd (loadWord 7 v)))

/-- PARTNER_LOAD_APPLY (R235). -/
def execPartnerLoadApply (s : State) : Host.Outcome State Fault Refusal := .next (fLoadApply s)

/-- SIGNER_INSTALL (R238). -/
def execSignerInstall (m : Master) (v : Word) (s : State) : Host.Outcome State Fault Refusal := .next (s.gated m .sgn 0 0x40 (fSgnLoadCmd (slotWord 1 v)))

/-- SIGNER_ERASE (R238). -/
def execSignerErase (m : Master) (v : Word) (s : State) : Host.Outcome State Fault Refusal := .next (s.gated m .sgn 0 0x40 (fSgnLoadCmd (slotWord 2 v)))

/-- SIGNER_REVOKE (R238). -/
def execSignerRevoke (m : Master) (v : Word) (s : State) : Host.Outcome State Fault Refusal := .next (s.gated m .sgn 0 0x40 (fSgnLoadCmd (slotWord 3 v)))

/-- SIGNER_LOAD_APPLY (R238). -/
def execSignerLoadApply (s : State) : Host.Outcome State Fault Refusal := .next (fSlotApply s)

/-- TIM_ADJ (R227). -/
def execTimAdj (m : Master) (v : Word) (s : State) : Host.Outcome State Fault Refusal := .next (s.gated m .tim 0 0x50 (fTimAdj v))

/-- SLEW_COMPLETE (R227). -/
def execSlewComplete (s : State) : Host.Outcome State Fault Refusal := .next (fSlewDone s)

/-- TIM_RTC_WRITEBACK (R227). -/
def execTimRtcWriteback (s : State) : Host.Outcome State Fault Refusal := .next (fTimWriteback s)

/-- HOLDOVER_EXPIRY (R228). -/
def execHoldoverExpiry (s : State) : Host.Outcome State Fault Refusal := .next (fHoldover s)

/-- PARTNER_CONTEXT_ECC (R358). -/
def execPartnerContextEcc (p : Fin 4096) (s : State) : Host.Outcome State Fault Refusal := .next (fCtxEcc p s)

/-- SIGNER_SLOT_ECC (R358). -/
def execSignerSlotEcc (n : Fin 1024) (s : State) : Host.Outcome State Fault Refusal := .next (fSlotEcc n s)

end Sys2Proof.Machine
end

