-- ==== Sys2Proof/Machine/Sgram.lean ====
section
/-! DEFINITION. SGRAM channels, sealed lines and the command journal (R291-R317). A line is held as its plaintext words in each
copy, with its version in the counter tree; a line that fails R297 holds an uncorrectable word or is named by the command. -/

namespace Sys2Proof.Machine

/-! ### Addressing (R292, R301) -/

/-- Channel and channel line index of a window offset. -/
def sealedCh (o : Nat) : Nat := if o < 0xA0000000 then o / 64 % 4 else 4 + (o - 0xA0000000) / 64 % 4
def sealedIx (o : Nat) : Nat := (if o < 0xA0000000 then o else o - 0xA0000000) / 256
/-- Window offset of a channel's line. -/
def sealedOff (ch i : Nat) : Nat := if ch < 4 then 256 * i + 64 * ch else 0xA0000000 + 256 * i + 64 * (ch - 4)
/-- Place of a copy of a line in the model's memory. -/
def lineAt (ch i : Nat) : Nat := copyBase ch + 64 * i
/-- The other channel of a mirror pair. -/
def mirrorOf (ch : Nat) : Nat := (ch + 4) % 8

/-- MiB of base and size of a region word, and its KIND and MIRROR (R316). -/
def regBase (w : Word) : Nat := fld w 0 13 * 2 ^ 20
def regSize (w : Word) : Nat := fld w 13 13 * 2 ^ 20
def regKind (w : Word) : Nat := fld w 26 2
def regMirror (w : Word) : Bool := bit w 28
/-- A window offset lies in a region. -/
def inRegion (w : Word) (o : Nat) : Bool := decide (regBase w ≤ o) && decide (o < regBase w + regSize w)
/-- The committed regions. -/
def State.regions (s : State) : List Word := (List.range 8).map fun k => s.reg .sgm 0 (0x80 + 4 * k)
/-- An offset lies in the shadow of a mirrored region (R301). -/
def State.inShadow (s : State) (o : Nat) : Bool :=
  s.regions.any fun w => regMirror w && decide (0xA0000000 ≤ o) && inRegion w (o - 0xA0000000)
/-- Whether an offset is covered, and then whether it is mirrored (R301). -/
def State.covered (s : State) (o : Nat) : Option Bool :=
  if s.inShadow o then none else (s.regions.find? fun w => inRegion w o).map regMirror

/-! ### Channels -/

/-- The key set of a channel is zeroised, or a new one comes: its root counters, and with them every version, restart at 0 (R295, R299,
R309). -/
def SgmCh.unkeyed (x : SgmCh) : SgmCh := { x with keyed := false, key := [], root := [], minor := [], major := [] }
/-- One channel. -/
def State.sg (s : State) (c : Nat) : SgmCh := Sparse.get {} s.sgm c
/-- Write and update of a channel. -/
def State.setSg (s : State) (c : Nat) (x : SgmCh) : State := { s with sgm := Sparse.set {} s.sgm c x }
def State.updSg (s : State) (c : Nat) (f : SgmCh → SgmCh) : State := s.setSg c (f (s.sg c))
/-- Every key set is zeroised: at an Erase-level response and at entry into RETURN or SCRAP (R295, R408). -/
def State.sgZero (s : State) : State := { s with sgm := s.sgm.map fun e => (e.1, e.2.unkeyed) }
/-- A channel serves reads, and takes writes (R295, R309). -/
def State.sgReads (s : State) (c : Nat) : Bool := decide ((s.sg c).st = 1) && (s.sg c).keyed
def State.sgWrites (s : State) (c : Nat) : Bool := (decide ((s.sg c).st = 1) || decide ((s.sg c).st = 3)) && (s.sg c).keyed

/-- A channel is fenced (R306): FENCE in the committed value and the shadow, and the partner shows the loss. A survivor lost
during a copy ends it with RESILVER_FAIL, and both are then fenced (R309, R308). -/
def State.sgFence (s : State) (c : Nat) (lost : Bool) : State :=
  let m := mirrorOf c
  let s1 := (s.setFence .sgm c 0x40 0 true).updSg c fun x => { x with st := 2, trained := false, survivor := false, training := false }
  let s2 := if lost then s1.setSticky .sgm c 4 else s1
  let s3 := s2.setSticky .sgm m 5
  if (s3.sg m).st = 3 then
    ((s3.setSticky .sgm m 7).setFence .sgm m 0x40 0 true).updSg m fun x => { x with st := 2, trained := false, survivor := false }
  else if (s3.sg m).st = 1 then s3.updSg m fun x => { x with survivor := true }
  else s3

/-- A line fails R297 on a channel: the sticky bit, FAIL_ADDR, the count, and the fence on 16 lines within 1 ms (R297, R306). -/
def State.lineFail (s : State) (ch o : Nat) : State :=
  let s1 := ((s.setSticky .sgm ch 1).setReg64 .sgm ch 0x50 (sealedBase + o)).count16 .sgm ch 0x4C 0
  let fs := ((s.sg ch).fails.filter fun t => decide (s.wall < t + 1000 * usUnits)) ++ [s.wall]
  let s2 := s1.updSg ch fun x => { x with fails := fs }
  if 16 ≤ fs.length ∧ (s.sg ch).st ≠ 2 then s2.sgFence ch true else s2

/-! ### The counter tree (R299, R300) -/

/-- Key of a MINOR field: the child's level (0 a data line) and index; of a MAJOR field: the node's level and index. -/
def treeKey (level ix : Nat) : Nat := level * 2 ^ 24 + ix
/-- Version of a child at level 0, 1 or 2, or of a level 3 node. -/
def SgmCh.ver (x : SgmCh) (level ix : Nat) : Nat :=
  if level = 3 then Sparse.get 0 x.root ix
  else Sparse.get 0 x.major (treeKey (level + 1) (ix / 64)) * 128 + Sparse.get 0 x.minor (treeKey level ix)
/-- A child's MINOR raised by 1; above 127 its node is first re-sealed under MAJOR + 1. The flag tells of a re-seal. -/
def SgmCh.raise (x : SgmCh) (level ix : Nat) : SgmCh × Bool :=
  let k := treeKey level ix
  let mn := Sparse.get 0 x.minor k
  if mn < 127 then ({ x with minor := Sparse.set 0 x.minor k (mn + 1) }, false)
  else
    let nk := treeKey (level + 1) (ix / 64)
    let cleared := (List.range 64).foldl (fun m j => Sparse.set 0 m (treeKey level (ix / 64 * 64 + j)) 0) x.minor
    ({ x with major := Sparse.upd 0 x.major nk (· + 1), minor := Sparse.set 0 cleared k 1 }, true)
/-- The words of a copy of a line: 16 NONE words where it was never written. -/
def State.lineWords (s : State) (ch i : Nat) : List TWord :=
  if (s.sg ch).ver 0 i = 0 then List.replicate 16 TWord.none else s.words (lineAt ch i) 16
/-- A copy of a line fails R297; one never written is not read from the device (R299). -/
def State.lineBad (s : State) (ch i : Nat) : Bool :=
  decide ((s.sg ch).ver 0 i ≠ 0) && (List.range 16).any fun j => s.isBad (lineAt ch i + 4 * j)
/-- A read of a copy fails R297: by what it holds, or as the row's operand says of the copy that it reads first. -/
def State.readBad (s : State) (ch i : Nat) (faulty : Bool) : Bool := (faulty && decide ((s.sg ch).ver 0 i ≠ 0)) || s.lineBad ch i
/-- Children that fail R297 in a re-seal are written as 16 NONE words (R300). -/
def State.resealBad (s : State) (ch i : Nat) : State :=
  (List.range 64).foldl (fun s j =>
    let l := i / 64 * 64 + j
    if s.lineBad ch l then (s.wipe (lineAt ch l) 64).setSticky .sgm ch 1 else s) s
/-- The version path of a written line, up to the root. -/
def State.raisePath (s : State) (ch i : Nat) : State :=
  let x := s.sg ch
  let (x0, r0) := x.raise 0 i
  let (x1, r1) := x0.raise 1 (i / 64)
  let (x2, r2) := x1.raise 2 (i / 4096)
  let x3 := { x2 with root := Sparse.upd 0 x2.root (i / 262144) (· + 1) }
  let s1 := s.setSg ch x3
  let s2 := if r0 then s1.resealBad ch i else s1
  [r0, r1, r2].foldl (fun s r => if r then s.count16 .sgm ch 0x4C 16 else s) s2
/-- A line written to one copy. -/
def State.copyWrite (s : State) (ch i : Nat) (ws : List TWord) : State := (s.raisePath ch i).putWords (lineAt ch i) ws

/-! ### Lines (R297, R298, R302, R307, R308) -/

/-- A read of a line at a window offset: its words, or `none` for an error response. `faulty`: the copy read first fails R297. -/
def State.lineRead (s : State) (o : Nat) (faulty : Bool) : State × Option (List TWord) :=
  let ch := sealedCh o
  let i := sealedIx o
  let m := mirrorOf ch
  match s.covered o with
  | none => (s, none)
  | some false =>
    if !s.sgReads ch then ((if (s.sg ch).st = 2 then s.setSticky .sgm ch 6 else s), none)
    else if s.readBad ch i faulty then (s.lineFail ch o, none)
    else (s, some (s.lineWords ch i))
  | some true =>
    if s.sgReads ch && !s.readBad ch i faulty then (s, some (s.lineWords ch i))
    else
      let s1 := if s.sgReads ch then s.lineFail ch o else s
      let bad2 := s.readBad m i (faulty && !s.sgReads ch)
      if !s.sgReads m then (s1, none)
      else if bad2 then (s1.lineFail m o, none)
      else
        let ws := s.lineWords m i
        (if s.sgReads ch && s1.sgWrites ch then s1.copyWrite ch i ws else s1, some ws)

/-- A write of a whole line: to every copy that takes writes; `false` for an error response. -/
def State.lineWrite (s : State) (o : Nat) (ws : List TWord) : State × Bool :=
  let ch := sealedCh o
  let i := sealedIx o
  let m := mirrorOf ch
  match s.covered o with
  | none => (s, false)
  | some false =>
    if s.sgWrites ch then (s.copyWrite ch i ws, true) else ((if (s.sg ch).st = 2 then s.setSticky .sgm ch 6 else s), false)
  | some true =>
    let s1 := if s.sgWrites ch then s.copyWrite ch i ws else s
    let s2 := if s.sgWrites m then s1.copyWrite m i ws else s1
    (s2, s.sgWrites ch || s.sgWrites m)

/-- The side of a window offset leaves self-refresh when a request arrives (R305). -/
def State.sgWake (s : State) (east : Bool) : State :=
  let s1 := (List.range 4).foldl (fun s j => s.updSg (if east then 4 + j else j) fun x => { x with selfRef := false }) s
  let d := if east then 31 else 30
  if Sparse.get DomState.off s1.pwr.dom d = DomState.selfRefresh ∨ Sparse.get DomState.off s1.pwr.dom d = DomState.waking then
    { s1 with pwr := { s1.pwr with dom := Sparse.set DomState.off s1.pwr.dom d DomState.on } }
  else s1
/-- A side is in self-refresh. -/
def State.sgAsleep (s : State) (east : Bool) : Bool := (List.range 4).any fun j => (s.sg (if east then 4 + j else j)).selfRef
/-- Wake for a request at a window offset. -/
def State.sgReady (s : State) (o : Nat) : State :=
  let east := decide (4 ≤ sealedCh o)
  if s.sgAsleep east then s.sgWake east else s

/-- Line offsets that an access of n bytes at window offset o touches. -/
def linesOf (o n : Nat) : List Nat := (List.range ((o % 64 + n + 63) / 64)).map fun k => o / 64 * 64 + 64 * k

/-- A read of n bytes at a sealed address: the words that hold them, or `none` for an error response. -/
def State.sealedRead (s : State) (a n : Nat) (faulty : Bool) : State × Option (List TWord) :=
  let o := a - sealedBase
  let s0 := s.sgReady o
  if (linesOf o n).any (fun l => (s0.covered l).isNone) then (s0, none)
  else
    let r := (linesOf o n).foldl (fun (acc : State × Option (List TWord)) l =>
      match acc with
      | (s, none) => (s, none)
      | (s, some ws) =>
        match s.lineRead l faulty with
        | (s1, none) => (s1, none)
        | (s1, some w) => (s1, some (ws ++ w))) (s0, some [])
    (r.1, r.2.map fun ws => (ws.drop (o % 64 / 4)).take ((o % 4 + n + 3) / 4))

/-- A word that a sealed write takes (R296). -/
def sealedWordOk (w : TWord) : Bool := decide (w.tag = Tag.int) || decide (w.tag = Tag.none)
/-- A NONE word is held with data 0 (R296). -/
def sealedWord (w : TWord) : TWord := if w.tag = Tag.int then w else TWord.none

/-- A write of words at a sealed address, with a merge for partial lines; `false` for an error response (R298). -/
def State.sealedWrite (s : State) (a : Nat) (ws : List TWord) : State × Bool :=
  let o := (a - sealedBase) / 4 * 4
  let s0 := s.sgReady o
  if (linesOf o (4 * ws.length)).any (fun l => (s0.covered l).isNone) then (s0, false)
  else (linesOf o (4 * ws.length)).foldl (fun (acc : State × Bool) l =>
    match acc with
    | (s, false) => (s, false)
    | (s, true) =>
      let new : List (Option TWord) := (List.range 16).map fun j => if o ≤ l + 4 * j ∧ l + 4 * j < o + 4 * ws.length then
        some (sealedWord (ws.getD ((l + 4 * j - o) / 4) TWord.none)) else none
      if new.all (·.isSome) then s.lineWrite l (new.map fun w => w.getD TWord.none)
      else
        match s.lineRead l false with
        | (s1, none) => (s1, false)
        | (s1, some old) => s1.lineWrite l (List.zipWith (fun w d => w.getD d) new old)) (s0, true)

/-- SGRAM_READ by a master. -/
def fSgramRead (m : Master) (a n : Nat) (faulty : Bool) (s : State) : State :=
  match s.barred m 0 a n with
  | some t => t.1
  | none =>
    match s.sealedRead a n faulty with
    | (s1, none) => (s1.emit (.errorResponse m)).emit (.readData m [])
    | (s1, some ws) => s1.emit (.readData m ws)

/-- SGRAM_WRITE by a master; a word of another tag refuses the write in full (R296). -/
def fSgramWrite (m : Master) (a : Nat) (data : List TWord) (s : State) : State :=
  match s.barred m 1 a (4 * data.length) with
  | some t => t.1
  | none =>
    if !data.all sealedWordOk then s.targetRefuse m 1 a
    else
      match s.sealedWrite a data with
      | (s1, true) => s1
      | (s1, false) => s1.emit (.errorResponse m)

/-! ### Training, refresh, faults, resilver (R303-R309) -/

/-- SGRAM_TRAINING_DONE: of a channel that trains at power-on or by RETRAIN. -/
def fSgramTrained (c : Nat) (ok : Bool) (s : State) : State :=
  if !(s.sg c).training then s
  else if ok then s.updSg c fun x => { x with training := false, trained := true, st := if x.st = 0 then 1 else x.st }
  else (s.setSticky .sgm c 3).sgFence c false

/-- SGRAM_PERIODIC_RETRAIN of a trained channel. -/
def fSgramRetrained (c : Nat) (ok : Bool) (s : State) : State :=
  if !(s.sg c).trained then s
  else if ok then s.updSg c fun x => { x with lastRetrain := s.wall }
  else s.sgFence c true

/-- SGRAM_REFRESH: a refresh delays free-joint traffic only (R304). -/
def fSgramRefresh (_c : Nat) (s : State) : State := s

/-- SGRAM_EDC_FAIL: 4 retries counted, then the fence. -/
def fSgramEdc (c : Nat) (s : State) : State :=
  let s1 := (List.range 4).foldl (fun s _ => s.count16 .sgm c 0x48 16) s
  (s1.setSticky .sgm c 2).sgFence c true

/-- SGRAM_RETRAIN_START. -/
def fSgramRetrain (c : Nat) (v : Word) (s : State) : State :=
  if !bit v 0 then s
  else if (s.sg c).st = 0 ∨ (s.sg c).st = 2 then s.updSg c fun x => { x with training := true }
  else s.reject .sgm c 0x44 v

/-- Lines of a channel that have been written: their version is not 0. -/
def SgmCh.written (x : SgmCh) : List Nat :=
  let a := x.minor.filterMap fun e => if e.1 < 2 ^ 24 ∧ e.2 ≠ 0 then some e.1 else none
  let b := x.major.flatMap fun e =>
    if 2 ^ 24 ≤ e.1 ∧ e.1 < 2 * 2 ^ 24 ∧ e.2 ≠ 0 then (List.range 64).map fun j => (e.1 - 2 ^ 24) * 64 + j else []
  (a ++ b).eraseDups

/-- RESILVER_DONE: every mirrored line copied from the survivor, or the survivor's failure (R309). -/
def fResilver (c : Nat) (ok : Bool) (s : State) : State :=
  if (s.sg c).st ≠ 3 then s
  else
    let m := mirrorOf c
    if ok && s.sgReads m then
      let west := if c < 4 then c else m
      let s1 := ((s.sg m).written.filter fun i => s.covered (sealedOff west i) = some true).foldl
        (fun s i => s.copyWrite c i (s.lineWords m i)) s
      let s2 := s1.updSg c fun x => { x with st := 1, resilver := 0 }
      (s2.updSg m fun x => { x with survivor := false }).updReg .sgm m 0x010 fun w => w &&& ~~~0x20
    else s.sgFence m true

/-! ### The journal (R310-R317) -/

/-- Journal ring slot of a course in its shared memory (R310). -/
def jslotAt (c k : Nat) : Nat := sharedBase c + 0x70000 + 256 * k
/-- Local address of a slot, as the launch record gives it. -/
def jslotLocal (k : Nat) : Word := w32 (0x90000 + 256 * k)
/-- One slot's record. -/
def State.jslot (s : State) (c k : Nat) : JSlot := Sparse.get {} s.jnl.slots (256 * c + k)
/-- Write of a slot's record. -/
def State.setJslot (s : State) (c k : Nat) (x : JSlot) : State :=
  { s with jnl := { s.jnl with slots := Sparse.set {} s.jnl.slots (256 * c + k) x } }
/-- Free slots of a course ring. -/
def State.freeSlots (s : State) (c : Nat) : List Nat := (List.range 256).filter fun k => decide ((s.jslot c k).st = 0)
/-- Assignment of a free slot; which one is open (log entry 1). -/
def State.takeSlot (s : State) (c fn : Nat) : State × Option Nat :=
  match s.freeSlots c with
  | [] => (s, none)
  | l =>
    let k := l.getD (s.freeW.toNat % l.length) 0
    (s.draw.setJslot c k { st := 1, fn := fn }, some k)
/-- A lost record (R51, R310). -/
def State.jnlLose (s : State) : State := (s.count16 .jnl 0 0xC4 0).setSticky .jnl 0 3

/-- The unexported backlog fills the ring (R313). -/
def State.jnlFull (s : State) : Bool := decide (4194304 ≤ s.jnl.next - s.jnl.exported)
/-- STS.FULL: stopped by R313. -/
def State.jnlStopped (s : State) : Bool := s.jnlFull && !bit (s.reg .jnl 0 0x40) 0
/-- The oldest flushable slot by END stroke, then course; none is read before L + T + 2, which is END + 3 (R312, R347). -/
def State.jnlOldest (s : State) : Option Nat :=
  (takeOldest (fun e : Nat × JSlot => e.2.endAt * 4096 + e.1) (fun e => decide (e.2.st = 2) && decide (e.2.endAt + 3 ≤ s.stroke)) s.jnl.slots).map fun r => r.1.1

/-- CHAIN of the next record: GENESIS for record 0, else SHA-384 of the last flushed record (R312). -/
def State.jnlChain (s : State) : List Byte :=
  if s.jnl.next = 0 then (List.range 12).flatMap fun k => leBytes 4 (Sparse.get 0 s.jnl.genesis k).toNat
  else s.regBytes .jnl 0 0x90 12

/-- The record of a slot as stored: RECNO and CHAIN set, an uncorrectable word 0 (R312, R358). -/
def State.jnlRecord (s : State) (key : Nat) : List Byte :=
  let a := jslotAt (key / 256) (key % 256)
  let raw := (List.range 64).flatMap fun j => if s.isBad (a + 4 * j) then zeros 4 else s.bytes (a + 4 * j) 4
  leBytes 8 s.jnl.next ++ (raw.drop 8).take 0xB8 ++ s.jnlChain ++ raw.drop 0xF0

/-- The record's 4 lines written to the ring (R312). -/
def State.jnlWrite (s : State) (bs : List Byte) : State :=
  let a := s.reg64 .jnl 0 0x44 + 256 * (s.jnl.next % 4194304)
  match s.barred .journal 1 a 256 with
  | some t => { t.1 with jnl := { t.1.jnl with wrote := false } }
  | none =>
    let (s1, ok) := s.sealedWrite a ((toWords bs).map TWord.int)
    { s1 with jnl := { s1.jnl with wrote := ok } }

/-- Overwrite of the oldest record (R313). -/
def State.jnlOverwrite (s : State) : State :=
  if s.jnlFull then ({ s with jnl := { s.jnl with exported := s.jnl.next - 4194303 } }).setSticky .jnl 0 4 else s

/-- JOURNAL_FLUSH of the oldest flushable slot (R312, R313). -/
def fJnlFlush (s : State) : State :=
  if !s.enabled .jnl 0 || s.jnl.flushing.isSome || s.jnlStopped then s
  else
    match s.jnlOldest with
    | none => s
    | some key =>
      let s0 := s.jnlOverwrite
      let a := jslotAt (key / 256) (key % 256)
      let s1 := if (List.range 64).any (fun j => s0.isBad (a + 4 * j)) then s0.setSticky .jnl 0 1 else s0
      let bs := s1.jnlRecord key
      ({ s1 with jnl := { s1.jnl with flushing := some key, rec_ := bs, retry := none } }).jnlWrite bs

/-- JOURNAL_FLUSH_ACK: NEXT and HEAD advance and the slot is freed, or an error response starts the retries (R312, R314). -/
def fJnlAck (ok : Bool) (s : State) : State :=
  match s.jnl.flushing, s.jnl.retry with
  | some key, none =>
    if ok && s.jnl.wrote then
      let s1 := s.setRegs .jnl 0 0x90 (toWords (sha384 s.jnl.rec_))
      { s1 with jnl := { s1.jnl with slots := Sparse.set {} s1.jnl.slots key {}, flushing := none, rec_ := [], wrote := false
                                     next := s1.jnl.next + 1 } }
    else ({ s with jnl := { s.jnl with retry := some (s.wall + 1000 * usUnits) } }).setSticky .jnl 0 2
  | _, _ => s

/-- JOURNAL_FLUSH_RETRY, 1 ms after the error (R314). -/
def fJnlRetry (s : State) : State :=
  match s.jnl.flushing, s.jnl.retry with
  | some _, some t => if s.wall < t then s else ({ s with jnl := { s.jnl with retry := none } }).jnlWrite s.jnl.rec_
  | _, _ => s

/-- EXPORTED_WRITE: a write of EXPORTED_HI with the LO last written (R313, R317). -/
def fExported (v : Word) (s : State) : State :=
  let new := (s.reg .jnl 0 0x88).toNat + 2 ^ 32 * v.toNat
  if new < s.jnl.exported ∨ s.jnl.next < new then s.reject .jnl 0 0x8C v
  else { s with jnl := { s.jnl with exported := new } }

/-- RING_BASE is the base of a mirrored journal region of 1,024 MiB (R317). -/
def State.ringBaseOk (s : State) : Bool :=
  s.regions.any fun w => decide (regKind w = 1) && regMirror w && decide (fld w 13 13 = 1024) &&
    decide (s.reg64 .jnl 0 0x44 = sealedBase + regBase w)

/-- JNL_ENABLE_WRITE: JNL.CTL.ENABLE (R317). -/
def fJnlEnable (v : Word) (s : State) : State :=
  if bit v 0 && !s.ringBaseOk then s.reject .jnl 0 0x008 v else s.setRegBit .jnl 0 0x008 0 (bit v 0)

/-! ### The rows -/

/-- SGRAM_READ (R297). -/
def execSgramRead (m : Master) (addr : Nat) (size : Nat) (faulty : Bool) (s : State) : Host.Outcome State Fault Refusal := .next (fSgramRead m addr size faulty s)

/-- SGRAM_WRITE (R298). -/
def execSgramWrite (m : Master) (addr : Nat) (data : List TWord) (s : State) : Host.Outcome State Fault Refusal := .next (fSgramWrite m addr data s)

/-- SGRAM_TRAINING_DONE (R303). -/
def execSgramTrainingDone (c : Fin 8) (ok : Bool) (s : State) : Host.Outcome State Fault Refusal := .next (fSgramTrained c ok s)

/-- SGRAM_PERIODIC_RETRAIN (R304). -/
def execSgramPeriodicRetrain (c : Fin 8) (ok : Bool) (s : State) : Host.Outcome State Fault Refusal := .next (fSgramRetrained c ok s)

/-- SGRAM_REFRESH (R304). -/
def execSgramRefresh (c : Fin 8) (s : State) : Host.Outcome State Fault Refusal := .next (fSgramRefresh c s)

/-- SGRAM_SELF_REFRESH_EXIT (R305). -/
def execSgramSelfRefreshExit (east : Bool) (s : State) : Host.Outcome State Fault Refusal := .next (if s.sgAsleep east then s.sgWake east else s)

/-- SGRAM_EDC_FAIL (R306). -/
def execSgramEdcFail (c : Fin 8) (s : State) : Host.Outcome State Fault Refusal := .next (fSgramEdc c s)

/-- SGRAM_DEVICE_TIMEOUT (R306). -/
def execSgramDeviceTimeout (c : Fin 8) (s : State) : Host.Outcome State Fault Refusal := .next (s.sgFence c true)

/-- SGRAM_RETRAIN_START (R316). -/
def execSgramRetrainStart (m : Master) (c : Fin 8) (v : Word) (s : State) : Host.Outcome State Fault Refusal := .next (s.gated m .sgm c 0x44 (fSgramRetrain c v))

/-- RESILVER_DONE (R309). -/
def execResilverDone (c : Fin 8) (ok : Bool) (s : State) : Host.Outcome State Fault Refusal := .next (fResilver c ok s)

/-- JOURNAL_FLUSH (R312). -/
def execJournalFlush (s : State) : Host.Outcome State Fault Refusal := .next (fJnlFlush s)

/-- JOURNAL_FLUSH_ACK (R312). -/
def execJournalFlushAck (ok : Bool) (s : State) : Host.Outcome State Fault Refusal := .next (fJnlAck ok s)

/-- JOURNAL_FLUSH_RETRY (R314). -/
def execJournalFlushRetry (s : State) : Host.Outcome State Fault Refusal := .next (fJnlRetry s)

/-- EXPORTED_WRITE (R313). -/
def execExportedWrite (m : Master) (v : Word) (s : State) : Host.Outcome State Fault Refusal := .next (s.gated m .jnl 0 0x8C (fExported v))

end Sys2Proof.Machine
end

