-- ==== Sys2Proof/Machine/HostQueue.lean ====
section
/-! DEFINITION. PCI Express functions and their queue pairs (R319-R330, R335-R337, R341): rings, doorbells, fetches, completions,
completion interrupts, and what brings a function to Quiet or SETTLED. -/

namespace Sys2Proof.Machine

/-! ### Functions and queue pairs -/

/-- A function. -/
def State.fn (s : State) (f : Nat) : Fn := Sparse.get {} s.pci.fn f
/-- Write and update of a function. -/
def State.setFn (s : State) (f : Nat) (x : Fn) : State := { s with pci := { s.pci with fn := Sparse.set {} s.pci.fn f x } }
def State.updFn (s : State) (f : Nat) (g : Fn → Fn) : State := s.setFn f (g (s.fn f))
/-- A queue pair. -/
def State.qpr (s : State) (f q : Nat) : Qp := Sparse.get {} s.pci.qp (64 * f + q)
/-- Write and update of a queue pair. -/
def State.setQp (s : State) (f q : Nat) (x : Qp) : State := { s with pci := { s.pci with qp := Sparse.set {} s.pci.qp (64 * f + q) x } }
def State.updQp (s : State) (f q : Nat) (g : Qp → Qp) : State := s.setQp f q (g (s.qpr f q))

/-- A word of the configuration entry (R323). -/
def Qp.w (x : Qp) (i : Nat) : Word := Sparse.get 0 x.cfg i
/-- EN and IE, ring sizes, the upward slot size, the vector and the COAL fields (R323). -/
def Qp.en (x : Qp) : Bool := bit (x.w 6) 12
def Qp.ie (x : Qp) : Bool := bit (x.w 6) 13
def Qp.sqSize (x : Qp) : Nat := 2 ^ fld (x.w 6) 0 4
def Qp.cqSize (x : Qp) : Nat := 2 ^ fld (x.w 6) 4 4
def Qp.upLog (x : Qp) : Nat := fld (x.w 6) 8 4
def Qp.vec (x : Qp) : Nat := fld (x.w 6) 16 7
def Qp.coalN (x : Qp) : Nat := fld (x.w 7) 0 8
def Qp.coalUs (x : Qp) : Nat := fld (x.w 7) 8 16
def Qp.upBase (x : Qp) : Nat := (x.w 4).toNat + 2 ^ 32 * (x.w 5).toNat
def Qp.cqBase (x : Qp) : Nat := (x.w 2).toNat + 2 ^ 32 * (x.w 3).toNat
/-- Clearing EN: fetching stops at once, and what is or will be completed of commands already fetched is discarded (R323). -/
def Qp.off (x : Qp) : Qp := { x with cfg := Sparse.set 0 x.cfg 6 (putBit (x.w 6) 12 false), desc := none, cpls := [], era := x.era + 1 }
/-- A queue pair whose configuration and state are cleared (R320); of its commands still in flight no completion is written (R323). -/
def Qp.gone (x : Qp) : Qp := { era := x.era + 1 }
/-- The completion ring has a free entry not already reserved (R326). -/
def Qp.cqFree (x : Qp) : Bool := decide (x.cqUsed + x.reserved < x.cqSize)

/-- Unflushed journal records of a function (R334, R343 JHELD). -/
def State.jheld (s : State) (f : Nat) : Nat := (s.jnl.slots.filter fun e => decide (e.2.st ≠ 0) && decide (e.2.fn = 1 + f)).length

/-- No command in flight, no descriptor being read and every completion posted (R335, R337). -/
def State.fnIdle (s : State) (f : Nat) : Bool :=
  decide ((s.fn f).inflight = 0) && s.pci.qp.all fun e => decide (e.1 / 64 ≠ f) || (e.2.cpls.isEmpty && e.2.desc.isNone)

/-- After a link down the conventional reset clears VF Enable and disables every queue pair once every function is Quiet (R336). -/
def State.crsEnd (s : State) : State :=
  if s.pci.crs && s.pci.fn.all fun e => decide (e.2.st = .quiet) then
    let qp := s.pci.qp.map fun e => (e.1, e.2.gone)
    { s with pci := { s.pci with crs := false, vfEnable := false, numVfs := 0, qp := qp } }
  else s

/-- A Draining function that is idle becomes Quiet; a Frozen one becomes SETTLED, which clears ACK (R335, R337, R343). -/
def State.settle (s : State) (f : Nat) : State :=
  let x := s.fn f
  if !s.fnIdle f then s
  else match x.st with
    | .draining => (s.setFn f { x with st := .quiet }).crsEnd
    | .frozen => if x.settled then s else s.setFn f { x with settled := true, ack := false }
    | _ => s

/-- Signalling of a function-local vector (R341). -/
def State.signalFn (s : State) (f vec : Nat) : State :=
  let x := s.fn f
  if vec < x.vecCount then s.signal (x.vecBase + vec) else s.setSticky .pci 0 5

/-! ### Completions (R328, R329) -/

/-- A completion entry; SQ_HEAD and PHASE are filled in when it is written. -/
def cplBytes (cid kind code len tag stroke : Nat) : List Byte :=
  leBytes 4 cid ++ zeros 2 ++ leBytes 1 kind ++ zeros 1 ++ leBytes 1 code ++ zeros 3 ++ leBytes 4 len ++ leBytes 8 tag ++ leBytes 8 stroke

/-- The function of a queue entry's source (R39, R311 SOURCE). -/
def QEntry.fn (e : QEntry) : Option Nat := if 256 ≤ e.src then some (e.src - 256) else none

/-- One command of a function is no longer in flight. -/
def State.fnDown (s : State) (f : Nat) : State := (s.updFn f fun x => { x with inflight := x.inflight - 1 }).settle f

/-- A completion entry for a reserved place: discarded where the queue pair has been disabled, discarded and counted where it
cannot be written (R323, R336). -/
def State.pushCpl (s : State) (f q era : Nat) (c : Cpl) : State :=
  let x := s.qpr f q
  if !x.en || x.era ≠ era then s
  else if !s.pci.dlUp then (s.setQp f q { x with reserved := x.reserved - 1 }).count16 .pci 0 0x4C 0
  else s.setQp f q { x with cpls := x.cpls ++ [c] }

/-- The verdict of a VF or PF submission goes to its completion ring, and the command is no longer in flight (R329). -/
def State.verdict (s : State) (e : QEntry) (code vstroke at_ : Nat) : State :=
  match e.fn with
  | none => s
  | some f => (s.pushCpl f e.qp e.era { bytes := cplBytes e.cid 1 code 0 e.tag vstroke, tag := e.tag, at_ := at_ }).fnDown f

/-- A DESC_ERROR completion (R327). -/
def State.descError (s : State) (f q cid code : Nat) : State :=
  s.pushCpl f q (s.qpr f q).era { bytes := cplBytes cid 2 code 0 0 0, at_ := s.stroke }

/-- An upward envelope for a function goes to queue pair 0, or is dropped on the source port's page (R330). -/
def State.upward (s : State) (f : Nat) (env : List Byte) (tag stroke : Nat) (drop : State → State) : State :=
  let x := s.qpr f 0
  if (s.fn f).st = .active ∧ x.en ∧ x.upBase ≠ 0 ∧ env.length ≤ 2 ^ x.upLog ∧ x.cqFree ∧ s.pci.dlUp then
    s.setQp f 0 { x with reserved := x.reserved + 1
                         cpls := x.cpls ++ [{ bytes := cplBytes 0 3 0 env.length tag stroke, up := env, tag := tag, at_ := s.stroke }] }
  else drop s

/-- The completion interrupt of a queue pair: COAL entries unsignalled (R341). -/
def State.coalesce (s : State) (f q : Nat) (force : Bool) : State :=
  let x := s.qpr f q
  if x.ie && decide (0 < x.unsig) && (force || decide (x.coalN ≤ x.unsig)) then
    (s.setQp f q { x with unsig := 0 }).signalFn f x.vec
  else s

/-- COMPLETION_POST: the next entry whose time has come is written, with its upward envelope before it and its interrupt after it
(R329, R330). -/
def fCplPost (f q : Nat) (s : State) : State :=
  let x := s.qpr f q
  match x.cpls with
  | [] => s
  | c :: rest =>
    if s.stroke < c.at_ then s
    else if !s.pci.dlUp then
      ((s.setQp f q { x with cpls := rest, reserved := x.reserved - 1 }).count16 .pci 0 0x4C 0).settle f
    else
      let bs := c.bytes.take 4 ++ leBytes 2 x.sqHead ++ (c.bytes.drop 6).take 1 ++ [if x.phase then 1 else 0] ++ c.bytes.drop 8
      let s1 := if c.up.isEmpty then s else s.emit (.hostWrite f (x.upBase + x.cqTail * 2 ^ x.upLog) c.up)
      let wrap := decide (x.cqTail + 1 = x.cqSize)
      let s2 := (s1.setQp f q { x with
        cpls := rest, reserved := x.reserved - 1, cqUsed := x.cqUsed + 1, cqTail := if wrap then 0 else x.cqTail + 1
        phase := if wrap then !x.phase else x.phase, unsig := x.unsig + 1
        unsigAt := if x.unsig = 0 then s.wall else x.unsigAt }).emit (.hostWrite f (x.cqBase + 32 * x.cqTail) bs)
      (s2.coalesce f q false).settle f

/-- COAL_TIMER_EXPIRY: the coalescing time has passed since the oldest unsignalled entry (R341). -/
def fCoal (f q : Nat) (s : State) : State :=
  let x := s.qpr f q
  if x.coalUs ≠ 0 ∧ x.unsigAt + x.coalUs * usUnits ≤ s.wall then s.coalesce f q true else s

/-! ### Configuration and doorbells (R323, R324) -/

/-- The fields of a configuration entry are in range for EN (R323). -/
def Qp.cfgOk (x : Qp) : Bool :=
  let logOk (n : Nat) : Bool := decide (4 ≤ n) && decide (n ≤ 12)
  decide ((x.w 0).toNat % 4096 = 0) && decide ((x.w 2).toNat % 4096 = 0) && decide ((x.w 4).toNat % 4096 = 0) &&
    logOk (fld (x.w 6) 0 4) && logOk (fld (x.w 6) 4 4) && decide (8 ≤ x.upLog) && decide (x.upLog ≤ 14) &&
    decide (1 ≤ x.coalN) && decide (fld (x.w 6) 23 9 = 0) && decide (fld (x.w 7) 24 8 = 0)

/-- QP_CONFIG_WRITE of word i (R323). -/
def fQpConfig (f q i : Nat) (v : Word) (s : State) : State :=
  let x := s.qpr f q
  let y : Qp := { x with cfg := Sparse.set 0 x.cfg i v }
  if x.en then
    if i = 6 ∧ !bit v 12 then (s.setQp f q y.off).settle f else s.setSticky .vfm 0 0
  else if i = 6 ∧ bit v 12 then
    if y.cfgOk && decide (q < (s.fn f).qp) then
      s.setQp f q { y with sqHead := 0, sqTail := 0, cqTail := 0, cqHead := 0, cqUsed := 0, reserved := 0, phase := true, cpls := []
                           desc := none, unsig := 0 }
    else s.setSticky .vfm 0 0
  else s.setQp f q y

/-- SQ_TAIL_DOORBELL (R324). -/
def fSqTail (f q : Nat) (v : Word) (s : State) : State :=
  let x := s.qpr f q
  if !x.en then s
  else if x.sqSize ≤ v.toNat then s.setSticky .vfm 0 0
  else s.setQp f q { x with sqTail := v.toNat }

/-- CQ_HEAD_DOORBELL: a value in the span the device has written frees the entries before it (R324). -/
def fCqHead (f q : Nat) (v : Word) (s : State) : State :=
  let x := s.qpr f q
  let d := (v.toNat + x.cqSize - x.cqHead) % x.cqSize
  if !x.en then s
  else if x.cqSize ≤ v.toNat ∨ x.cqUsed < d then s.setSticky .vfm 0 0
  else s.setQp f q { x with cqHead := v.toNat, cqUsed := x.cqUsed - d }

/-! ### Fetches (R326, R327) -/

/-- A queue pair that the device fetches from now (R326). -/
def State.fetchable (s : State) (k : Nat) : Bool :=
  let f := k / 64
  let x := s.qpr f (k % 64)
  decide ((s.fn f).st = .active) && decide (k % 64 < (s.fn f).qp) && x.en && decide (s.svc ≠ 0) && s.pwr.warn.isNone &&
    decide (x.sqHead ≠ x.sqTail) && x.cqFree && decide (s.jheld f < (s.fn f).jquota)

/-- The queue pair next in the round robin (R326). -/
def State.nextFetch (s : State) : Option Nat :=
  let ks := (s.pci.qp.map (·.1)).filter s.fetchable
  match ks.filter (s.pci.robin ≤ ·) with
  | k :: r => some (r.foldl min k)
  | [] => match ks with
    | k :: r => some (r.foldl min k)
    | [] => none

/-- DESCRIPTOR_FETCH: one descriptor at a time, and one completion entry reserved (R326). -/
def fDescFetch (f q : Nat) (desc : List Byte) (s : State) : State :=
  if s.nextFetch = some (64 * f + q) && s.pci.qp.all fun e => e.2.desc.isNone then
    let s1 := s.updQp f q fun x => { x with desc := some (fixLen 128 desc), reserved := x.reserved + 1 }
    { s1 with pci := { s1.pci with robin := 64 * f + q + 1 } }
  else s

/-- The code of R327 that refuses a descriptor, if any. -/
def descCode (d : List Byte) (e : ReadEnd) : Option Nat :=
  let op := (d.getD 0 0).toNat
  let len := leNat ((d.drop 2).take 2)
  let addr := leNat ((d.drop 8).take 8)
  if (op ≠ 1 ∧ op ≠ 2) ∨ d.getD 1 0 ≠ 0 then some 1
  else if len < 64 ∨ (op = 1 ∧ 16384 < len) ∨ (op = 2 ∧ 112 < len) ∨ (op = 1 ∧ addr % 4 ≠ 0) then some 2
  else if op = 1 ∧ e = .failed then some 3
  else none

/-- ENVELOPE_READ_DONE: the envelope goes to the classifier with the stroke and secure time of its last byte, or the descriptor is
refused (R326, R327, R39). -/
def fEnvRead (f q : Nat) (e : ReadEnd) (bytes : List Byte) (s : State) : State :=
  let x := s.qpr f q
  match x.desc with
  | none => s
  | some d =>
    let cid := leNat ((d.drop 4).take 4)
    let len := leNat ((d.drop 2).take 2)
    let s1 := s.setQp f q { x with desc := none, sqHead := if x.sqHead + 1 = x.sqSize then 0 else x.sqHead + 1 }
    match descCode d e with
    | some code =>
      let s2 := if code = 3 then (s1.setSticky .pci 0 3).count16 .pci 0 0x4C 16 else s1
      (s2.descError f q cid code).settle f
    | none =>
      let env := if d.getD 0 0 = 1 then fixLen len bytes else (d.drop 16).take len
      let s2 := s1.updFn f fun y => { y with inflight := y.inflight + 1 }
      { s2 with ingress := s2.ingress ++ [{ cls := 0, tag := 0, src := 256 + f, qp := q, cid := cid, era := x.era, stroke := s.stroke,
                                            time := s.secNow, valid := s.tim.valid, env := env }] }

/-- MSIX_VECTOR_UNMASK: pending vectors of the function that are no longer masked signal (R341). -/
def fMsixUnmask (f vec : Nat) (whole : Bool) (s : State) : State :=
  let x := s.fn f
  let y : Fn := if whole then { x with maskAll := false } else { x with unmasked := vec :: x.unmasked.erase vec }
  let go := y.pba.filter fun v => decide (v < y.vecCount) && !y.maskAll && y.unmasked.contains v
  go.foldl (fun s v => s.emit (.msix (y.vecBase + v))) (s.setFn f { y with pba := y.pba.filter fun v => !go.contains v })

/-! ### The rows -/

/-- QP_CONFIG_WRITE (R323). -/
def execQpConfigWrite (f : Fin 128) (q : Fin 64) (i : Fin 8) (v : Word) (s : State) : Host.Outcome State Fault Refusal := .next (fQpConfig f q i v s)

/-- SQ_TAIL_DOORBELL (R324). -/
def execSqTailDoorbell (f : Fin 128) (q : Fin 64) (v : Word) (s : State) : Host.Outcome State Fault Refusal := .next (fSqTail f q v s)

/-- CQ_HEAD_DOORBELL (R324). -/
def execCqHeadDoorbell (f : Fin 128) (q : Fin 64) (v : Word) (s : State) : Host.Outcome State Fault Refusal := .next (fCqHead f q v s)

/-- DESCRIPTOR_FETCH (R326). -/
def execDescriptorFetch (f : Fin 128) (q : Fin 64) (desc : List Byte) (s : State) : Host.Outcome State Fault Refusal := .next (fDescFetch f q desc s)

/-- ENVELOPE_READ_DONE (R327). -/
def execEnvelopeReadDone (f : Fin 128) (q : Fin 64) (e : ReadEnd) (bytes : List Byte) (s : State) : Host.Outcome State Fault Refusal := .next (fEnvRead f q e bytes s)

/-- COMPLETION_POST (R329). -/
def execCompletionPost (f : Fin 128) (q : Fin 64) (s : State) : Host.Outcome State Fault Refusal := .next (fCplPost f q s)

/-- COAL_TIMER_EXPIRY (R341). -/
def execCoalTimerExpiry (f : Fin 128) (q : Fin 64) (s : State) : Host.Outcome State Fault Refusal := .next (fCoal f q s)

/-- MSIX_VECTOR_UNMASK (R341). -/
def execMsixVectorUnmask (f : Fin 128) (vec : Fin 128) (whole : Bool) (s : State) : Host.Outcome State Fault Refusal := .next (fMsixUnmask f vec whole s)

end Sys2Proof.Machine
end

