-- ==== Sys2Proof/Machine/PortOps.lean ====
section
/-! DEFINITION. Ports as the command path sees them (R50-R53, R267-R288): port records, pairs, sessions, egress queues and drops. -/

namespace Sys2Proof.Machine

/-- An Ethernet port and a field serial port. -/
def State.ethP (s : State) (n : Nat) : Eth := Sparse.get {} s.eth n
def State.setEth (s : State) (n : Nat) (x : Eth) : State := { s with eth := Sparse.set {} s.eth n x }
def State.updEth (s : State) (n : Nat) (f : Eth → Eth) : State := s.setEth n (f (s.ethP n))
def State.fsP (s : State) (k : Nat) : Fsp := Sparse.get {} s.fsp k
def State.setFs (s : State) (k : Nat) (x : Fsp) : State := { s with fsp := Sparse.set {} s.fsp k x }
def State.updFs (s : State) (k : Nat) (f : Fsp → Fsp) : State := s.setFs k (f (s.fsP k))

/-- Pair mode is set (R360). -/
def State.pairSet (s : State) : Bool := bit (s.reg .sys 0 0x48) 0
/-- Field drivers are released and sessions OFF: pair mode on a device that is not ACTIVE (R361, R363). -/
def State.fieldOff (s : State) : Bool := s.pairSet && decide (s.pairM.role ≠ 1)
/-- E_7 is the sister link (R268). -/
def State.sisterPort (s : State) (n : Nat) : Bool := decide (n = 7) && s.pairSet

/-- MODE.PAIR that governs a port: 0 independent, 1 PRP, 2 HSR (R274). -/
def State.ethPair (s : State) (n : Nat) : Nat := if n < 8 then 0 else fld (s.reg .eth (n - n % 2) 0x40) 4 2
/-- The port whose page holds the settings: the even one of a pair (R274). -/
def State.ethMain (s : State) (n : Nat) : Nat := if s.ethPair n = 0 then n else n - n % 2
/-- The ports a frame of port n goes out on. -/
def State.ethOuts (s : State) (n : Nat) : List Nat :=
  if s.ethPair n = 0 then [n] else [s.ethMain n, s.ethMain n + 1]
/-- The port, or one port of its pair, has link (R285). -/
def State.ethLinked (s : State) (n : Nat) : Bool := (s.ethOuts n).any fun k => (s.ethP k).link
/-- The port can send: enabled, with link, and no sister link. -/
def State.ethReady (s : State) (n : Nat) : Bool :=
  s.enabled .eth (s.ethMain n) && s.ethLinked n && !s.sisterPort n

/-! ### Sessions (R277) -/

/-- A session entry of a port or pair. -/
def Eth.ses (x : Eth) (n : Nat) : Sess := Sparse.get {} x.sess n
/-- Write of a session entry. -/
def State.setSes (s : State) (p n : Nat) (x : Sess) : State := s.updEth p fun e => { e with sess := Sparse.set {} e.sess n x }
/-- EN, KIND, partner and remote port of a session entry (R289). -/
def Sess.en (x : Sess) : Bool := bit x.data1 29
def Sess.iec (x : Sess) : Bool := bit x.data1 28
def Sess.partner (x : Sess) : Nat := fld x.data1 16 12
def Sess.rport (x : Sess) : Nat := fld x.data1 0 16
/-- The enabled session of a partner on a port. -/
def State.sesOf (s : State) (p partner : Nat) : Option Nat :=
  ((s.ethP (s.ethMain p)).sess.find? fun e => e.2.en && decide (e.2.partner = partner)).map (·.1)

/-! ### Egress queues and drops (R50, R285) -/

/-- Frames of a port's egress queue. -/
def State.egq (s : State) (port : Nat) : List Egress := Sparse.get [] s.egress port
/-- Write of a port's egress queue. -/
def State.setEgq (s : State) (port : Nat) (l : List Egress) : State := { s with egress := Sparse.set [] s.egress port l }

/-- Bank of a field serial port, and the offset of a register of its block (R290). -/
def fsReg (k o : Nat) : Nat := 0x100 + 64 * (k % 16) + o
/-- A register of a field serial port's block. -/
def State.fsR (s : State) (k o : Nat) : Word := s.reg .fsp (k / 16) (fsReg k o)
/-- A PSTKY bit sets; STKY[2] of the bank sets with it while the bit is enabled (R290). -/
def State.fsSticky (s : State) (k b : Nat) : State :=
  let s1 := s.setRegBit .fsp (k / 16) (fsReg k 0x1C) b true
  if bit (s.fsR k 0x20) b then s1.setSticky .fsp (k / 16) 2 else s1

/-- The drop record of a frame that is not sent (R285). -/
def State.egressDrop (s : State) (port tag : Nat) : State :=
  if port < 64 then ((s.setReg64 .eth port 0xE4 tag).count16 .eth port 0xEC 0).setSticky .eth port 6
  else
    let k := port - 64
    ((s.setReg64 .fsp (k / 16) (fsReg k 0x24) tag).count16 .fsp (k / 16) (fsReg k 0x2C) 0).fsSticky k 7

/-- The protocol of a partner's context (R219). -/
def State.protoOf (s : State) (p : Nat) : Nat := (s.ctx p).cfgNat 0x2C6 1
/-- The partner is served through a session (R277). -/
def State.bySession (s : State) (p : Nat) : Bool := decide (s.protoOf p = 3) || decide (s.protoOf p = 5)

/-- A port takes a released frame: enabled, with link, and the partner's session OPEN (R278, R285). -/
def State.portTakes (s : State) (port : Nat) (e : Egress) : Bool :=
  if 64 ≤ port then bit (s.fsR (port - 64) 0) 0
  else s.ethReady port && (!s.bySession e.partner ||
    match s.sesOf port e.partner with
    | some n => decide (((s.ethP (s.ethMain port)).ses n).st = 3)
    | none => false)

/-- Released frames of a port that satisfy a test are dropped (R285). -/
def State.dropFrames (s : State) (port : Nat) (p : Egress → Bool) : State :=
  let gone := (s.egq port).filter fun e => e.released && p e
  let s1 := s.setEgq port ((s.egq port).filter fun e => !(e.released && p e))
  gone.foldl (fun s e => s.egressDrop port e.tag) s1

/-- Place of a released frame in its queue: by the stroke of its release, in one stroke by course and pair (R285). -/
def Egress.rank (e : Egress) : Nat := e.at_ * 128 + e.course * 8 + e.pair
/-- The oldest released frame of a port. -/
def State.egHead (s : State) (port : Nat) : Option Egress :=
  match (s.egq port).filter (·.released) with
  | [] => none
  | x :: r => some (r.foldl (fun a b => if b.rank < a.rank then b else a) x)
/-- A frame's entry is freed when its last bit has left the pins, and its tag is no longer kept (R53, R285). -/
def State.egFree (s : State) (port : Nat) (e : Egress) : State :=
  let s1 := s.setEgq port ((s.egq port).erase e)
  { s1 with released := s1.released.filter (· ≠ e.tag) }

end Sys2Proof.Machine
end

