-- ==== Sys2Proof/Machine/Course.lean ====
section
/-! DEFINITION. The command path and the Cox (R39-R59, R105-R143, R310-R311, R344-R359): classification, launches, the end and the
abort of heats, re-issues, egress release, fences and tests of tile pairs and courses, frame table and reservation registers. -/

namespace Sys2Proof.Machine

/-! ### Courses, plans and tables -/

/-- A Cox. -/
def State.cx (s : State) (c : Nat) : Cox := Sparse.get {} s.cox c
/-- Write and update of a Cox. -/
def State.setCx (s : State) (c : Nat) (x : Cox) : State := { s with cox := Sparse.set {} s.cox c x }
def State.updCx (s : State) (c : Nat) (f : Cox → Cox) : State := s.setCx c (f (s.cx c))
/-- PFENCE of a pair, or of the course with j = 8 (R365). -/
def State.pfence (s : State) (c j : Nat) : Bool := s.regBit .cox c 0x68 j
/-- Start slots closed: fenced, or readmitted and waiting for the frame boundary (R356, R359). -/
def State.closed (s : State) (c j : Nat) : Bool := s.pfence c j || (s.cx c).reopen.contains j

/-- The reject class (R40). The spec gives its strokes, its depth and its verdict stroke. Its longest envelope (16,384 bytes), its signed
length (36), its one signature block and a queue region of 64 places of 512 bytes, which cuts the copy of an entry in shared memory, are
the model's choice (DESIGN CHOICE, log entry 81). -/
def rejectPlan : PlanFile :=
  { total := 1800, maxEnv := 16384, maxSigned := 36, qdepth := 64, entry := Config.rejectEntry.toNat, stackTop := Config.rejectStack.toNat
    slim := Config.rejectSlim.toNat, queueOff := Config.rejectQueue, queueSize := 64 * 512, occ := [{ res := 9, start := 900, length := 40 }] }
/-- The plan of a class. -/
def State.planOf (s : State) (cls : Nat) : Option PlanFile :=
  if cls = 0 then some rejectPlan else s.plans.find? fun p => decide (p.cls = cls)

/-- Fields of a frame table entry (R109). -/
def TwoWords.off (e : TwoWords) : Nat := fld e.w0 0 21
def TwoWords.kind (e : TwoWords) : Nat := fld e.w0 21 2
def TwoWords.pair (e : TwoWords) : Nat := fld e.w0 23 3
def TwoWords.bind (e : TwoWords) : Nat := fld e.w0 26 4
def TwoWords.cls (e : TwoWords) : Nat := fld e.w1 0 10
def TwoWords.srcf (e : TwoWords) : Nat := fld e.w1 10 8
def TwoWords.scourse (e : TwoWords) : Nat := fld e.w1 0 4
def TwoWords.spairs (e : TwoWords) : Nat := fld e.w1 4 8
def TwoWords.window8 (e : TwoWords) : Nat := fld e.w1 12 20

/-- Entries of a table in order, up to its end (R110). -/
def tableFrom : Nat → List (Nat × TwoWords) → List TwoWords
  | i, (k, e) :: r => if k = i ∧ e.kind ≠ 0 then e :: tableFrom (i + 1) r else []
  | _, [] => []
/-- The active and the inactive frame table, and the active reservation buffer. -/
def Cox.table (x : Cox) : List TwoWords := tableFrom 0 (if x.active then x.ftB else x.ftA)
def Cox.idleTable (x : Cox) : List TwoWords := tableFrom 0 (if x.active then x.ftA else x.ftB)
def Cox.resv (x : Cox) : List (Nat × TwoWords) := if x.active then x.resB else x.resA

/-- A queue entry's source matches a SRC field (R109). -/
def srcMatch (f : Nat) (e : QEntry) : Bool :=
  if f = 0 then true
  else if f ≤ 0x7F then decide (e.src = 256 + f)
  else if f = 0x80 then decide (e.src = 256)
  else if f = 0x81 then decide (e.src < 64)
  else false

/-! ### Class queues in shared memory (R39, R42, R118, R349) -/

/-- Local address of place k of a class queue (log entry 9). -/
def queueLocal (p : PlanFile) (k : Nat) : Nat := p.queueOff + k * (p.queueSize / p.qdepth)
/-- Places of a class queue of course c that are in use: waiting, running or awaiting a re-issue. -/
def State.queueUsed (s : State) (c cls : Nat) : List Nat :=
  ((s.cx c).queue.filterMap fun e => if e.cls = cls then some e.slot else none) ++
  s.cox.flatMap fun (x : Nat × Cox) =>
    (x.2.heats.filterMap fun h => if h.home = c ∧ h.cls = cls ∧ !h.ended then some h.entry.slot else none) ++
    (x.2.waiting.filterMap fun w => if w.heat.home = c ∧ w.heat.cls = cls then some w.heat.entry.slot else none)
/-- A queue entry as it lies in shared memory (log entry 9): tag, source, validity of time, length, stroke, time, envelope. -/
def QEntry.bytes (e : QEntry) : List Byte :=
  leBytes 8 e.tag ++ leBytes 2 e.src ++ leBytes 2 (if e.valid then 1 else 0) ++ leBytes 4 e.env.length ++ leBytes 8 e.stroke ++
    leBytes 8 e.time ++ e.env
/-- The spare course that holds the course's shadow copies (R349). -/
def State.shadowCourse (s : State) (c : Nat) : Option Nat :=
  match (s.cx c).table.find? fun e => decide (e.kind = 2) with
  | some e => if e.scourse = c then none else some e.scourse
  | none => none
/-- Lowest class queue address of a course's plans: the base of its queue region. -/
def State.queueBase (s : State) (c : Nat) : Nat :=
  match (s.cx c).table.filterMap (fun e => if e.kind = 1 then (s.planOf e.cls).map (·.queueOff) else none) with
  | [] => 0
  | x :: r => r.foldl min x
/-- Local address of an entry's shadow copy on the spare course. -/
def State.shadowLocal (s : State) (c q : Nat) : Nat := 0x20000 + fld (s.reg .cox c 0x74) 0 19 + (q - s.queueBase c)
/-- Bytes stored as INT words at a local shared memory address. -/
def State.putLocal (s : State) (c q : Nat) (bs : List Byte) : State :=
  if 0x20000 ≤ q ∧ q < 0xA0000 then s.putWords (sharedBase c + (q - 0x20000) / 4 * 4) (((toWords bs).take ((0xA0000 - q) / 4)).map TWord.int)
  else s
/-- The entry and its shadow copy written (R39, R349). -/
def State.entryWrite (s : State) (c : Nat) (p : PlanFile) (e : QEntry) : State :=
  let q := queueLocal p e.slot
  let bs := e.bytes.take (p.queueSize / p.qdepth)
  let s1 := s.putLocal c q bs
  match s.shadowCourse c with
  | some sc => s1.putLocal sc (s.shadowLocal c q) bs
  | none => s1

/-! ### Placement (R40-R42) -/

/-- Strokes from now to each start slot of an entry's class on a course, with the slot's SRC field as the low byte, in table order. -/
def State.slotWaits (s : State) (c : Nat) (e : QEntry) (openOnly : Bool) : List Nat :=
  (s.cx c).table.filterMap fun t =>
    if t.kind = 1 ∧ t.cls = e.cls ∧ !(openOnly && (s.closed c 8 || s.closed c t.pair)) then
      some (((t.off + frameLen - 1 - s.stroke % frameLen) % frameLen + 1) * 256 + t.srcf)
    else none
/-- Rising order of numbers. -/
def sortNat (l : List Nat) : List Nat := l.foldl (fun a x => (a.filter (· ≤ x)) ++ x :: a.filter (x < ·)) []
/-- The slot that launches an entry: each slot takes the oldest waiting entry whose source it admits, and the entry itself comes after
them (R41, R107). -/
def slotFor (e : QEntry) : List Nat → List QEntry → Option Nat
  | [], _ => none
  | w :: r, q =>
    match q.find? (srcMatch (w % 256)) with
    | some x => slotFor e r (q.erase x)
    | none => if srcMatch (w % 256) e then some (w / 256) else slotFor e r q
/-- Strokes to the next free start slot for an entry: the slots before it are taken by the class's waiting entries (R41). -/
def State.nextSlot (s : State) (c : Nat) (e : QEntry) (openOnly : Bool) : Option Nat :=
  let ws := sortNat (s.slotWaits c e openOnly)
  let q := (s.cx c).queue.filter fun x => decide (x.cls = e.cls)
  slotFor e ((List.range (q.length + 1)).flatMap fun k => ws.map (· + frameLen * 256 * k)) q
/-- The course an entry goes to: the earliest free slot, the lower number on a tie (R41). Slots of fenced pairs count only where no
other is left (R356). -/
def State.place (s : State) (e : QEntry) : Option Nat :=
  let best (o : Bool) : Option Nat :=
    (List.range 16).foldl (fun (acc : Option Nat) c =>
      match s.nextSlot c e o, acc with
      | some t, some b => if t < (s.nextSlot b e o).getD 0 then some c else some b
      | some _, none => some c
      | none, a => a) none
  match best true with
  | some c => some c
  | none => best false

/-! ### Verdicts outside a heat (R42, R310, R311, R332, R337, R352) -/

/-- A record of the classifier: the fields it knows, 0 elsewhere and no slot named (R311). -/
def classRecordBytes (s : State) (c : Nat) (e : QEntry) (verdict reason flags seq : Nat) : List Byte :=
  zeros 8 ++ leBytes 8 e.tag ++ leBytes 8 e.stroke ++ leBytes 8 e.time ++ leBytes 8 seq ++ zeros 8 ++ leBytes 2 e.partner ++ leBytes 2 e.cls ++
    leBytes 1 verdict ++ leBytes 1 reason ++ leBytes 1 flags ++ leBytes 1 c ++ leBytes 2 e.src ++ [0xFF, 0xFF, 0xFF, 0xFF] ++ zeros 10 ++
    leBytes 8 s.stroke ++ zeros 176
/-- The journal count a record falls under: 0, or 1 + function (R334). -/
def QEntry.jfn (e : QEntry) : Nat := match e.fn with | some f => 1 + f | none => 0
/-- The classifier's record goes to a free slot of the course's ring, flushable at once, or is lost (R310). -/
def State.classRecord (s : State) (c : Nat) (e : QEntry) (verdict reason flags : Nat) (seq : Nat := 0) : State :=
  match s.takeSlot c e.jfn with
  | (s1, some k) =>
    (s1.putInts (jslotAt c k) (classRecordBytes s c e verdict reason flags seq)).setJslot c k { st := 2, endAt := s.stroke, fn := e.jfn }
  | (s1, none) => s1.jnlLose
/-- A verdict the classifier gives: its record and, for a function's submission, its completion. -/
def State.classVerdict (s : State) (c : Nat) (e : QEntry) (verdict reason flags : Nat) : State :=
  (s.classRecord c e verdict reason flags).verdict e verdict e.stroke s.stroke

/-- Waiting entries of a course's class queues that satisfy a test are withdrawn with RETRY_ELSEWHERE (R337, R363). -/
def State.withdrawQueue (s : State) (c : Nat) (p : QEntry → Bool) : State :=
  let gone := (s.cx c).queue.filter p
  let s1 := s.updCx c fun x => { x with queue := x.queue.filter fun e => !p e }
  gone.foldl (fun s e => s.classVerdict c e 0x0A 0xA0 8) s1

/-- Envelope header fields the classifier reads (R39, R256). -/
def QEntry.hVersion (e : QEntry) : Nat := (e.env.getD 2 0).toNat
def QEntry.hPartner (e : QEntry) : Nat := leNat ((e.env.drop 6).take 2) % 4096
def QEntry.hClass (e : QEntry) : Nat := leNat ((e.env.drop 8).take 2) % 1024

/-- The entry with the class and partner the classifier maps (R40). A telemetry class is no command class, so an envelope that names one is
entered as class 0 (DEDUCED, log entry 99). -/
def State.mapEntry (s : State) (e : QEntry) : QEntry :=
  if e.telemetry then e
  else
    let cls := e.hClass
    let known := decide (e.hVersion = 1) && decide (cls ≠ 0) && (match s.planOf cls with | some p => !p.telemetry | none => false)
    { e with cls := if known then cls else 0, partner := e.hPartner }

/-- Next ingress tag of a course (R39). -/
def State.nextTag (s : State) (c : Nat) : Nat := c * 2 ^ 60 + ((s.cx c).serial + 1) % 2 ^ 60

/-- The partner's bit in the active set of the submitting function (R332). -/
def State.inSet (s : State) (e : QEntry) : Bool :=
  match e.fn with
  | none => true
  | some f => bit (Sparse.get 0 (s.fn f).pset (e.partner / 32)) (e.partner % 32)

/-- An entry placed on a course: the queue's depth, whose verdict REFUSE_INTERNAL overrides the others (R42, R46), then the partner set,
then the class queue (R39, R332). -/
def State.enter (s : State) (c : Nat) (e : QEntry) (p : PlanFile) : State :=
  let e1 := { e with tag := s.nextTag c }
  let s1 := s.updCx c fun x => { x with serial := (x.serial + 1) % 2 ^ 60 }
  let used := s.queueUsed c e1.cls
  match (List.range p.qdepth).find? fun k => !used.contains k with
  | none => (s1.setSticky .cox c 8).classVerdict c e1 7 0x71 8
  | some k =>
    if !s.inSet e1 then s1.classVerdict c e1 2 0x21 8
    else
      let e2 := { e1 with slot := k }
      (s1.updCx c fun x => { x with queue := x.queue ++ [e2] }).entryWrite c p e2

/-- A legacy course that carries a class (R132, R134). -/
def State.legacyCourse (s : State) (cls : Nat) : Option Nat :=
  (List.range 16).find? fun c => decide ((s.cx c).role = 2) && (s.cx c).legacyMap.contains cls &&
    decide (fld (s.reg .cox c 0x40) 0 2 = 2)

/-- CLASSIFICATION of the oldest envelope received, 240 strokes after its last bit (R39-R42, R57): none while a warning is in
force (R485). An envelope of a class
without any start slot goes to class 0, and where that has none its record is lost (log entry 10). -/
def fClassify (s : State) : State :=
  match s.ingress with
  | [] => s
  | e :: rest =>
    if s.pwr.warn.isSome ∨ s.stroke < e.stroke + 240 then s
    else
      let s0 := { s with ingress := rest }
      if s.svc = 0 then
        match e.fn with
        | some f => (s0.updQp f e.qp fun x => { x with reserved := x.reserved - 1 }).fnDown f
        | none => s0
      else
        let e1 := s.mapEntry e
        match s.legacyCourse (if 1024 ≤ e.cls then e.cls else e.hClass) with
        | some c =>
          let e2 := { e1 with cls := if 1024 ≤ e.cls then 0 else e.hClass, tag := s.nextTag c }
          if 1024 ≤ e.cls || (!e.telemetry && e.hVersion = 1) then
            s0.updCx c fun x => { x with serial := (x.serial + 1) % 2 ^ 60, legacyQ := x.legacyQ ++ [e2] }
          else s0.jnlLose
        | none =>
          match s.place e1, s.planOf e1.cls with
          | some c, some p => s0.enter c e1 p
          | _, _ =>
            match s.place { e1 with cls := 0 } with
            | some c => s0.enter c { e1 with cls := 0 } rejectPlan
            | none => s0.jnlLose.verdict e1 1 s.stroke s.stroke

/-! ### Launch (R107, R108, R150, R333, R355, R356) -/

/-- A processor of a pair at launch (R107). -/
def launchProc (x : Proc) (p : PlanFile) : Proc :=
  { x with b := [(31, ⟨w32 p.stackTop, Tag.ptr⟩)], k := [], pc := w32 p.entry, slim := w32 p.slim, gwin := 0, lines := 0, ldepth := 0
           sched := true, super := false, running := true, stopped := false, wait := none, stall := none, outStores := 0 }
/-- The two tiles of a pair. -/
def pairTiles (c p : Nat) : List ProcId := [.tile (Fin.ofNat 16 c) (Fin.ofNat 16 (2 * p)), .tile (Fin.ofNat 16 c) (Fin.ofNat 16 (2 * p + 1))]
/-- Update of both tiles. -/
def State.updPair (s : State) (c p : Nat) (f : Proc → Proc) : State := (pairTiles c p).foldl (fun s t => s.updProc t f) s

/-- What a pair has under way in the lockstep compare and in loads is forgotten: a heat starts or an abort ends one (R101, R102). -/
def State.clearPair (s : State) (c p : Nat) : State :=
  { s.dropLoads (pairTiles c p) with lock := s.lock.filter fun i => decide (i.pair ≠ 8 * c + p)
                                     lockBad := s.lockBad.filter fun q => decide (q ≠ 8 * c + p) }

/-- A replay of the reservation list of an entry begins, whether or not the slot launches (R150). -/
def State.replay (s : State) (c : Nat) (t : TwoWords) : State :=
  let l := ((s.cx c).resv.filter fun r =>
    decide (0 < fld r.2.w1 22 10) &&
      (if t.kind = 1 then !bit r.2.w0 14 && decide (fld r.2.w0 0 10 = t.cls) && decide (fld r.2.w0 10 4 = t.bind)
       else bit r.2.w0 14 && decide (fld r.2.w0 10 4 = t.scourse))).map (·.2)
  let live := s.mort.replays.filter fun r => r.list.any fun e => decide (s.stroke < r.start + fld e.w1 0 22 + fld e.w1 22 10)
  { s with mort := { s.mort with replays := live ++ [{ course := c, start := s.stroke, list := l }] } }

/-- A pair can take a heat: no heat in progress, its turnaround over (R110), and neither tile stopped by a double trap (R100). -/
def State.pairFree (s : State) (c p : Nat) : Bool :=
  ((pairTiles c p).all fun t => !(s.proc t).dbl) && ((s.cx c).heats.all fun h => decide (h.pair ≠ p) || h.ended) && decide (Sparse.get 0 (s.cx c).rest p ≤ s.stroke)
/-- A unit of a binding is fenced and nothing stands in for it (R355). -/
def State.unitLost (s : State) (i u : Nat) : Bool :=
  if u = 0xFF then false
  else if i < 2 then s.pkeFence u && decide (s.pkeRoute u = u)
  else s.hcFence (decide (i = 4)) u && decide (s.hcRoute (decide (i = 4)) u = u)
/-- Every unit of a binding can serve. -/
def State.bindingOk (s : State) (b : List Nat) : Bool := (List.range b.length).all fun i => !s.unitLost i (b.getD i 0xFF)

/-- Launches from shared slots that a function may still have on a course in this frame (R333). -/
def State.shareOk (s : State) (c : Nat) (e : QEntry) : Bool :=
  match e.fn with
  | none => true
  | some f => decide ((s.fn f).share = 0xFFFF) || decide (Sparse.get 0 (s.cx c).shares f < (s.fn f).share)
/-- A queue entry leaves the queue. -/
def State.dequeue (s : State) (c : Nat) (e : QEntry) : State := s.updCx c fun x => { x with queue := x.queue.erase e }

/-- The launch record (R108). -/
def State.launchRecord (s : State) (c p : Nat) (q : Nat) (e : QEntry) (srcf bind : Nat) (rerun : Bool) (slot : Option Nat) : State :=
  s.putWords (sharedBase c + 0x800 * p)
    [⟨w32 q, Tag.ptr⟩, TWord.int (w32 e.tag), TWord.int (w32 (e.tag / 2 ^ 32)),
     TWord.int (w32 (e.cls + srcf * 2 ^ 10 + (if rerun then 2 ^ 18 else 0) + bind * 2 ^ 19)),
     match slot with | some k => ⟨jslotLocal k, Tag.ptr⟩ | none => TWord.int 0]

/-- A heat with nothing of an earlier attempt's results. -/
def Heat.afresh (h : Heat) : Heat :=
  { h with img := none, states := [], lockHdr := false, resv := false, verdict := none, marked := none, sigOk := [], frame := none, up := none }
/-- The heat is launched on pair p of course c: its journal slot, the launch record, the tiles and the heat's own record. A heat with
no free slot runs all the same, and its record is counted as lost (R51). -/
def State.launch (s : State) (c p : Nat) (h : Heat) (pl : PlanFile) (q srcf bindIx : Nat) (slot : Option Nat) (keep : Bool) : State :=
  let (s1, k) := if keep then (s, slot) else s.takeSlot c h.entry.jfn
  let s2 := if k.isNone then s1.jnlLose else s1
  let s3 := (s2.clearPair c p).launchRecord c p q h.entry srcf bindIx h.rerun k
  let h1 : Heat := { h.afresh with pair := p, launch := s.stroke, total := pl.total, slot := k, keyfoot := pl.keyfoot, ended := false, plan := pl }
  ((s3.updCx c fun x => { x with heats := (x.heats.filter fun y => decide (y.pair ≠ p)) ++ [h1] }).updPair c p
    fun x => launchProc x pl)

/-- The oldest entry that a CLASS entry launches (R107, R333). -/
def State.launchable (s : State) (c : Nat) (t : TwoWords) : Option QEntry :=
  (s.cx c).queue.find? fun e => decide (e.cls = t.cls) && srcMatch t.srcf e && (decide (t.srcf ≠ 0) || s.shareOk c e)

/-- HEAT_LAUNCH at the offset of a CLASS entry. -/
def fHeatLaunch (c i : Nat) (s : State) : State :=
  match (s.cx c).table[i]? with
  | none => s
  | some t =>
    if t.kind ≠ 1 ∨ s.stroke % frameLen ≠ t.off ∨ !s.archOn then s
    else
      let s1 := s.replay c t
      match s.launchable c t, s.planOf t.cls with
      | some e, some pl =>
        let b := pl.bindings.getD t.bind []
        if !s.enabled .cox c || s.closed c 8 || s.closed c t.pair || !s.pairFree c t.pair || !s.bindingOk b then s1
        else
          let s2 := match e.fn with
            | some f => if t.srcf = 0 then s1.updCx c fun x => { x with shares := Sparse.upd 0 x.shares f (· + 1) } else s1
            | none => s1
          (s2.dequeue c e).launch c t.pair { pair := t.pair, cls := t.cls, entry := e, bind := t.bind, home := c, units := b } pl
            (queueLocal pl e.slot) t.srcf t.bind none false
      | _, _ => s1

/-- SPARE_SLOT: pairs of the spare course that can take a heat, in rising order. -/
def State.sparePairs (s : State) (t : TwoWords) : List Nat :=
  (List.range 8).filter fun p => t.spairs.testBit p && !s.closed t.scourse 8 && !s.closed t.scourse p && s.pairFree t.scourse p

/-- Aborted heats that a SPARE entry can serve now, in the order of detection, lower pair first (R350). -/
def State.waitingOrder (s : State) (c : Nat) : List Waiting :=
  ((s.cx c).waiting.filter fun w => decide (w.detect + 2 ≤ s.stroke)).foldl
    (fun a w => (a.filter fun y => decide (y.detect * 8 + y.heat.pair ≤ w.detect * 8 + w.heat.pair)) ++ w ::
      a.filter fun y => decide (w.detect * 8 + w.heat.pair < y.detect * 8 + y.heat.pair)) []

/-- Local address at which the spare course finds the entry: the shadow copy, or the entry itself (R349). -/
def State.rerunLocal (s : State) (c sc : Nat) (pl : PlanFile) (e : QEntry) : Nat :=
  if sc = c then queueLocal pl e.slot else s.shadowLocal c (queueLocal pl e.slot)

/-- A re-issue of an aborted heat on pair p of the spare course, under the plan of its first attempt (R112, R350). -/
def State.reissue (s : State) (c sc p : Nat) (w : Waiting) : State :=
  let pl := w.heat.plan
  let s1 := s.updCx c fun x => { x with waiting := x.waiting.erase w }
  let s2 := s1.updReg .cox c 0x70 fun v => putFld v 8 24 (min (s.stroke - w.detect) (2 ^ 24 - 1))
  let s3 := s2.count16 .cox c 0x58 16
  let s4 := if sc = c then s3 else match w.heat.slot with | some k => s3.setJslot c k {} | none => s3
  s4.launch sc p { w.heat with rerun := true, units := pl.rerun } pl (s.rerunLocal c sc pl w.heat.entry) 0 0 w.heat.slot
    (decide (sc = c) && w.heat.slot.isSome)

/-- SPARE_SLOT at the offset of a SPARE entry: waiting re-issues take the free spare pairs, then the entries of a fenced course as
first runs (R350, R356). -/
def fSpareSlot (c i : Nat) (s : State) : State :=
  match (s.cx c).table[i]? with
  | none => s
  | some t =>
    if t.kind ≠ 2 ∨ s.stroke % frameLen ≠ t.off ∨ !s.archOn then s
    else
      let s1 := s.replay c t
      if !s.enabled .cox t.scourse then s1
      else
        let ps := s.sparePairs t
        let ws := s.waitingOrder c
        let s2 := (List.zip ws ps).foldl (fun s (x : Waiting × Nat) => s.reissue c t.scourse x.2 x.1) s1
        if !s.closed c 8 then s2
        else
          (List.zip (s.cx c).queue (ps.drop ws.length)).foldl (fun s (x : QEntry × Nat) =>
            match s.planOf x.1.cls with
            | none => s
            | some pl =>
              (s.dequeue c x.1).launch t.scourse x.2
                { pair := x.2, cls := x.1.cls, entry := x.1, home := c, units := pl.rerun } pl
                (s.rerunLocal c t.scourse pl x.1) 0 0 none false) s2

/-- REISSUE_TIMEOUT: aborted heats that found no usable SPARE entry (R352). -/
def fReissueTimeout (c : Nat) (s : State) : State :=
  ((s.cx c).waiting.filter fun w => decide (w.detect + 240000 ≤ s.stroke)).foldl (fun s w =>
    let s1 := s.updCx c fun x => { x with waiting := x.waiting.erase w }
    let s2 := match w.heat.slot with | some k => s1.setJslot c k {} | none => s1
    (s2.setSticky .cox c 9).classVerdict c w.heat.entry 7 0x74 8) s

/-! ### Fences of pairs and courses (R344, R346, R113) -/

/-- A committed swap is abandoned on every page its commit named (R113). -/
def State.abandonSwap (s : State) (c : Nat) : State :=
  match (s.cx c).swap with
  | none => s
  | some (_, cs) =>
    cs.foldl (fun s k =>
      let s1 := s.updCx k fun x => { x with swap := none }
      let s2 := ((s1.setReg .cox k 0x44 0).setReg .cox k 0x844 0).setRegBit .cox k 0x54 0 false
      s2.setSticky .cox k 11) s
/-- A test that a unit passed no longer counts once the unit is fenced: 8 names the course (R365, R512). -/
def State.untest (s : State) (c p : Nat) : State :=
  (if p = 8 ∨ (s.cx c).passed.contains p then s.setRegBit .cox c 0x6C 5 false else s).updCx c fun x =>
    { x with passed := x.passed.filter (· ≠ p) }
/-- A tile pair is fenced by hardware. -/
def State.fencePair (s : State) (c p : Nat) : State := (s.setFence .cox c 0x68 p true).untest c p
/-- A course is fenced by hardware; a committed swap that names it is abandoned. -/
def State.fenceCourse (s : State) (c : Nat) : State :=
  ((s.setFence .cox c 0x68 8 true).untest c 8).abandonSwap c
/-- SWAP_TIMEOUT: 300 frames since the commit (R113). Frames are counted by their numbers, from the frame of the commit to the present one
(DESIGN CHOICE, log entry 82). -/
def fSwapTimeout (c : Nat) (s : State) : State :=
  match (s.cx c).swap with
  | some (f, _) => if f + 300 ≤ s.stroke / frameLen then s.abandonSwap c else s
  | none => s

/-- A held W0 is treated as arrived (R172, R212). -/
def State.startW0 (s : State) (h : HeldW0) : State :=
  if h.kind = 0 then s.pkeW0 h.req h.num h.w else s.hcW0 (decide (h.kind = 2)) h.req h.num h.w
/-- Held words in order of kind and pair. -/
def heldSort (l : List HeldW0) : List HeldW0 :=
  l.foldl (fun a x => (a.filter fun y => decide (y.kind * 64 + y.num ≤ x.kind * 64 + x.num)) ++ x ::
    a.filter fun y => decide (x.kind * 64 + x.num < y.kind * 64 + y.num)) []
/-- What the units do by time alone in the stroke that has begun: W0 words that count as arrived, status words of refused commands, keys
that have come over free joints, and those that have not come by the stroke that needs them (R172-R174). -/
def State.unitTick (s : State) : State :=
  let go := s.late.filter fun x => decide (x.at_ ≤ s.stroke)
  let s1 := go.foldl (fun s x => s.putWord x.addr x.word) { s with late := s.late.filter fun x => decide (s.stroke < x.at_) }
  let w := s1.heldW0.filter fun h => decide (h.at_ ≤ s.stroke)
  let s2 := (heldSort w).foldl State.startW0 { s1 with heldW0 := s1.heldW0.filter fun h => decide (s.stroke < h.at_) }
  let s3 := (s2.mort.flights.filter fun f => s2.landed f).foldl (fun s f => match f.body with
    | .key q => ({ s with mort := { s.mort with flights := s.mort.flights.erase f } } : State).updPke q fun x =>
        { x with cmd := x.cmd.map fun c => { c with fetch := none } }
    | _ => s) s2
  { s3 with pke := s3.pke.map fun (e : Nat × Pke) => (e.1, { e.2 with cmd := e.2.cmd.map fun c => match c.fetch with
      | some d => if d < s3.stroke then { c with fetch := none, late := true } else c
      | none => c }) }

/-! ### End and abort of heats (R82, R101, R126-R128, R202, R310, R347-R354) -/

/-- The Cox's part of every END and abort: the key-plane footprint wiped, end notices to the hash and cipher pairs of the binding,
and the pair's turnaround (R110, R128, R202). -/
def State.heatClose (s : State) (c : Nat) (h : Heat) : State :=
  let s1 := (pairTiles c h.pair).foldl (fun s t => s.wipe (planeBase c (t.tileId % 16)) (4 * h.keyfoot)) s
  let ns := ([(2, false), (3, false), (4, true)].filterMap fun (x : Nat × Bool) =>
    let u := h.units.getD x.1 0xFF
    if u = 0xFF then none else some (x.2, s.hcRoute x.2 u))
  s1.updCx c fun x => { x with notices := x.notices ++ ns, rest := Sparse.set 0 x.rest h.pair (h.launch + h.total + 300) }

/-- The heat listed on a pair, in progress or still within the withdrawal window (R347). -/
def State.heatOn (s : State) (c p : Nat) : Option Heat :=
  (s.cx c).heats.find? fun h => decide (h.pair = p) && (!h.ended || decide (s.stroke ≤ h.launch + h.total + 1))

/-- Verdict and verdict stroke of a heat, REFUSE_INTERNAL where it has no slot (R46, R51, R311). -/
def Heat.outcome (h : Heat) : Nat × Nat :=
  (if h.slot.isNone then 7 else (h.verdict.getD (7, 0x75)).1, h.launch + h.plan.verdictAt)

/-- The END of a heat at its Cox: the slot becomes flushable, the completion is due at release (R310, R329). -/
def State.heatEnd (s : State) (c p : Nat) : State :=
  match (s.cx c).heats.find? fun h => decide (h.pair = p) && !h.ended with
  | none => s
  | some h =>
    let s1 := s.heatClose c h
    let s2 := match h.slot with
      | some k => s1.setJslot c k { s.jslot c k with st := 2, endAt := s.stroke }
      | none => s1
    let (code, vs) := h.outcome
    (s2.updCx c fun x => { x with heats := x.heats.map fun y => if y = h then { y with ended := true } else y }).verdict h.entry code vs
      (h.launch + h.total + 2)

/-- The Cox's part of an END of a scheduled pair: at stroke TOTAL - 1 it is the END of the heat, at any other stroke the records do not
hold it (R122, R126). -/
def State.pairEnd (s : State) (c p : Nat) : State :=
  match (s.cx c).heats.find? fun h => decide (h.pair = p) && !h.ended with
  | none => s
  | some h => if s.stroke + 1 = h.launch + h.total then s.heatEnd c p else s.signalCourse c p 13
/-- END at a processor (R82): registers and lines cleared, and no instruction issues from then on. -/
def endProc (x : Proc) : Proc := { x with b := x.b.filter fun e => decide (e.1 = 31), k := [], lines := 0, running := false }
/-- The tiles of a legacy instance start its firmware in free mode (R132, R133). -/
def legacyProc (x : Proc) : Proc :=
  { x with pc := Config.legacyEntry, running := true, stopped := x.dbl, sched := false, super := Config.freeModeSuper, wait := none }
/-- A legacy instance's END ends its command in progress: a record with the firmware's own verdict, which is open, and its completion
(R133, log entry 102). -/
def State.legacyDone (s : State) (c p : Nat) : State :=
  match (s.cx c).legacyBusy.find? fun b => decide (b.1 = p) with
  | some (_, e) =>
    (s.draw.updCx c fun x => { x with legacyBusy := x.legacyBusy.filter fun b => decide (b.1 ≠ p) }).classVerdict c e (s.freeW.toNat % 256) 0xB0 4
  | none => s
/-- Idle instances of a legacy course take the oldest entries of its queue, lower pair first, and start on them (R132, log entry 102). -/
def State.legacyTake (s : State) (c : Nat) : State :=
  if (s.cx c).role ≠ 2 then s
  else (List.range 8).foldl (fun s p =>
    let x := s.cx c
    match x.legacyQ with
    | e :: r =>
      if !bit (s.reg .cox c 0x64) p || x.legacyBusy.any (fun b => decide (b.1 = p)) || (pairTiles c p).any (fun t => (s.proc t).dbl) then s
      else (s.updCx c fun x => { x with legacyQ := r, legacyBusy := x.legacyBusy ++ [(p, e)] }).updPair c p legacyProc
    | [] => s) s
/-- END (R82): registers and lines cleared; a scheduled pair's END is its heat's, a free task stops issuing. -/
def fEnd (p : ProcId) (s : State) : State :=
  s.issue p true (fun _ => []) (fun x s =>
    let s1 := (s.setProc p (endProc x)).lockCmp p x 2 [x.pc.toNat]
    match p with
    | .tile c t =>
      if x.sched then (if p.sends then s1.pairEnd c.val (t.val / 2) else s1)
      else if (s.cx c.val).role = 2 ∧ t.val % 2 = 0 then s1.legacyDone c.val (t.val / 2)
      else s1
    | _ => s1)

/-- The pair after an abort: registers NONE, loops closed, lines cleared; the trap state stays (R101). -/
def abortProc (x : Proc) : Proc :=
  { x with b := x.b.filter fun e => decide (e.1 = 31), k := [], ldepth := 0, lines := 0, running := false, stopped := x.dbl, wait := none, stall := none }

/-- Units that run a scheduled command of the heat abort (R182, R213, R348). -/
def State.abortUnits (s : State) (c p : Nat) : State :=
  let mine (u : Option UCmd) : Bool := match u with
    | some x => x.req.sched && decide (x.req.course.val = c) && decide (x.req.pair.val = p)
    | none => false
  let s0 : State := { s with heldW0 := s.heldW0.filter fun h => !(decide (h.req.course.val = c) && decide (h.req.pair.val = p))
                             unitDue := s.unitDue.filter fun d => !(decide (d.course = c) && decide (d.pair = p)) }
  let s1 := (List.range 48).foldl (fun s q => if s.pkeAlive q && mine (s.pkeU q).cmd then s.pkeAbortNow q false else s) s0
  [false, true].foldl (fun s b => (List.range 16).foldl (fun s k =>
    if s.hcAlive b k && mine (s.hc b k).cmd then s.hcAbortNow b k false else s) s) s1

/-- The release of a tag withdrawn: its egress entries zeroed, its completion not written (R52, R347). -/
def State.withdraw (s : State) (e : QEntry) : State :=
  let s1 := { s with egress := s.egress.map fun (x : Nat × List Egress) => (x.1, x.2.filter fun y => decide (y.tag ≠ e.tag))
                     released := if s.egress.any fun x => x.2.any fun y => decide (y.tag = e.tag) then s.released.filter (· ≠ e.tag)
                       else s.released
                     pairM := { s.pairM with held := s.pairM.held.filter fun x => decide (x.2.1 ≠ e.tag) } }
  match e.fn with
  | some f =>
    if (s1.qpr f e.qp).cpls.any fun y => decide (y.tag = e.tag) then
      (s1.updQp f e.qp fun x => { x with cpls := x.cpls.filter fun y => decide (y.tag ≠ e.tag) }).updFn f fun x =>
        { x with inflight := x.inflight + 1 }
    else s1
  | none => s1

/-- A legacy instance's fault: its command ends with 0xB1 and the instance restarts (R133). -/
def State.legacyFault (s : State) (c p : Nat) : State :=
  let s1 := (s.setSticky .cox c 10).updPair c p fun x => legacyProc (abortProc x)
  match (s.cx c).legacyBusy.find? fun b => decide (b.1 = p) with
  | some (_, e) => (s1.updCx c fun x => { x with legacyBusy := x.legacyBusy.filter fun b => decide (b.1 ≠ p) }).classVerdict c e 7 0xB1 4
  | none => s1

/-- An abort of whatever runs on pair p of course c: `cause` as LAST_ABORT (open for a domain fault), `trap` the trap code and TPC,
`fence` whether the pair is fenced (R101, R126, R347-R354). -/
def State.abortPair (s : State) (c p : Nat) (cause : Nat) (sticky : Option Nat) (trap : Option (Nat × Nat)) (fence : Bool) : State :=
  let s0 := match sticky with | some b => s.setSticky .cox c b | none => s
  if (s.cx c).role = 2 then s0.legacyFault c p
  else
    match s.heatOn c p with
    | none => if fence then s0.fencePair c p else s0
    | some h =>
      let s1 := (s0.count16 .cox c 0x58 0).setReg .cox c 0x5C (w32 (h.cls + p * 2 ^ 10 + cause % 16 * 2 ^ 13))
      let s2 := (((((s1.clearPair c p).updPair c p abortProc).abortUnits c p).withdraw h.entry).heatClose c h).updCx c fun x =>
        { x with heats := x.heats.erase h }
      if h.rerun then
        let same := decide (h.first.isSome) && decide (h.first = trap)
        let s3 := match h.slot with | some k => s2.setJslot c k {} | none => s2
        let s4 := if same then
            match h.fencedBy with
            | some k => (s3.setSticky .cox c 6).setFence .cox (k / 8) 0x68 (k % 8) false
            | none => s3.setSticky .cox c 6
          else if fence then s3.fencePair c p else s3
        s4.classVerdict c h.entry 7 (if same then 0x70 else 0x73) 9
      else
        let s3 := if fence then s2.fencePair c p else s2
        let s4 := match h.slot with | some k => s3.setJslot c k { s.jslot c k with st := 1 } | none => s3
        let (s5, slot) := if h.home = c then (s4, h.slot) else
          match h.slot with | some k => (s4.setJslot c k {}, none) | none => (s4, none)
        s5.updCx h.home fun x => { x with waiting := x.waiting ++
          [{ heat := { h with slot := slot, ended := false, first := trap, fencedBy := if fence then some (8 * c + p) else none }
             detect := s.stroke }] }

/-- HEAT_ABORT (R126, R344): a late unit is one whose result was not there in time, or came ABORTED or REFUSED (R45); a trap
fences nothing unless it is an uncorrectable word of the pair's scratch; in shared memory the
second such word within a frame fences the course. -/
def fHeatAbort (c p : Nat) (cause : AbortCause) (tpc : Word) (s : State) : State :=
  match cause with
  | .trap code =>
    let st := if code = schedSlip then some 2 else none
    if code ≠ eccUncorr then s.abortPair c p code st (some (code, tpc.toNat)) false
    else
      let addr := (s.proc (.tile (Fin.ofNat 16 c) (Fin.ofNat 16 (2 * p)))).taddr.toNat
      if 0x20000 ≤ addr ∧ addr < 0xA0000 then
        let s1 := (s.setSticky .cox c 1).abortPair c p code st (some (code, tpc.toNat)) false
        let again := match (s.cx c).lastUe with | some t => decide (s.stroke < t + 1200000) | none => false
        let s2 := s1.updCx c fun x => { x with lastUe := some s.stroke }
        if again then s2.fenceCourse c else s2
      else s.abortPair c p code st (some (code, tpc.toNat)) true
  | .lateUnit => if s.lateOn c p then s.abortPair c p 0xC (some 3) none false else s
  | .occMismatch => s.abortPair c p 0xD (some 4) none false
  | .lockstep => s.abortPair c p 0xE (some 5) none true

/-- COURSE_DOMAIN_FAULT: every heat of the course aborts and the course is fenced (R344). -/
def fCourseFault (c : Nat) (s : State) : State :=
  let open_ := s.freeW.toNat
  ((List.range 8).foldl (fun s p => if (s.heatOn c p).isSome then s.abortPair c p open_ none none false else s) s.draw).fenceCourse c

/-! ### Egress release (R50-R53, R260, R285, R360-R362) -/

/-- The heat's record is complete, holds ACCEPT, and is this attempt's own (R51, R52). -/
def State.accepted (s : State) (c : Nat) (h : Heat) : Bool :=
  match h.slot with
  | some k => decide (leNat (s.bytes (jslotAt c k + 8) 8) = h.entry.tag) && decide (s.byte (jslotAt c k + 0x34) = 0) &&
      decide (leNat (s.bytes (jslotAt c k + 0x48) 8) = h.launch + h.plan.verdictAt) && decide (h.launch + h.plan.recordAt ≤ s.stroke)
  | none => false
/-- A fault has been signalled for the heat on a pair (R52). -/
def State.signalled (s : State) (c p : Nat) : Bool :=
  (s.sigs.any fun g => decide (g.1 = c) && decide (g.2.1 = p)) || s.lockBad.contains (8 * c + p)

/-- The port whose queue holds the entry reserved for a heat (R50). -/
def State.stagedPort (s : State) (c p tag : Nat) : Option Nat :=
  (s.egress.find? fun x => x.2.any fun e => decide (e.tag = tag) && decide (e.course = c) && decide (e.pair = p) && !e.released).map (·.1)
/-- The reserved entry of a heat is zeroed and free again (R50, R52). -/
def State.unreserve (s : State) (c p tag : Nat) : State :=
  match s.stagedPort c p tag with
  | some port => s.setEgq port ((s.egq port).filter fun e => !(decide (e.tag = tag) && decide (e.course = c) && decide (e.pair = p) && !e.released))
  | none => s

/-- Pair mode lets a release take effect now, later, or not at all (R360-R363). -/
inductive PairGate where
  | now | later | drop
  deriving DecidableEq, Repr
def State.pairGate (s : State) (tag : Nat) : PairGate :=
  if !bit (s.reg .sys 0 0x48) 0 then .now
  else if s.pairM.role ≠ 1 then .drop
  else if s.pairM.link && !s.pairM.alone && s.pairM.unacked.any fun u => decide (u.2 = tag) then .later
  else .now

/-- A release takes effect: the frame joins the port's queue, or is dropped where the port cannot send it, and the sister hears of it
(R52, R53, R285, R361). -/
def State.release (s : State) (port tag : Nat) : State :=
  let ok := match (s.egq port).find? fun e => decide (e.tag = tag) with | some e => s.portTakes port e | none => false
  let s1 := if ok then
      s.setEgq port ((s.egq port).map fun e => if e.tag = tag then { e with released := true, at_ := s.stroke } else e)
    else (s.setEgq port ((s.egq port).filter fun e => decide (e.tag ≠ tag))).egressDrop port tag
  let s2 := { s1 with released := s1.released ++ [tag] }
  if bit (s.reg .sys 0 0x48) 0 && s.pairM.link then s2.emit (.sister 2 tag 0) else s2

/-- EGRESS_RELEASE (R52), which is effective at the egress stage at the stroke TOTAL of the heat (R122): all four conditions, then the
release; otherwise the entry is zeroed. Class 0 and telemetry heats send nothing to a field port (R40, R59). -/
def fEgressRelease (c p : Nat) (equal : Bool) (s : State) : State :=
  match s.heatOn c p with
  | none => s
  | some h =>
    match s.stagedPort c p h.entry.tag with
    | none => s
    | some port =>
      if s.stroke ≠ h.launch + h.total || decide (h.cls = 0) || h.plan.telemetry || s.pairM.held.any fun x => decide (x.2.1 = h.entry.tag) then s
      else if !equal || h.frame.isNone || !s.accepted c h || s.signalled c p || s.released.contains h.entry.tag then
        s.unreserve c p h.entry.tag
      else match s.pairGate h.entry.tag with
        | .now => s.release port h.entry.tag
        | .later => { s with pairM := { s.pairM with held := s.pairM.held ++ [(port, h.entry.tag, s.stroke)] } }
        | .drop => (s.unreserve c p h.entry.tag).egressDrop port h.entry.tag

/-! ### Tests of tile pairs and courses (R359, R365) -/

/-- A write of COX.PTEST (R365): START tests a fenced pair or course, or is rejected. -/
def fPtestStart (c : Nat) (v : Word) (s : State) : State :=
  let s1 := s.updReg .cox c 0x6C fun w => (w &&& ~~~0x8F) ||| (v &&& 0x8F)
  if !bit v 4 then s1
  else
    let all := bit v 3
    let p := fld v 0 3
    if (s.cx c).ptest.isSome || !(s.pfence c 8 || (!all && s.pfence c p)) then s1.reject .cox c 0x6C v
    else s1.updCx c fun x => { x with ptest := some (if all then List.range 8 else [p], all) }

/-- Memories and registers of a tile at NONE (R359, R481). -/
def State.zeroTile (s : State) (c t : Nat) : State :=
  let p : ProcId := .tile (Fin.ofNat 16 c) (Fin.ofNat 16 t)
  ((s.wipe (codeBase c t) 0x8000).wipe (scratchBase c t) 0x10000).setProc p {}
/-- Memories and registers of a supervisor core at NONE. -/
def State.zeroCox (s : State) (c : Nat) : State :=
  ((s.wipe (coxCodeBase c) 0x8000).wipe (coxDataBase c) 0x8000).setProc (.cox (Fin.ofNat 16 c)) { super := true }
/-- A Cox supervisor core starts the Cox firmware: at supervisor privilege (R66), with the stack pointer and limit of its loader
(R63, R391). Where the firmware starts and where its stack lies is the firmware's, so both are open (DESIGN CHOICE, log entry 92). -/
def State.startCox (s : State) (c : Nat) : State :=
  s.setProc (.cox (Fin.ofNat 16 c))
    { b := [(31, ⟨Config.coxStack, Tag.ptr⟩)], slim := Config.coxLimit, pc := Config.coxEntry, running := true, super := true }

/-- COX_PTEST_DONE (R359). -/
def fPtestDone (c : Nat) (ok : Bool) (s : State) : State :=
  match (s.cx c).ptest with
  | none => s
  | some (ps, all) =>
    let s1 := ps.foldl (fun s p => (s.zeroTile c (2 * p)).zeroTile c (2 * p + 1)) s
    let s2 := if all then s1.zeroCox c else s1
    let units := if all then 8 :: ps else ps
    let s3 := s2.updReg .cox c 0x6C fun w => putBit (putBit w 5 ok) 6 (!ok)
    s3.updCx c fun x => { x with ptest := none
                                 passed := (x.passed.filter fun u => !units.contains u) ++ if ok then units else [] }

/-! ### Table registers (R141, R160, R365) -/

/-- FT_DATA1_WRITE (R141). -/
def fFtData1 (c : Nat) (v : Word) (s : State) : State :=
  let a := s.reg .cox c 0x48
  let buf := bit a 10
  let x := s.cx c
  if buf = x.active then s.reject .cox c 0x50 v
  else
    let e : TwoWords := ⟨x.ftHold, v⟩
    let n := fld a 0 10
    let y := if buf then { x with ftB := Sparse.set {} x.ftB n e } else { x with ftA := Sparse.set {} x.ftA n e }
    ((s.setCx c y).setRegBit .cox c 0x54 0 false).setReg .cox c 0x48 (putFld a 0 10 (n + 1))

/-- The frame table entry that FT_ADDR selects. -/
def State.ftEntry (s : State) (c : Nat) : TwoWords :=
  let a := s.reg .cox c 0x48
  Sparse.get {} (if bit a 10 then (s.cx c).ftB else (s.cx c).ftA) (fld a 0 10)
/-- FT_DATA1_READ (R141). -/
def fFtRead (c : Nat) (s : State) : State × Word :=
  let a := s.reg .cox c 0x48
  (s.setReg .cox c 0x48 (putFld a 0 10 (fld a 0 10 + 1)), (s.ftEntry c).w1)

/-- RES_DATA1_WRITE (R160). -/
def fResData1 (v : Word) (s : State) : State :=
  let a := s.reg .mort 0 0x70
  let c := fld a 11 4
  let buf := bit a 15
  let x := s.cx c
  if buf = x.active then s.reject .mort 0 0x78 v
  else
    let e : TwoWords := ⟨s.mort.resHold, v⟩
    let n := fld a 0 11
    let y := if buf then { x with resB := Sparse.set {} x.resB n e } else { x with resA := Sparse.set {} x.resA n e }
    ((s.setCx c y).setRegBit .cox c 0x54 0 false).setReg .mort 0 0x70 (putFld a 0 11 (n + 1))

/-- The reservation entry that RES_ADDR selects. -/
def State.resEntry (s : State) : TwoWords :=
  let a := s.reg .mort 0 0x70
  let x := s.cx (fld a 11 4)
  Sparse.get {} (if bit a 15 then x.resB else x.resA) (fld a 0 11)
/-- RES_DATA1_READ (R160). -/
def fResRead (s : State) : State × Word :=
  let a := s.reg .mort 0 0x70
  (s.setReg .mort 0 0x70 (putFld a 0 11 (fld a 0 11 + 1)), s.resEntry.w1)

/-- SHADOW_BASE_WRITE (R365). -/
def fShadowBase (c : Nat) (v : Word) (s : State) : State :=
  (s.setReg .cox c 0x74 (v &&& 0x7FFFF)).setRegBit .cox c 0x54 0 false

/-! ### The rows -/

/-- CLASSIFICATION (R39). -/
def execClassification (s : State) : Host.Outcome State Fault Refusal := .next (fClassify s)

/-- SWAP_TIMEOUT (R113). -/
def execSwapTimeout (c : Fin 16) (s : State) : Host.Outcome State Fault Refusal := .next (fSwapTimeout c s)

/-- HEAT_LAUNCH (R107). -/
def execHeatLaunch (c : Fin 16) (entry : Fin 1024) (s : State) : Host.Outcome State Fault Refusal := .next (fHeatLaunch c entry s)

/-- SPARE_SLOT (R350). -/
def execSpareSlot (c : Fin 16) (entry : Fin 1024) (s : State) : Host.Outcome State Fault Refusal := .next (fSpareSlot c entry s)

/-- REISSUE_TIMEOUT (R352). -/
def execReissueTimeout (c : Fin 16) (s : State) : Host.Outcome State Fault Refusal := .next (fReissueTimeout c s)

/-- LOCKSTEP_MISMATCH (R102). -/
def execLockstepMismatch (c : Fin 16) (p : Fin 8) (s : State) : Host.Outcome State Fault Refusal := .next (fHeatAbort c p .lockstep 0 s)

/-- HEAT_ABORT (R126). -/
def execHeatAbort (c : Fin 16) (p : Fin 8) (cause : AbortCause) (tpc : Word) (s : State) : Host.Outcome State Fault Refusal := .next (fHeatAbort c p cause tpc s)

/-- EGRESS_RELEASE (R52). -/
def execEgressRelease (c : Fin 16) (p : Fin 8) (compareEqual : Bool) (s : State) : Host.Outcome State Fault Refusal := .next (fEgressRelease c p compareEqual s)

/-- END (R82). -/
def execEndHeat (p : ProcId) (s : State) : Host.Outcome State Fault Refusal := .next (fEnd p s)

/-- FT_DATA1_WRITE (R141). -/
def execFtData1Write (m : Master) (c : Fin 16) (v : Word) (s : State) : Host.Outcome State Fault Refusal := .next (s.gated m .cox c 0x50 (fFtData1 c v))

/-- FT_DATA1_READ (R141). -/
def execFtData1Read (m : Master) (c : Fin 16) (s : State) : Host.Outcome State Fault Refusal := .next (s.gatedRead m .cox c 0x50 (fFtRead c))

/-- RES_DATA1_WRITE (R160). -/
def execResData1Write (m : Master) (v : Word) (s : State) : Host.Outcome State Fault Refusal := .next (s.gated m .mort 0 0x78 (fResData1 v))

/-- RES_DATA1_READ (R160). -/
def execResData1Read (m : Master) (s : State) : Host.Outcome State Fault Refusal := .next (s.gatedRead m .mort 0 0x78 fResRead)

/-- SHADOW_BASE_WRITE (R365). -/
def execShadowBaseWrite (m : Master) (c : Fin 16) (v : Word) (s : State) : Host.Outcome State Fault Refusal := .next (s.gated m .cox c 0x74 (fShadowBase c v))

/-- COX_PTEST_START (R359). -/
def execCoxPtestStart (m : Master) (c : Fin 16) (v : Word) (s : State) : Host.Outcome State Fault Refusal := .next (s.gated m .cox c 0x6C (fPtestStart c v))

/-- COX_PTEST_DONE (R359). -/
def execCoxPtestDone (c : Fin 16) (ok : Bool) (s : State) : Host.Outcome State Fault Refusal := .next (fPtestDone c ok s)

/-- COURSE_DOMAIN_FAULT (R344). -/
def execCourseDomainFault (c : Fin 16) (s : State) : Host.Outcome State Fault Refusal := .next (fCourseFault c s)

end Sys2Proof.Machine
end

