-- ==== Sys2Proof/Machine/HostMail.lean ====
section
/-! DEFINITION. Functions under management (R320-R322, R331-R343): resets, link state, the PF mailbox with the firmware's part of each
command, and the VFM page. -/

namespace Sys2Proof.Machine

/-! ### Functions (R320, R335-R337) -/

/-- Every queue pair of a function disabled and its configuration and MSI-X table cleared (R320). -/
def State.fnClear (s : State) (f : Nat) : State :=
  let s1 := { s with pci := { s.pci with qp := s.pci.qp.map fun (e : Nat × Qp) => if e.1 / 64 = f then (e.1, e.2.gone) else e } }
  s1.updFn f fun x => { x with maskAll := false, unmasked := [], pba := [] }
/-- RESET_REFUSED with the function number (R320). -/
def State.resetRefused (s : State) (f : Nat) : State := s.setSticky .pci 0 4 0 f

/-- FUNCTION_LEVEL_RESET (R320). -/
def fFlr (f : Nat) (s : State) : State := if (s.fn f).st = .quiet then s.fnClear f else s.resetRefused f

/-- VF_ENABLE_WRITE (R320, R335): while the endpoint answers with retry status no write is taken (R336). -/
def fVfEnable (enable : Bool) (n : Nat) (s : State) : State :=
  let old := if s.pci.vfEnable then s.pci.numVfs else 0
  let new := if enable then n else 0
  let gone := (List.range 128).filter fun f => decide (new < f) && decide (f ≤ old)
  if s.pci.crs then s
  else match gone.find? fun f => decide ((s.fn f).st ≠ .quiet) with
    | some f => s.resetRefused f
    | none =>
      let s1 := gone.foldl State.fnClear s
      { s1 with pci := { s1.pci with vfEnable := enable, numVfs := n } }

/-- PCIE_LINK_DOWN, hot reset or PERST# (R336). -/
def fPciDown (s : State) : State :=
  let s1 := ({ s with pci := { s.pci with dlUp := false, gen := 0, width := 0, crs := true } }).setSticky .pci 0 2
  ((List.range 128).foldl (fun s f =>
    if (s.fn f).st = .active then (s.updFn f fun x => { x with st := .draining }).settle f else s) s1).crsEnd
/-- PCIE_LINK_UP (R342). -/
def fPciUp (gen width : Nat) (s : State) : State := { s with pci := { s.pci with dlUp := true, gen := gen, width := width } }

/-- Transitions of R335 and R343: 1 ACTIVATE, 2 DRAIN, 3 FREEZE, 4 THAW, 5 RELEASE, 6 IMPORTED; none where not allowed. -/
def State.fnCmd (s : State) (f cmd : Nat) : Option State :=
  let x := s.fn f
  match cmd, x.st with
  | 1, .quiet => some (s.setFn f { x with st := .active })
  | 2, .active => some ((s.setFn f { x with st := .draining }).settle f)
  | 3, .frozen => none
  | 3, _ => some (s.setFn f { x with freezing := true })
  | 4, .frozen => if x.exported then none else some (s.setFn f { x with st := .active, settled := false })
  | 5, .frozen =>
    let s1 := { s with pci := { s.pci with qp := s.pci.qp.map fun (e : Nat × Qp) =>
      if e.1 / 64 = f then (e.1, e.2.off) else e } }
    some (s1.setFn f { x with st := .quiet, settled := false, exported := false })
  | 6, .quiet => some (s.setFn f { x with st := .frozen, settled := true, ack := false, exported := false })
  | _, _ => none

/-! ### Resources (R331, R341) -/

/-- Granted queue pairs as the next values would have them are within both limits (R331). -/
def State.nextOk (s : State) : Nat → Bool := fun limit =>
  decide (((s.pci.fn.map fun e => e.2.qpNext).foldl (· + ·) 0) ≤ limit)
/-- A queue pair at or above a count has EN set. -/
def State.qpBusy (s : State) (f n : Nat) : Bool := s.pci.qp.any fun e => decide (e.1 / 64 = f) && decide (n ≤ e.1 % 64) && e.2.en
/-- No next value removes an enabled queue pair. -/
def State.nextKeeps (s : State) : Bool := (List.range 128).all fun f => !s.qpBusy f (s.fn f).qpNext

/-- Vector ranges of other functions leave the range free, and it lies within the global vectors (R341). -/
def State.vecOk (s : State) (f base count : Nat) : Bool :=
  decide (count ≤ if f = 0 then 128 else 64) && decide (base + count ≤ 2048) &&
    s.pci.fn.all fun e => decide (e.1 = f) || decide (e.2.vecCount = 0) || decide (count = 0) || decide (base + count ≤ e.2.vecBase) ||
      decide (e.2.vecBase + e.2.vecCount ≤ base)
/-- Granted queue pairs and owned vectors of all functions. -/
def State.qpGranted (s : State) : Nat := (s.pci.fn.map fun e => e.2.qp).foldl (· + ·) 0
def State.vecOwned (s : State) : Nat := (s.pci.fn.map fun e => e.2.vecCount).foldl (· + ·) 0

/-- VFM_COMMIT (R331). -/
def fVfmCommit (v : Word) (s : State) : State :=
  if !bit v 0 then s
  else if s.nextOk 1024 && s.nextKeeps then { s with pci := { s.pci with commit := true } } else s.reject .vfm 0 0x58 v

/-- FN_CMD of the selected function (R343). -/
def fFnCmd (cmd : Nat) (s : State) : State :=
  match s.fnCmd (fld (s.reg .vfm 0 0x40) 0 7) cmd with
  | some t => t
  | none => s.reject .vfm 0 0x48 (w32 cmd)
/-- FN_STS.ACK: a write of 0 has no effect (R343). -/
def fFnAck (v : Word) (s : State) : State :=
  if bit v 4 then s.updFn (fld (s.reg .vfm 0 0x40) 0 7) fun x => { x with ack := true } else s
/-- FN_VEC (R341, R343). -/
def fFnVec (v : Word) (s : State) : State :=
  let f := fld (s.reg .vfm 0 0x40) 0 7
  if (s.fn f).st = .quiet && s.vecOk f (fld v 0 11) (fld v 11 8) then
    s.updFn f fun x => { x with vecBase := fld v 0 11, vecCount := fld v 11 8 }
  else s.reject .vfm 0 0x54 v
/-- PSET_ADDR.WORD after an access of PSET_DATA (R343). -/
def State.psetStep (s : State) : State := s.updReg .vfm 0 0x5C fun w => putFld w 0 7 (fld w 0 7 + 1)
/-- PSET_DATA: a write goes to the next set, a read shows the set in force (R343). -/
def fPsetWrite (v : Word) (s : State) : State :=
  let f := fld (s.reg .vfm 0 0x40) 0 7
  (s.updFn f fun x => { x with psetNext := Sparse.set 0 x.psetNext (fld (s.reg .vfm 0 0x5C) 0 7) v }).psetStep
def fPsetRead (s : State) : State × Word :=
  (s.psetStep, Sparse.get 0 (s.fn (fld (s.reg .vfm 0 0x40) 0 7)).pset (fld (s.reg .vfm 0 0x5C) 0 7))

/-! ### The PF mailbox (R321, R322) -/

/-- A GO: with a request under way it is ignored and LOST sets; otherwise BUSY sets and the request header stands in the buffer (R321). -/
def State.mbxGo (s : State) (g : Go) (cmd : Nat) (f : State → State) : State :=
  if s.pci.busy then { s with pci := { s.pci with lost := true } }
  else
    let s1 := { s with pci := { s.pci with busy := true, done := false, mbxIe := g.ie, mbxVec := g.vec % 128 } }
    f (s1.setReg .pci 0 0x400 (w32 (cmd + g.tag % 2 ^ 16 * 2 ^ 16)))
/-- The response in the buffer: header of CMD, TAG, STATUS and LEN, then the results (R321). -/
def State.mbxAnswer (s : State) (status : Nat) (res : List Byte) : State :=
  (s.setReg .pci 0 0x800 (s.reg .pci 0 0x400)).setRegs .pci 0 0x804 (toWords (leBytes 2 status ++ leBytes 4 res.length ++ res))
/-- STATUS codes (R321). -/
def stOk : Nat := 0
def stBadArg : Nat := 1
def stState : Nat := 2
def stNoRes : Nat := 3
def stAuth : Nat := 4
/-- A command that names a function outside 0 to NumVFs, or the PF where that is not allowed, returns BAD_ARG (R322). -/
def State.mbxFn (s : State) (f : Nat) (pfOk : Bool) (act : State → State) : State :=
  if s.pci.numVfs < f ∨ 127 < f ∨ (f = 0 ∧ !pfOk) then s.mbxAnswer stBadArg [] else act s

/-- INFO (R322). -/
def fInfo (g : Go) (s : State) : State :=
  s.mbxGo g 0x0001 fun s => s.mbxAnswer stOk
    (leBytes 4 (pageCap .pci 0).toNat ++ leBytes 4 (pageCap .vfm 0).toNat ++ leBytes 4 (1024 - s.qpGranted) ++ leBytes 4 (2048 - s.vecOwned) ++
      leBytes 8 s.lcs.uid)
/-- SET_RESOURCES (R331, R333, R334). -/
def fSetRes (g : Go) (f qp share jq : Nat) (s : State) : State :=
  s.mbxGo g 0x0010 fun s => s.mbxFn f true fun s =>
    if 64 < qp ∨ 0xFFFF < share ∨ jq = 0 ∨ 4096 < jq then s.mbxAnswer stBadArg []
    else
      let s1 := s.updFn f fun x => { x with qpNext := qp, shareNext := share, jquotaNext := jq }
      if !s1.nextOk 1024 then s.mbxAnswer stNoRes []
      else if s.qpBusy f qp then s.mbxAnswer stState []
      else ({ s1 with pci := { s1.pci with commit := true } }).mbxAnswer stOk []
/-- SET_PARTNER_SET (R332). -/
def fSetPset (g : Go) (f : Nat) (bm : List Word) (s : State) : State :=
  s.mbxGo g 0x0011 fun s => s.mbxFn f true fun s =>
    let s1 := s.updFn f fun x =>
      { x with psetNext := (List.range 128).filterMap fun i => let w := bm.getD i 0; if w = 0 then none else some (i, w) }
    ({ s1 with pci := { s1.pci with commit := true } }).mbxAnswer stOk []
/-- SET_VECTORS (R322, R341). -/
def fSetVec (g : Go) (f base count : Nat) (s : State) : State :=
  s.mbxGo g 0x0012 fun s => s.mbxFn f true fun s =>
    if (s.fn f).st ≠ .quiet then s.mbxAnswer stState []
    else if (if f = 0 then 128 else 64) < count ∨ 2048 < base + count then s.mbxAnswer stBadArg []
    else if !s.vecOk f base count then s.mbxAnswer stNoRes []
    else (s.updFn f fun x => { x with vecBase := base, vecCount := count }).mbxAnswer stOk []
/-- ACTIVATE, DRAIN, FREEZE, THAW, RELEASE (R335). -/
def fMbxFn (g : Go) (code cmd f : Nat) (s : State) : State :=
  s.mbxGo g code fun s => s.mbxFn f (decide (cmd ≠ 3)) fun s =>
    match s.fnCmd f cmd with
    | some t => t.mbxAnswer stOk []
    | none => s.mbxAnswer stState []
/-- MIGRATION_KEY (R322): the spec gives the response's results no layout; they are free (log entry 1). -/
def fMigKey (g : Go) (s : State) : State :=
  s.mbxGo g 0x0030 fun s => (s.mbxAnswer stOk (s.freeBs (s.freeW.toNat % 1017))).draw
/-- Header of a migration blob (R339). -/
def blobHead (src dst id len : Nat) : List Byte :=
  leBytes 4 0x47494D56 ++ leBytes 2 1 ++ zeros 2 ++ leBytes 8 src ++ leBytes 8 dst ++ leBytes 8 id ++ leBytes 4 len ++ zeros 4
/-- Base and size of the PF's staging region (R302): the first committed region of KIND staging. -/
def State.staging (s : State) : Option (Nat × Nat) :=
  (s.regions.find? fun w => decide (regSize w ≠ 0) && decide (regKind w = 0)).map fun w => (sealedBase + regBase w, regSize w)
/-- What a blob carries of a function (R339): its resources and vector count, partner set, MSI-X entries, queue pairs, and each listed
partner with its HIGH_WATER. -/
def State.migItems (s : State) (f : Nat) : List (List Nat) :=
  let x := s.fn f
  let qps := (s.pci.qp.filter fun e => decide (e.1 / 64 = f)).map fun (e : Nat × Qp) =>
    e.1 % 64 :: (List.range 8).map (fun i => (e.2.w i).toNat) ++ [e.2.sqHead, e.2.sqTail, e.2.cqHead, e.2.cqTail, if e.2.phase then 1 else 0]
  let inSet := (List.range 4096).filter fun p => (Sparse.get 0 x.pset (p / 32)).getLsbD (p % 32)
  [x.qp, x.share, x.jquota, x.vecCount] :: x.pset.map (fun e => [e.1, e.2.toNat]) ++ [x.unmasked] ++ qps ++ inSet.map fun p => [p, (s.ctx p).hw]
/-- A migration blob (R339): sealed under the shared key and EXPORT_ID. The encapsulation, IV and signature are free and the layout of the
plaintext is the model's opaque one (log entry 109). -/
def State.blob (s : State) (f dst id : Nat) : List Byte :=
  let pt := Config.migPlain (s.migItems f)
  let r := s.freeBs (32 + 1088 + 12 + 96)
  let iv := (r.drop 1120).take 12
  let key := (sha384 (r.take 32 ++ leBytes 8 id)).take 32
  let aad := blobHead s.lcs.uid dst id pt.length ++ (r.drop 32).take 1088 ++ iv
  let ct := gcmText key iv pt
  aad ++ ct ++ gcmTag key iv aad ct ++ r.drop 1132
/-- EXPORT (R339): a blob that the staging region does not hold returns BAD_ARG. -/
def fExport (g : Go) (f : Nat) (certOk : Bool) (dst off : Nat) (s : State) : State :=
  s.mbxGo g 0x0031 fun s => s.mbxFn f false fun s =>
    if (s.fn f).st ≠ .frozen ∨ !(s.fn f).settled then s.mbxAnswer stState []
    else if !certOk then s.mbxAnswer stAuth []
    else match s.staging with
      | none => s.mbxAnswer stBadArg []
      | some (b, size) =>
        let id := s.pci.exportId + 1
        let blob := s.blob f dst id
        if size < off + blob.length then s.mbxAnswer stBadArg [] else
        let s1 := (s.sealedWrite (b + off / 4 * 4) ((toWords blob).map TWord.int)).1.draw
        let s2 := s1.updFn f fun x => { x with exported := true }
        ({ s2 with pci := { s2.pci with exportId := id } }).mbxAnswer stOk []

/-- RESTORE of a partner whose HIGH_WATER in the blob is above its own (R340, R235). -/
def State.importHw (s : State) (p hw : Nat) : State :=
  if hw ≤ (s.ctx p).hw then s else s.restoreCtx p hw (s.ctx p).fence
/-- A queue pair taken from a blob. -/
def migQp (m : MigQp) : Qp :=
  let cfg := (List.range 8).filterMap fun i => let w := m.cfg.getD i 0; if w = 0 then none else some (i, w)
  let size := 2 ^ fld (m.cfg.getD 6 0) 4 4
  { cfg := cfg, sqHead := m.sqHead, sqTail := m.sqTail, cqHead := m.cqHead, cqTail := m.cqTail, phase := m.phase
    cqUsed := (m.cqTail + size - m.cqHead) % size }
/-- IMPORT (R340). -/
def fImport (g : Go) (f : Nat) (b : MigBlob) (s : State) : State :=
  s.mbxGo g 0x0032 fun s => s.mbxFn f false fun s =>
    let x := s.fn f
    if x.st ≠ .quiet then s.mbxAnswer stState []
    else if x.qp < b.qps ∨ x.vecCount < b.vecs then s.mbxAnswer stNoRes []
    else if b.dstUid ≠ s.lcs.uid ∨ !b.authOk ∨ (s.pci.imports.any fun e => decide (e.1 = b.srcUid) && decide (b.exportId ≤ e.2)) then
      s.mbxAnswer stAuth []
    else if b.partners.any fun e => decide ((s.ctx e.1).version = 0) then s.mbxAnswer stState []
    else
      let s1 := b.partners.foldl (fun s e => s.importHw e.1 e.2) s
      let s2 := b.queues.foldl (fun s m => if m.q < 64 then s.setQp f m.q (migQp m) else s) s1
      let s3 := s2.setFn f { x with psetNext := b.pset, unmasked := b.unmasked }
      let keep := (s3.pci.imports.filter fun e => decide (e.1 ≠ b.srcUid)) ++ [(b.srcUid, b.exportId)]
      let s4 := { s3 with pci := { s3.pci with commit := true, imports := keep.drop (keep.length - 64) } }
      ((s4.fnCmd f 6).getD s4).mbxAnswer stOk []

/-! ### Plan files (R122, R124) -/

/-- The flash partition of the plans, as a flash offset, and its size (R435). -/
def plansBase : Nat := 0x1A00000
def plansSize : Nat := 0x600000
/-- Whole sectors that a file takes. -/
def sectors (n : Nat) : Nat := (n + 8191) / 8192 * 8192
/-- The lowest place in the partition that a file of n bytes fits in; where firmware puts a file is its own choice (DESIGN CHOICE, log entry
97). -/
def State.planSpace (s : State) (n : Nat) : Option Nat :=
  let files := s.plans ++ s.intake
  (sortNat (0 :: files.map fun p => p.flashAt + sectors p.size)).find? fun o => decide (o + n ≤ plansSize) &&
    files.all fun p => decide (o + sectors n ≤ p.flashAt) || decide (p.flashAt + sectors p.size ≤ o)
/-- The sectors of a plan file are erased. -/
def State.planErase (s : State) (p : PlanFile) : State := s.flErase (plansBase + p.flashAt) (sectors p.size)
/-- PLAN_LOAD: the file is audited and stored in flash, in place of an earlier one of its class that is not admitted; on refusal the response reports
the failing rule and the file is not kept (R122, R124, log entry 97). -/
def fPlanLoad (g : Go) (file : List Byte) (prog : Program) (s : State) : State :=
  s.mbxGo g 0x0040 fun s =>
    match s.planAudit file prog with
    | 0 =>
      let p := planParse file prog
      let old := s.intake.filter fun q => decide (q.cls = p.cls)
      let s1 : State := { s with intake := s.intake.filter fun q => decide (q.cls ≠ p.cls) }
      match s1.planSpace file.length with
      | some o => (({ (old.foldl State.planErase s1) with intake := s1.intake ++ [{ p with flashAt := o }] } : State).flPut (plansBase + o)
          file).mbxAnswer stOk []
      | none => s.mbxAnswer stNoRes []
    | 1 => s.mbxAnswer stAuth (leBytes 4 1)
    | n => s.mbxAnswer stBadArg (leBytes 4 n)
/-- UNKNOWN_CMD (R322). -/
def fUnknownCmd (g : Go) (cmd : Nat) (s : State) : State := s.mbxGo g cmd fun s => s.mbxAnswer 5 []

/-- MBX_RESPOND: DONE sets, BUSY clears, and the PF vector named in MBX_CTL signals where IE is 1 (R321, R342). -/
def fMbxRespond (v : Word) (s : State) : State :=
  if !bit v 1 || !s.pci.busy then s
  else
    let s1 := { s with pci := { s.pci with busy := false, done := true } }
    if s.pci.mbxIe then s1.signalFn 0 s.pci.mbxVec else s1

/-! ### The rows -/

/-- FUNCTION_LEVEL_RESET (R320). -/
def execFunctionLevelReset (f : Fin 128) (s : State) : Host.Outcome State Fault Refusal := .next (fFlr f s)

/-- VF_ENABLE_WRITE (R320). -/
def execVfEnableWrite (enable : Bool) (numVfs : Fin 128) (s : State) : Host.Outcome State Fault Refusal := .next (fVfEnable enable numVfs s)

/-- PCIE_LINK_DOWN (R336). -/
def execPcieLinkDown (s : State) : Host.Outcome State Fault Refusal := .next (fPciDown s)

/-- PCIE_LINK_UP (R342). -/
def execPcieLinkUp (gen : Nat) (width : Nat) (s : State) : Host.Outcome State Fault Refusal := .next (fPciUp gen width s)

/-- INFO (R322). -/
def execInfo (g : Go) (s : State) : Host.Outcome State Fault Refusal := .next (fInfo g s)

/-- SET_RESOURCES (R331). -/
def execSetResources (g : Go) (fn : Nat) (qp : Nat) (share : Nat) (jquota : Nat) (s : State) : Host.Outcome State Fault Refusal := .next (fSetRes g fn qp share jquota s)

/-- SET_PARTNER_SET (R332). -/
def execSetPartnerSet (g : Go) (fn : Nat) (bitmap : List Word) (s : State) : Host.Outcome State Fault Refusal := .next (fSetPset g fn bitmap s)

/-- SET_VECTORS (R341). -/
def execSetVectors (g : Go) (fn : Nat) (base : Nat) (count : Nat) (s : State) : Host.Outcome State Fault Refusal := .next (fSetVec g fn base count s)

/-- ACTIVATE (R335). -/
def execActivate (g : Go) (fn : Nat) (s : State) : Host.Outcome State Fault Refusal := .next (fMbxFn g 0x0020 1 fn s)

/-- DRAIN (R335). -/
def execDrain (g : Go) (fn : Nat) (s : State) : Host.Outcome State Fault Refusal := .next (fMbxFn g 0x0021 2 fn s)

/-- FREEZE (R337). -/
def execFreeze (g : Go) (fn : Nat) (s : State) : Host.Outcome State Fault Refusal := .next (fMbxFn g 0x0022 3 fn s)

/-- THAW (R335). -/
def execThaw (g : Go) (fn : Nat) (s : State) : Host.Outcome State Fault Refusal := .next (fMbxFn g 0x0023 4 fn s)

/-- RELEASE (R335). -/
def execRelease (g : Go) (fn : Nat) (s : State) : Host.Outcome State Fault Refusal := .next (fMbxFn g 0x0024 5 fn s)

/-- MIGRATION_KEY (R322). -/
def execMigrationKey (g : Go) (s : State) : Host.Outcome State Fault Refusal := .next (fMigKey g s)

/-- EXPORT (R339). -/
def execExportFn (g : Go) (fn : Nat) (certOk : Bool) (dstUid : Nat) (off : Nat) (s : State) : Host.Outcome State Fault Refusal := .next (fExport g fn certOk dstUid off s)

/-- IMPORT (R340). -/
def execImportFn (g : Go) (fn : Nat) (blob : MigBlob) (s : State) : Host.Outcome State Fault Refusal := .next (fImport g fn blob s)

/-- PLAN_LOAD (R124). -/
def execPlanLoad (g : Go) (plan : PlanUpload) (s : State) : Host.Outcome State Fault Refusal :=
  .next (fPlanLoad g plan.bytes plan.prog s)

/-- UNKNOWN_CMD (R322). -/
def execUnknownCmd (g : Go) (cmd : Nat) (s : State) : Host.Outcome State Fault Refusal := .next (fUnknownCmd g cmd s)

/-- MBX_RESPOND (R342). -/
def execMbxRespond (m : Master) (v : Word) (s : State) : Host.Outcome State Fault Refusal := .next (s.gated m .pci 0 0x044 (fMbxRespond v))

/-- FN_ACTIVATE (R343). -/
def execFnActivate (m : Master) (s : State) : Host.Outcome State Fault Refusal := .next (s.gated m .vfm 0 0x048 (fFnCmd 1))

/-- FN_DRAIN (R343). -/
def execFnDrain (m : Master) (s : State) : Host.Outcome State Fault Refusal := .next (s.gated m .vfm 0 0x048 (fFnCmd 2))

/-- FN_FREEZE (R337). -/
def execFnFreeze (m : Master) (s : State) : Host.Outcome State Fault Refusal := .next (s.gated m .vfm 0 0x048 (fFnCmd 3))

/-- FN_THAW (R343). -/
def execFnThaw (m : Master) (s : State) : Host.Outcome State Fault Refusal := .next (s.gated m .vfm 0 0x048 (fFnCmd 4))

/-- FN_RELEASE (R343). -/
def execFnRelease (m : Master) (s : State) : Host.Outcome State Fault Refusal := .next (s.gated m .vfm 0 0x048 (fFnCmd 5))

/-- FN_IMPORTED (R343). -/
def execFnImported (m : Master) (s : State) : Host.Outcome State Fault Refusal := .next (s.gated m .vfm 0 0x048 (fFnCmd 6))

/-- FN_ACK_WRITE (R343). -/
def execFnAckWrite (m : Master) (v : Word) (s : State) : Host.Outcome State Fault Refusal := .next (s.gated m .vfm 0 0x044 (fFnAck v))

/-- FN_VEC_WRITE (R343). -/
def execFnVecWrite (m : Master) (v : Word) (s : State) : Host.Outcome State Fault Refusal := .next (s.gated m .vfm 0 0x054 (fFnVec v))

/-- VFM_COMMIT (R331). -/
def execVfmCommit (m : Master) (v : Word) (s : State) : Host.Outcome State Fault Refusal := .next (s.gated m .vfm 0 0x058 (fVfmCommit v))

/-- PSET_DATA_ACCESS (R343). -/
def execPsetDataAccess (m : Master) (write : Bool) (v : Word) (s : State) : Host.Outcome State Fault Refusal := .next (if write then s.gated m .vfm 0 0x060 (fPsetWrite v) else s.gatedRead m .vfm 0 0x060 fPsetRead)

end Sys2Proof.Machine
end

