-- ==== Sys2Proof/Machine/Audit.lean ====
section
/-! DEFINITION. The combined audit of frame tables and plans (R110, R112, R123, R129, R148, R310, R349, R351, R355, R357, R395): occupancy of
every heat instance and spare reservation, and the conditions under which Keystone firmware sets COX.FT_AUDIT.PASS. -/

namespace Sys2Proof.Machine

/-! ### Instances and what they occupy (R112, R119, R129, R148) -/

/-- The newest version of a class's plan that is loaded. -/
def State.newest (s : State) (cls : Nat) : Option PlanFile :=
  match s.intake.find? fun p => decide (p.cls = cls) with
  | some p => some p
  | none => s.planOf cls

/-- A resource that one heat at a time may use. -/
inductive Res where
  | pair (c p : Nat) | engine (q : Nat) | hash (k : Nat) | cipher (k : Nat) | partner | signer | slot (d : Nat)
  deriving DecidableEq, Repr

/-- An interval of strokes in which something uses a resource. The numbers name what uses it: course, offset and pair; a spare reservation,
or a heat under the tables in force. -/
structure Use where
  res    : Res
  lo     : Nat
  hi     : Nat
  course : Nat
  off    : Nat
  pair   : Nat
  spare  : Bool := false
  old    : Bool := false
  deriving DecidableEq, Repr

/-- Mortar node of an endpoint code, for a heat of course c with a binding (R119, R144); none for a role that the binding leaves unused. -/
def endpointNode (c : Nat) (b : List Nat) (x : Nat) : Option Nat :=
  let unit (i : Nat) (f : Nat → Nat) : Option Nat := let u := b.getD i 0xFF; if u = 0xFF then none else some (f u)
  match x with
  | 0x00 => some (courseNode c)
  | 0x10 => unit 0 fun q => engineNode (2 * q)
  | 0x11 => unit 1 fun q => engineNode (2 * q)
  | 0x20 => unit 2 fun k => if k < 8 then 24 else 29
  | 0x21 => unit 3 fun k => if k < 8 then 24 else 29
  | 0x30 => unit 4 fun k => if k < 8 then 30 else 35
  | 0x40 => some 1
  | 0x41 => some 2
  | 0x50 => some 34
  | _ => none
/-- The slots that a path with START t and LENGTH l owns along a route (R148). -/
def pathUses (route : List Nat) (t l : Nat) : List (Res × Nat × Nat) :=
  route.zipIdx.map fun e => (Res.slot e.1, t + 2 + 2 * e.2, t + 2 + 2 * e.2 + l)
/-- What a heat of a plan on course c, with a binding, occupies apart from its pair, launched at stroke t (R119, R120). -/
def State.occUses (s : State) (c : Nat) (b : List Nat) (p : PlanFile) (t : Nat) : List (Res × Nat × Nat) :=
  p.occ.flatMap fun o =>
    let unit (i : Nat) (f : Nat → Res) : List (Res × Nat × Nat) :=
      let u := b.getD i 0xFF
      if u = 0xFF then [] else [(f u, t + o.start, t + o.start + o.length)]
    match o.res with
    | 2 => match endpointNode c b o.role, endpointNode c b o.dest with
      | some x, some y => pathUses ((s.route? x y).getD (routeXY x y)) (t + o.start) o.length
      | _, _ => []
    | 3 => unit o.role Res.engine
    | 4 => unit (2 + o.role) Res.hash
    | 5 => unit 4 Res.cipher
    | 6 => [(Res.partner, t + o.start, t + o.start + o.length)]
    | 7 => [(Res.signer, t + o.start, t + o.start + o.length)]
    | _ => []

/-- Strokes before the audited frame, so that intervals of heats launched before it are numbers too. A plan lasts three frames at most. -/
def auditBase : Nat := 4 * frameLen
/-- Uses of a CLASS entry launched `k` frames after the first stroke counted: its pair with the turnaround, and its plan's occupancy (R110). -/
def State.classUses (s : State) (c : Nat) (e : TwoWords) (p : PlanFile) (old : Bool) (k : Nat) : List Use :=
  let t := e.off + k * frameLen
  ((Res.pair c e.pair, t, t + p.total + 300) :: s.occUses c (p.bindings.getD e.bind []) p t).map fun u =>
    { res := u.1, lo := u.2.1, hi := u.2.2, course := c, off := e.off, pair := e.pair, old := old }
/-- CLASS entries of a course in a table, with their plans. -/
def planned (plan : Nat → Option PlanFile) (l : List TwoWords) : List (TwoWords × PlanFile) :=
  (l.filter fun e => decide (e.kind = 1)).filterMap fun e => (plan e.cls).map fun p => (e, p)
/-- Every use by heats: those of the inactive tables from the audited frame on, and those of the tables in force that run into it (R112). -/
def State.heatUses (s : State) : List Use :=
  (List.range 16).flatMap fun c =>
    ((planned s.newest (s.cx c).idleTable).flatMap fun e => [4, 5, 6, 7].flatMap (s.classUses c e.1 e.2 false)) ++
    (((planned s.planOf (s.cx c).table).flatMap fun e => [1, 2, 3].flatMap (s.classUses c e.1 e.2 true)).filter fun u =>
      decide (auditBase < u.hi))
/-- Plans with slots on a course in its inactive table, once each. -/
def State.plansOn (s : State) (c : Nat) : List PlanFile := ((planned s.newest (s.cx c).idleTable).map (·.2)).eraseDups
/-- SPARE entries of a course's inactive table. -/
def State.sparesOf (s : State) (c : Nat) : List TwoWords := (s.cx c).idleTable.filter fun e => decide (e.kind = 2)
/-- Every use by spare reservations: the pairs over the window, and the RERUN occupancy of every plan covered (R129). -/
def State.spareUses (s : State) : List Use :=
  (List.range 16).flatMap fun c => (s.sparesOf c).flatMap fun e => [4, 5, 6, 7].flatMap fun k =>
    let t := e.off + k * frameLen
    ((((List.range 8).filter e.spairs.testBit).map fun p => (Res.pair e.scourse p, t, t + 8 * e.window8)) ++
      (s.plansOn c).flatMap fun p => s.occUses e.scourse p.rerun p t).map fun u =>
        { res := u.1, lo := u.2.1, hi := u.2.2, course := c, off := e.off, pair := 8, spare := true }

/-- Two uses of one resource meet. Slots of one entry in successive frames are one slot: a heat longer than a frame keeps it idle (DESIGN
CHOICE, log entry 98). Two heats of the tables in force were audited with them. -/
def Use.clash (u v : Use) : Bool :=
  decide (u.res = v.res) && decide (u.lo < v.hi) && decide (v.lo < u.hi) && !(u.old && v.old) &&
    !(decide (u.course = v.course) && decide (u.off = v.off) && decide (u.pair = v.pair) && decide (u.spare = v.spare))
/-- No use of one list meets a use of the other. -/
def apart (l r : List Use) : Bool := l.all fun u => r.all fun v => !u.clash v

/-! ### Ranges of memory (R118, R123, R129, R310) -/

/-- Two ranges, by start and length, share an address. -/
def meet (a b : Nat × Nat) : Bool := decide (a.1 < b.1 + b.2) && decide (b.1 < a.1 + a.2) && decide (0 < a.2) && decide (0 < b.2)
/-- Code image of a plan, and its data: DATA segments and SHARED regions. -/
def PlanFile.codeRange (p : PlanFile) : Nat × Nat := (p.codeAt, 4 * p.image.length)
def PlanFile.dataRanges (p : PlanFile) : List (Nat × Nat) :=
  (p.data.map fun e => (e.1, e.2.length)) ++ [(p.queueOff, p.queueSize), (p.regionOff, p.regionSize)]
/-- Two plans are the same version of the same class. -/
def PlanFile.same (p q : PlanFile) : Bool := decide (p.cls = q.cls) && decide (p.version = q.version)
/-- The code images of a list of plans do not overlap. -/
def imagesApart (l : List PlanFile) : Bool := l.all fun p => l.all fun q => p.same q || !meet p.codeRange q.codeRange
/-- Nor do their DATA segments and SHARED regions; a plan's own region lies apart from its queue, and nothing touches the journal ring. -/
def dataApart (l : List PlanFile) : Bool :=
  (l.all fun p => l.all fun q => p.same q || p.dataRanges.all fun a => q.dataRanges.all fun b => !meet a b) &&
    l.all fun p => !meet (p.queueOff, p.queueSize) (p.regionOff, p.regionSize) && p.dataRanges.all fun a => !meet a (0x90000, 0x10000)
/-- Plans loaded on a course: those of its inactive table and those still named by its active one. -/
def State.loadedOn (s : State) (c : Nat) : List PlanFile :=
  (s.plansOn c ++ (planned s.planOf (s.cx c).table).map (·.2)).eraseDups

/-! ### The conditions -/

/-- Form and order of a table (R109, R110). -/
def tableOk (l : List TwoWords) : Bool :=
  (l.all fun e => decide (e.off < frameLen) && decide (e.kind < 3) &&
    (if e.kind = 1 then decide (e.srcf ≤ 0x81) else decide (e.pair = 0) && decide (e.bind = 0))) &&
    (List.zip l (l.drop 1)).all (fun x => decide (x.1.off ≤ x.2.off)) &&
    l.zipIdx.all fun a => l.zipIdx.all fun b => decide (a.2 = b.2) || !(decide (a.1.kind = 1) && decide (b.1.kind = 1)) ||
      decide (a.1.off ≠ b.1.off) || decide (a.1.pair ≠ b.1.pair)
/-- Condition 1 of R123: every class named has an admitted plan, which has the binding. -/
def State.classesOk (s : State) (c : Nat) : Bool :=
  ((s.cx c).idleTable.filter fun e => decide (e.kind = 1)).all fun e =>
    match s.newest e.cls with
    | some p => decide (e.cls = 0) || decide (e.bind < p.bindings.length)
    | none => false
/-- Condition 3 of R123, with R395: a course with a TELEMETRY plan holds its keys above 2,032 words. -/
def State.memoryOk (s : State) (c : Nat) : Bool :=
  imagesApart (s.loadedOn c) && dataApart (s.loadedOn c) &&
    (!(s.plansOn c).any (·.telemetry) || (s.plansOn c).all fun p => decide (p.keyfoot ≤ 2032))
/-- Condition 5 of R123: no unit named by a binding is fenced. -/
def State.unitsOk (s : State) (c : Nat) : Bool :=
  (planned s.newest (s.cx c).idleTable).all fun e => [e.2.bindings.getD e.1.bind [], e.2.rerun].all fun b =>
    (List.range b.length).all fun i => let u := b.getD i 0xFF
      decide (u = 0xFF) || !(if i < 2 then s.pkeFence u else s.hcFence (decide (i = 4)) u)

/-- Offsets fall no more than 120,000 strokes apart, wrapping across the frame boundary (R129). -/
def gapsOk (l : List Nat) : Bool :=
  !l.isEmpty && l.all fun a => l.any fun b => decide (0 < (b + frameLen - a - 1) % frameLen + 1) &&
    decide ((b + frameLen - a - 1) % frameLen + 1 ≤ 120000)
/-- Plans that a pair of a spare course must hold: those of every course whose SPARE entries name it, and those of the course itself. -/
def State.heldBy (s : State) (sc p : Nat) : List PlanFile :=
  (s.plansOn sc ++ (List.range 16).flatMap fun c =>
    if (s.sparesOf c).any fun e => decide (e.scourse = sc) && e.spairs.testBit p then s.plansOn c else []).eraseDups
/-- Condition 4 of R123: the spare entries of a course (R129, R349). -/
def State.sparesOk (s : State) (c : Nat) : Bool :=
  let plans := s.plansOn c
  let sp := s.sparesOf c
  let std := (plans.filter fun p => !p.long).map (·.total)
  let lng := (plans.filter fun p => p.long).map (·.total)
  plans.isEmpty || (gapsOk (sp.map (·.off)) && (sp.all fun e => std.all fun t => decide (t ≤ 8 * e.window8)) &&
    (lng.isEmpty || gapsOk ((sp.filter fun e => lng.all fun t => decide (t ≤ 8 * e.window8)).map (·.off))) &&
    (sp.all fun e => (List.range 8).all fun p => !e.spairs.testBit p || imagesApart (s.heldBy e.scourse p)) &&
    (sp.all fun e => sp.all fun f => decide (e.scourse = f.scourse)))
/-- Queue region of a course's plans: from its lowest class queue to the end of its highest. -/
def State.queueRegion (s : State) (c : Nat) : Nat × Nat :=
  let l := (s.plansOn c).filter fun p => decide (0 < p.queueSize)
  match l.map (·.queueOff) with
  | [] => (0, 0)
  | x :: r => let b := r.foldl min x; (b, (l.map fun p => p.queueOff + p.queueSize).foldl max b - b)
/-- The shadow area of a course on its spare course, as local addresses there (R349). -/
def State.shadowRange (s : State) (c : Nat) : Option (Nat × Nat × Nat) :=
  match s.sparesOf c with
  | e :: _ => if e.scourse = c then none else some (e.scourse, 0x20000 + fld (s.reg .cox c 0x74) 0 19, (s.queueRegion c).2)
  | [] => none
/-- Shadow areas on one spare course lie apart from one another, its plan regions, its launch records and its journal ring (R349). -/
def State.shadowsOk (s : State) : Bool :=
  let l := (List.range 16).filterMap fun c => (s.shadowRange c).map fun r => (c, r)
  l.all fun a => (l.all fun b => decide (a.1 = b.1) || decide (a.2.1 ≠ b.2.1) || !meet a.2.2 b.2.2) &&
    !meet a.2.2 (0x20000, 0x4000) && !meet a.2.2 (0x90000, 0x10000) &&
    (s.heldBy a.2.1 8 ++ (List.range 8).flatMap (s.heldBy a.2.1)).all fun p => !meet a.2.2 (p.regionOff, p.regionSize)
/-- What takes the place of engine, hash and cipher pairs has room for it (R355). -/
def State.coversOk (s : State) (heats spares : List Use) : Bool :=
  let moved : List Use := heats.filterMap fun u => match u.res with
    | .engine q => if q % 12 = 11 then none else some { u with res := .engine (spareOf q) }
    | .hash k => some { u with res := .hash (s.coverOf false k) }
    | .cipher k => some { u with res := .cipher (s.coverOf true k) }
    | _ => none
  (moved.all fun u => (heats ++ match u.res with | .engine _ => spares | _ => []).all fun v => !u.clash v) &&
    heats.all fun u => match u.res with
      | .hash k => decide (k / 8 = s.coverOf false k / 8)
      | .cipher k => decide (k / 8 = s.coverOf true k / 8)
      | _ => true
/-- The route that avoids a link direction and those that are fenced, if there is one of at most 10 hops (R115, R155, R357). -/
def State.routeAvoid (s : State) (a b d : Nat) : Option (List Nat) :=
  let ok (r : List Nat) : Bool := decide (r.length ≤ 10) && r.all fun x => decide (x ≠ d) && !s.linkFenced x
  if ok (routeXY a b) then some (routeXY a b)
  else if ok (routeYX a b) then some (routeYX a b)
  else if (decide (a % 6 = b % 6) || decide (a / 6 = b / 6)) && ok (routeDetour a b) then some (routeDetour a b)
  else none
/-- For any one link direction, every path that uses it meets no owned slot on its changed route, and one exists (R357). -/
def State.detoursOk (s : State) (all : List Use) : Bool :=
  (List.range 16).all fun c => (planned s.newest (s.cx c).idleTable).all fun e =>
    let b := e.2.bindings.getD e.1.bind []
    let t := e.1.off + auditBase
    (e.2.occ.filter fun o => decide (o.res = 2)).all fun o =>
      match endpointNode c b o.role, endpointNode c b o.dest with
      | some x, some y => ((s.route? x y).getD (routeXY x y)).all fun d =>
        match s.routeAvoid x y d with
        | some r => (pathUses r (t + o.start) o.length).all fun u => decide (u.1 = .slot d) || all.all fun v =>
            !({ res := u.1, lo := u.2.1, hi := u.2.2, course := c, off := e.1.off, pair := e.1.pair } : Use).clash v
        | none => false
      | _, _ => true

/-- The combined audit of R123, with what R110, R310, R349, R355, R357 and R395 add to it. -/
def State.combinedAudit (s : State) : Bool :=
  let heats := s.heatUses
  let spares := s.spareUses
  ((List.range 16).all fun c => tableOk (s.cx c).idleTable && s.classesOk c && s.memoryOk c && s.unitsOk c && s.sparesOk c) &&
    apart heats heats && apart spares heats && s.shadowsOk && s.coversOk heats spares && s.detoursOk (heats ++ spares)

/-- Heats of a course in progress at once, at the most (R351). -/
def State.mostHeats (s : State) (c : Nat) : Nat :=
  let l := (planned s.newest (s.cx c).idleTable).flatMap fun e => [3, 4].map fun k => (e.1.off + k * frameLen, e.2.total)
  (l.map fun a => (l.filter fun b => decide (b.1 ≤ a.1) && decide (a.1 < b.1 + b.2)).length).foldl max 0
/-- Pairs that a course's SPARE entries name in the 120,000 strokes after an offset. -/
def State.sparesWithin (s : State) (c a : Nat) : Nat :=
  ((s.sparesOf c).filter fun e => decide ((e.off + frameLen - a - 1) % frameLen + 1 ≤ 120000)).foldl
    (fun n e => n + ((List.range 8).filter e.spairs.testBit).length) 0
/-- Course cover (R351). -/
def State.courseCover (s : State) (c : Nat) : Bool :=
  decide (s.mostHeats c = 0) || (!(s.sparesOf c).isEmpty && (s.sparesOf c).all fun e => decide (s.mostHeats c ≤ s.sparesWithin c e.off))

/-! ### Tables written and policy sections placed (R123, R243) -/

/-- Bytes stored as INT words at a local address of shared memory or of the general data scratch of a course's tiles. -/
def State.putData (s : State) (c a : Nat) (bs : List Byte) : State :=
  if 0x20000 ≤ a then s.putLocal c a bs
  else (List.range 16).foldl (fun s t => s.putInts (scratchBase c t + (a - 0x10000)) bs) s
/-- The POLICY section of a plan in its region, on every course with a CLASS entry for the class and every spare course that covers it
(R243). -/
def State.placePolicy (s : State) (p : PlanFile) : State :=
  (List.range 16).foldl (fun s c =>
    if (s.plansOn c).contains p then
      let s1 := s.putLocal c p.regionOff p.policy
      ((s.sparesOf c).map (·.scourse)).eraseDups.foldl (fun s sc => s.putLocal sc p.regionOff p.policy) s1
    else s) s
/-- The policy sections of every loaded plan placed, before the audit is run (R243). -/
def State.placePolicies (s : State) : State := (s.plans ++ s.intake).foldl State.placePolicy s

end Sys2Proof.Machine
end

