-- ==== Sys2Proof/Machine/Ports.lean ====
section
/-! DEFINITION. Link ports (R267-R290): Ethernet reception with envelope carriage, duplicate discard, sessions, PTP and uplink queues;
field serial reception, transmission and the link procedures of IEC 60870-5-101. -/

namespace Sys2Proof.Machine

/-! ### Telemetry (R264, R288) -/

/-- Contexts bound to a port that are installed. -/
def State.boundTo (s : State) (port : Nat) : List (Nat × Ctx) :=
  s.ptn.ctx.filter fun e => decide (e.2.version ≠ 0) && !e.2.withdrawn && decide (e.2.cfgNat 0x2C4 1 = port)
/-- ADDR and ADDR2 of a context. -/
def Ctx.addr (c : Ctx) : Nat := c.cfgNat 0x2C8 4
def Ctx.addr2 (c : Ctx) : Nat := c.cfgNat 0x2CC 4
/-- An envelope or frame that is complete goes to the classifier with the stroke and secure time of its last bit (R39). -/
def State.arrive (s : State) (port : Nat) (telemetry : Bool) (cls partner : Nat) (bytes : List Byte) : State :=
  { s with ingress := s.ingress ++ [{ cls := cls, src := port, stroke := s.stroke, time := s.secNow, valid := s.tim.valid, env := bytes
                                      partner := partner, telemetry := telemetry }] }

/-! ### Ethernet reception (R269-R276) -/

/-- A frame discarded by the filters or by R288. -/
def State.rxDiscard (s : State) (n : Nat) : State := s.count16 .eth n 0xEC 16
/-- MAC address held in a LO and a HI register. -/
def State.ethMac (s : State) (n : Nat) : Nat := (s.reg .eth n 0x44).toNat + 2 ^ 32 * fld (s.reg .eth n 0x48) 0 16
/-- A valid MCAST entry holds the address. -/
def State.mcastHit (s : State) (n a : Nat) : Bool :=
  (List.range 8).any fun k => bit (s.reg .eth n (0x94 + 8 * k)) 16 &&
    decide ((s.reg .eth n (0x90 + 8 * k)).toNat + 2 ^ 32 * fld (s.reg .eth n (0x94 + 8 * k)) 0 16 = a)
/-- The port is named in TIM.PTP_SEL. -/
def State.ptpPort (s : State) (n : Nat) : Bool := bit (s.reg .tim 0 (0x5C + 4 * (n / 32))) (n % 32)
/-- The destination address is accepted (R270). -/
def State.dstOk (s : State) (n : Nat) (f : EthFrame) : Bool :=
  let g := s.ethMain n
  decide (f.dst = s.ethMac g) || (decide (f.dst = 0xFFFFFFFFFFFF) && (match f.content with | .arp _ => true | _ => false)) ||
    s.mcastHit g f.dst || ((decide (f.dst = 0x011B19000000) || decide (f.dst = 0x0180C200000E)) && s.ptpPort n) ||
    (decide (f.dst = 0x01154E000100) && decide (s.ethPair n ≠ 0))
/-- The tags are accepted (R270). -/
def State.vlanOk (s : State) (n : Nat) (f : EthFrame) : Bool :=
  let g := s.ethMain n
  match f.vids with
  | [] => bit (s.reg .eth g 0x40) 6
  | [0] => bit (s.reg .eth g 0x40) 6
  | [v] => (List.range 8).any fun k => bit (s.reg .eth g (0x50 + 4 * k)) 12 && decide (fld (s.reg .eth g (0x50 + 4 * k)) 0 12 = v)
  | _ => false
/-- Length limits and the frame check sequence (R269). -/
def State.macFrameOk (s : State) (n : Nat) (f : EthFrame) : Bool :=
  let trailer := decide (s.ethPair n = 1) && f.redSeq.isSome
  let total := if trailer then f.len + 6 else f.len
  f.fcsOk && decide (64 ≤ total) && decide (total ≤ if trailer then 1528 else 1522)

/-- The envelope of a reassembly slot: its segments in order. -/
def Rasm.env (r : Rasm) : List Byte := (List.range r.segs).flatMap fun i => Sparse.get [] r.got i
/-- An envelope segment is placed, or discarded under R271 and R272. -/
def State.segment (s : State) (n : Nat) (udp : Bool) (src sport : Nat) (pl : List Byte) : State :=
  let g := s.ethMain n
  let segs := (pl.getD 1 0).toNat
  let seg := (pl.getD 2 0).toNat
  let len := leNat ((pl.drop 6).take 2)
  let good := decide (8 ≤ pl.length) && decide (pl.getD 0 0 = 1) && decide (pl.getD 3 0 = 0) && decide (1 ≤ segs) && decide (segs ≤ 12) &&
    decide (seg < segs) && (if seg + 1 = segs then decide (1 ≤ len) && decide (len ≤ 1456) else decide (len = 1456)) &&
    decide (8 + len ≤ pl.length)
  if !good then s
  else
    let key : RasmKey := { udp := udp, src := src, sport := sport, msgid := leNat ((pl.drop 4).take 2) }
    let x := s.ethP g
    let bytes := (pl.drop 8).take len
    let done (s : State) (r : Rasm) : State :=
      if r.got.length = r.segs then
        (s.updEth g fun y => { y with rasm := y.rasm.filter fun z => decide (z.key ≠ key) }).arrive g false 0 0 r.env
      else s.updEth g fun y => { y with rasm := (y.rasm.filter fun z => decide (z.key ≠ key)) ++ [r] }
    match x.rasm.find? fun r => decide (r.key = key) with
    | some r =>
      if r.segs ≠ segs then s.updEth g fun y => { y with rasm := y.rasm.filter fun z => decide (z.key ≠ key) }
      else if r.got.any fun e => decide (e.1 = seg) then s
      else done s { r with got := Sparse.ins seg bytes r.got }
    | none =>
      if 16 ≤ x.rasm.length then s.setSticky .eth g 4
      else done s { key := key, segs := segs, got := [(seg, bytes)], since := s.wall }

/-- N(R) of a received frame acknowledges what was sent before it (R277). -/
def Sess.acked (x : Sess) (nr wall : Nat) : Sess :=
  { x with sent := min x.sent ((x.vs + 32768 - nr) % 32768), t1At := wall }
/-- The control field of an IEC 60870-5-104 frame received on an OPEN session: counters, acknowledgements and TESTFR (R277). -/
def State.iecFrame (s : State) (g n : Nat) (pl : List Byte) : State :=
  let x := (s.ethP g).ses n
  let c := (pl.getD 2 0).toNat
  let nr := leNat ((pl.drop 4).take 2) / 2
  let y : Sess := { x with t3At := s.wall }
  if c % 2 = 0 then
    let y : Sess := { (y.acked nr s.wall) with recv := x.recv + 1, vr := (x.vr + 1) % 32768, t2At := if x.recv = 0 then s.wall else x.t2At }
    if 8 ≤ y.recv then (s.setSes g n { y with recv := 0 }).emit (.session g n 3) else s.setSes g n y
  else if c % 4 = 1 then s.setSes g n (y.acked nr s.wall)
  else if c = 0x43 then (s.setSes g n y).emit (.session g n 4)
  else if c = 0x83 then s.setSes g n { y with testing := false }
  else s.setSes g n y
/-- A complete APDU or MBAP frame of a session (R277). -/
def State.sessionData (s : State) (n : Nat) (sip sport dport : Nat) (pl : List Byte) : State :=
  let g := s.ethMain n
  let i := dport - 49152
  let x := (s.ethP g).ses i
  if 49152 ≤ dport ∧ i < 256 ∧ x.en ∧ x.data0.toNat = sip ∧ x.rport = sport then
    if x.st ≠ 3 then s
    else
      let s1 := if x.iec then s.iecFrame g i pl else s
      if (s.ctx x.partner).enabled then s1.arrive g true (fld (s.reg .eth g 0x40) 9 10) x.partner pl else s1.rxDiscard n
  else s.rxDiscard n
/-- A received GOOSE APDU matched by its APPID (R279, R288). -/
def State.gooseData (s : State) (n : Nat) (f : EthFrame) (pl : List Byte) : State :=
  let g := s.ethMain n
  let appid := (pl.getD 0 0).toNat * 256 + (pl.getD 1 0).toNat
  match (s.boundTo g).find? fun e => decide (e.2.cfgNat 0x2C6 1 = 6) && decide (e.2.addr = appid) with
  | some (p, c) =>
    if s.mcastHit g f.dst && c.enabled then s.arrive g true (fld (s.reg .eth g 0x40) 9 10) p pl else s.rxDiscard n
  | none => s.rxDiscard n
/-- A received PTP frame takes the next free slot of the RX ring with its stamp (R276). -/
def State.ptpData (s : State) (n : Nat) (bs : List Byte) : State :=
  let x := s.ethP n
  if !s.ptpPort n || decide (240 < bs.length) then s.rxDiscard n
  else if 4 ≤ x.count then s.setSticky .eth n 9
  else
    let o := 0x400 + 256 * ((x.head + x.count) % 4)
    (((s.setReg .eth n o (w32 bs.length)).setReg64 .eth n (o + 4) s.stroke).setRegs .eth n (o + 16) (toWords bs)).updEth n
      fun y => { y with count := y.count + 1 }

/-- What becomes of an accepted frame by its content (R270). -/
def State.ethContent (s : State) (n : Nat) (f : EthFrame) : State :=
  let g := s.ethMain n
  let ip := (s.reg .eth g 0x70).toNat
  match f.content with
  | .envL2 pl => if bit (s.reg .eth g 0x40) 7 then s.segment n false f.src 0 pl else s.rxDiscard n
  | .udp sip dip sport dport opts frag pl =>
    if !opts && !frag && decide (dip = ip) && decide (dport = fld (s.reg .eth g 0x74) 0 16) && decide (dport ≠ 0) then
      s.segment n true sip sport pl
    else s.rxDiscard n
  | .tcp sip dip sport dport opts frag pl =>
    if !opts && !frag && decide (dip = ip) then s.sessionData n sip sport dport pl else s.rxDiscard n
  | .goose pl => if bit (s.reg .eth g 0x40) 8 then s.gooseData n f pl else s.rxDiscard n
  | .ptp bs => s.ptpData n bs
  | .arp t => if t = ip then s.emit (.arpReply n) else s.rxDiscard n
  | .supervision => if s.ethPair n ≠ 0 then s else s.rxDiscard n
  | .other => s.rxDiscard n

/-- The duplicate table of a pair takes a frame: none where the key is held (R275). -/
def State.dupTake (s : State) (n : Nat) (f : EthFrame) : Option State :=
  let g := s.ethMain n
  match f.redSeq, f.content with
  | _, .ptp _ => some s
  | none, _ => some s
  | some q, _ =>
    if s.ethPair n = 0 then some s
    else
      let d := (s.ethP g).dup.filter fun e => decide (s.wall < e.2.2 + 400000 * usUnits)
      if d.any fun e => decide (e.1 = f.src) && decide (e.2.1 = q) then none
      else
        let s1 := if 4096 ≤ d.length then s.setSticky .eth g 8 else s
        some (s1.updEth g fun x => { x with dup := (if 4096 ≤ d.length then d.drop 1 else d) ++ [(f.src, q, s.wall)] })

/-- ETH_FRAME_RECEIVED (R268-R276). An HSR pair forwards a ring frame that is not addressed to it and discards its own (R274). -/
def fEthFrame (n : Nat) (f : EthFrame) (s : State) : State :=
  if !s.enabled .eth n || s.sisterPort n then s
  else if !s.macFrameOk n f then s.setSticky .eth n 3
  else
    let g := s.ethMain n
    let hsr := decide (s.ethPair n = 2) && f.redSeq.isSome
    if hsr && decide (f.src = s.ethMac g) then s
    else
      let fwd := hsr && decide (f.dst ≠ s.ethMac g)
      let s1 := if fwd then s.emit (.forwarded (2 * g + 1 - n) f) else s
      if !s.dstOk n f || !s.vlanOk n f then (if fwd then s1 else s1.rxDiscard n)
      else match s1.dupTake n f with
        | none => s1
        | some s2 => s2.ethContent n f

/-- REASSEMBLY_TIMEOUT: a slot open for 2 ms (R272). -/
def fRasmTimeout (n : Nat) (key : RasmKey) (s : State) : State :=
  let g := s.ethMain n
  if (s.ethP g).rasm.any fun r => decide (r.key = key) && decide (r.since + 2000 * usUnits ≤ s.wall) then
    (s.updEth g fun x => { x with rasm := x.rasm.filter fun r => decide (r.key ≠ key) }).setSticky .eth g 5
  else s

/-- DUP_ENTRY_EXPIRY: an entry 400 ms old is forgotten (R275). -/
def fDupExpiry (n mac q : Nat) (s : State) : State :=
  s.updEth (s.ethMain n) fun x => { x with dup := x.dup.filter fun e =>
    !(decide (e.1 = mac) && decide (e.2.1 = q) && decide (e.2.2 + 400000 * usUnits ≤ s.wall)) }

/-- HSR_SUPERVISION (R274). -/
def fSupervision (n : Nat) (s : State) : State :=
  if s.ethPair n ≠ 0 && s.enabled .eth (s.ethMain n) then (s.ethOuts n).foldl (fun s k => s.emit (.supervision k)) s else s

/-! ### Uplink (R273, R330) -/

/-- The UPLINK register of a port, and the drop bit of the port where the telemetry arrived (R273). -/
def State.uplinkReg (s : State) (src : Nat) : Word := if src < 64 then s.reg .eth (s.ethMain src) 0x78 else s.fsR (src - 64) 0x14
def State.uplinkDrop (s : State) (src : Nat) : State :=
  if src < 64 then s.setSticky .eth src 10 else s.fsSticky (src - 64) 10
/-- Ingress stroke of the telemetry entry with a tag. -/
def State.tagStroke (s : State) (tag : Nat) : Nat :=
  match (s.cox.flatMap fun x => x.2.heats).find? fun h => decide (h.entry.tag = tag) with
  | some h => h.entry.stroke
  | none => s.stroke

/-- UPLINK_ENVELOPE (R273, R330): the tag of the completion is the envelope's SEQ (R264). -/
def fUplink (src : Nat) (env : List Byte) (s : State) : State :=
  let u := s.uplinkReg src
  let drop (s : State) : State := s.uplinkDrop src
  if !bit u 15 then drop s
  else if bit u 7 then
    let tag := leNat ((env.drop 0x10).take 8)
    s.upward (fld u 8 7) env tag (s.tagStroke tag) drop
  else
    let t := fld u 0 6
    let g := s.ethMain t
    if !s.ethReady t || decide (16 ≤ (s.ethP g).uplink.length) then drop s
    else s.updEth g fun x => { x with uplink := x.uplink ++ [(src, env)] }

/-! ### Ethernet transmission, link and enable (R276-R279, R285, R286) -/

/-- A frame of a port or pair: its source address and VLAN tag (R270). -/
def State.wireFrame (s : State) (g dst ty : Nat) (ip : Option IpHead) (payload : List Byte) : WireFrame :=
  let v := s.reg .eth g 0x4C
  { dst := dst, src := s.ethMac g, vlan := if fld v 0 12 = 0 then none else some (fld v 0 12, fld v 12 3), etherType := ty, ip := ip
    payload := payload }
/-- A frame goes out on the port, or on both ports of its pair with one sequence number in the trailer or tag (R274). -/
def State.sendEth (s : State) (g : Nat) (out : Nat → WireFrame → Output) (f : WireFrame) : State :=
  if s.ethPair g = 0 then s.emit (out g f)
  else
    let q := (s.ethP g).redSeq
    (s.ethOuts g).foldl (fun s k => s.emit (out k { f with red := some q })) (s.updEth g fun x => { x with redSeq := (q + 1) % 65536 })
/-- The segments of an upward envelope: carriage header with KIND 0x02, and at most 1,456 bytes (R271, R273). -/
def segmentsOf (id : Nat) (env : List Byte) : List (List Byte) :=
  let n := (env.length + 1455) / 1456
  (List.range n).map fun i =>
    let b := (env.drop (1456 * i)).take 1456
    [2, BitVec.ofNat 8 n, BitVec.ofNat 8 i, 0] ++ leBytes 2 id ++ leBytes 2 b.length ++ b
/-- An upward envelope leaves for the uplink destination of the port: Layer 2, or UDP where UPL_UDP is not 0 (R273; source port: log entry
108). -/
def State.sendUp (s : State) (g id : Nat) (env : List Byte) : State :=
  let mac := (s.reg .eth g 0x7C).toNat + 2 ^ 32 * fld (s.reg .eth g 0x80) 0 16
  let udp := fld (s.reg .eth g 0x88) 0 16
  let ip : IpHead := { src := (s.reg .eth g 0x70).toNat, dst := (s.reg .eth g 0x84).toNat, sport := fld (s.reg .eth g 0x74) 0 16
                       dport := udp, tcp := false }
  (segmentsOf id env).foldl (fun s b =>
    s.sendEth g .upward (if udp = 0 then s.wireFrame g mac 0x88B5 none b else s.wireFrame g mac 0x0800 (some ip) b)) s
/-- A released GOOSE frame (R279). -/
def State.gooseFrame (s : State) (g : Nat) (e : Egress) : WireFrame :=
  s.wireFrame g (0x010C * 2 ^ 32 + (s.ctx e.partner).addr2) 0x88B8 none e.bytes
/-- The TCP segment of a session that carries a frame (R277). -/
def State.sessionFrame (s : State) (g n : Nat) (x : Sess) (bs : List Byte) : WireFrame :=
  s.wireFrame g (x.data2.toNat + 2 ^ 32 * fld x.data3 0 16) 0x0800
    (some { src := (s.reg .eth g 0x70).toNat, dst := x.data0.toNat, sport := 49152 + n, dport := x.rport, tcp := true }) bs

/-- Bytes of a released frame on the wire: a session of IEC 60870-5-104 writes N(S) and N(R) (R277). -/
def wireBytes (x : Sess) (bs : List Byte) : List Byte :=
  if x.iec then bs.take 2 ++ leBytes 2 (2 * x.vs) ++ leBytes 2 (2 * x.vr) ++ bs.drop 6 else bs
/-- A session after a frame of it was sent. -/
def Sess.sentOne (x : Sess) (wall : Nat) : Sess :=
  if x.iec then { x with sent := x.sent + 1, vs := (x.vs + 1) % 32768, recv := 0, t3At := wall, t1At := if x.sent = 0 then wall else x.t1At }
  else x

/-- ETH_TX_DONE: the last bit of the frame at the head has left the port and its entry is freed; with no released frame that may go, the
oldest upward envelope is sent (R273, R277, R285, R347). -/
def fEthTxDone (n : Nat) (s : State) : State :=
  let g := s.ethMain n
  let up : State :=
    match (s.ethP g).uplink with
    | [] => s
    | (_, env) :: r =>
      let id := (s.ethP g).msgid
      (s.updEth g fun x => { x with uplink := r, msgid := (id + 1) % 65536 }).sendUp g id env
  if !s.ethReady n then s
  else match s.egHead g with
    | none => up
    | some e =>
      if s.stroke < e.at_ + 3 then up
      else
        let ses := if s.bySession e.partner then s.sesOf g e.partner else none
        match ses with
        | some i =>
          let x := (s.ethP g).ses i
          if x.iec && decide (12 ≤ x.sent) then up
          else ((s.egFree g e).setSes g i (x.sentOne s.wall)).sendEth g (.ethFrame · e.tag) (s.sessionFrame g i x (wireBytes x e.bytes))
        | none => (s.egFree g e).sendEth g (.ethFrame · e.tag) (s.gooseFrame g e)

/-- A port loses its link: waiting frames are dropped where no port of the pair has link (R285). -/
def State.ethDown (s : State) (n : Nat) : State :=
  if !(s.ethP n).link then s
  else
    let s0 := if s.sisterPort n then { s with pairM := { s.pairM with link := false } } else s
    let s1 := (s0.updEth n fun x => { x with link := false }).setSticky .eth n 2
    if s1.ethLinked n then s1 else s1.dropFrames (s.ethMain n) fun _ => true

/-- ETH_LINK_UP (R275, R289). -/
def fEthUp (n : Nat) (speed : Nat) (s : State) : State := s.updEth n fun x => { x with link := true, speed := speed }

/-- SERDES_LANE_FAULT (R275). -/
def fLaneFault (n : Nat) (s : State) : State := (s.ethDown n).setSticky .eth n 11

/-- Upward envelopes that wait on a port are dropped, each on the port where its telemetry arrived (R286). -/
def State.uplinkFlush (s : State) (g : Nat) : State :=
  (s.ethP g).uplink.foldl (fun s e => s.uplinkDrop e.1) (s.updEth g fun x => { x with uplink := [] })
/-- What disabling a port does (R285, R286). -/
def State.ethOff (s : State) (n : Nat) : State :=
  if n = s.ethMain n then ((s.dropFrames n fun _ => true).updEth n fun x => { x with rasm := [] }).uplinkFlush n else s
/-- ETH_ENABLE_WRITE: CTL.ENABLE of an ETH page (R286). -/
def fEthEnable (n : Nat) (v : Word) (s : State) : State :=
  let on := s.enabled .eth n
  let s1 := s.setRegBit .eth n 0x008 0 (bit v 0)
  if on && !bit v 0 then s1.ethOff n else s1

/-- PTP_TX_GO (R276): LEN 0 is a reserved code. -/
def fPtpGo (n : Nat) (v : Word) (s : State) : State :=
  let x := s.ethP n
  if fld v 0 8 = 0 then s.reject .eth n 0x108 v
  else if bit v 8 && (x.ptpBusy || x.tsValid) then s.reject .eth n 0x108 v
  else
    let s1 := s.setReg .eth n 0x108 (v &&& 0xFF)
    if bit v 8 && s.ptpPort n then s1.updEth n fun x => { x with ptpBusy := true } else s1
/-- PTP_TX_STAMPED (R276). -/
def fPtpStamped (n : Nat) (s : State) : State :=
  if !(s.ethP n).ptpBusy then s
  else
    let s1 := (s.updEth n fun x => { x with ptpBusy := false, tsValid := true, tsStamp := s.stroke }).setReg64 .eth n 0x10C s.stroke
    let outs := if s.ethPair n = 2 then s.ethOuts n else [n]
    let bytes := (s.regBytes .eth n 0x800 64).take (fld (s.reg .eth n 0x108) 0 8)
    outs.foldl (fun s k => s.emit (.ptpFrame k bytes)) s1
/-- PTP_ACK.FREE (R289). -/
def fPtpAck (n : Nat) (v : Word) (s : State) : State :=
  if bit v 0 && decide (0 < (s.ethP n).count) then s.updEth n fun x => { x with head := (x.head + 1) % 4, count := x.count - 1 } else s
/-- PTP_TS_HI read: the held half, and TS_VALID clears (R30, R289). -/
def fPtpTsHi (n : Nat) (s : State) : State × Word :=
  (s.updEth n fun x => { x with tsValid := false }, Sparse.get 0 s.held (regKey .eth n 0x110))

/-! ### Sessions (R277, R278) -/

/-- The frames of a session's partner that wait are dropped (R278). -/
def State.sesDrop (s : State) (g n : Nat) : State :=
  let p := ((s.ethP g).ses n).partner
  s.dropFrames g fun e => decide (e.partner = p) && s.bySession e.partner
/-- A session leaves its state: SESSION_DOWN where it was OPEN, and its frames are dropped (R278, R289). -/
def State.sesLeave (s : State) (g n st : Nat) : State :=
  let x := (s.ethP g).ses n
  let s1 := s.sesDrop g n
  let s2 := s1.setSes g n { x with st := st, since := s.wall, sent := 0, vs := 0, recv := 0, vr := 0, testing := false }
  if x.st = 3 then s2.setSticky .eth g 7 else s2
/-- A session connects (R277). -/
def State.sesConnect (s : State) (g n : Nat) : State :=
  (s.setSes g n { ((s.ethP g).ses n) with st := 1, since := s.wall }).emit (.session g n 0)

/-- SESS_DATA_WRITE of word k of the entry SESS_SEL shows (R278, R289). The entries of an odd page of a pair are not used (R274). -/
def fSessData (port k : Nat) (v : Word) (s : State) : State :=
  let n := fld (s.reg .eth port 0xD0) 0 8
  let x := (s.ethP port).ses n
  if x.en then
    if k = 1 ∧ !bit v 29 then
      let s1 := s.sesLeave port n 0
      (s1.setSes port n { ((s1.ethP port).ses n) with data1 := v &&& 0x3FFFFFFF }).emit (.session port n 2)
    else s.reject .eth port (0xD4 + 4 * k) v
  else
    let y := match k with
      | 0 => { x with data0 := v }
      | 1 => { x with data1 := v &&& 0x3FFFFFFF }
      | 2 => { x with data2 := v }
      | _ => { x with data3 := v &&& 0xFFFF }
    let s1 := s.setSes port n y
    if y.en && decide (port = s.ethMain port) && !s.sisterPort port && !s.fieldOff then s1.sesConnect port n else s1

/-- An act on an enabled session of the port or its pair. -/
def State.onSes (s : State) (port n : Nat) (f : Nat → Sess → State) : State :=
  let g := s.ethMain port
  let x := (s.ethP g).ses n
  if x.en then f g x else s
/-- SESSION_ESTABLISHED (R277). -/
def fSesUp (port n : Nat) (s : State) : State :=
  s.onSes port n fun g x =>
    if x.st ≠ 1 then s
    else if x.iec then (s.setSes g n { x with st := 2, since := s.wall, t1At := s.wall }).emit (.session g n 1)
    else s.setSes g n { x with st := 3, since := s.wall }
/-- STARTDT_CONFIRMED (R277). -/
def fStartdt (port n : Nat) (s : State) : State :=
  s.onSes port n fun g x =>
    if x.st = 2 && x.iec then s.setSes g n { x with st := 3, since := s.wall, sent := 0, vs := 0, recv := 0, vr := 0, t3At := s.wall } else s
/-- SESSION_FAILURE (R277, R278). -/
def fSesFail (port n : Nat) (s : State) : State :=
  s.onSes port n fun g x => if x.st = 0 ∨ x.st = 4 then s else s.sesLeave g n 4
/-- BACKOFF_EXPIRY: 5 s (R277). -/
def fBackoff (port n : Nat) (s : State) : State :=
  s.onSes port n fun g x => if x.st = 4 ∧ x.since + 5000000 * usUnits ≤ s.wall then s.sesConnect g n else s
/-- IEC104_T1_EXPIRY: 15 s without the acknowledgement of a frame, of a TESTFR or of STARTDT; the session closes (R277). -/
def fT1 (port n : Nat) (s : State) : State :=
  s.onSes port n fun g x =>
    if x.iec && (decide (x.st = 2) || (decide (x.st = 3) && (decide (0 < x.sent) || x.testing))) &&
        decide (x.t1At + 15000000 * usUnits ≤ s.wall) then
      (s.sesLeave g n 4).emit (.session g n 2)
    else s
/-- IEC104_T2_EXPIRY: 10 s with received frames not acknowledged (R277). -/
def fT2 (port n : Nat) (s : State) : State :=
  s.onSes port n fun g x =>
    if x.iec ∧ x.st = 3 ∧ 0 < x.recv ∧ x.t2At + 10000000 * usUnits ≤ s.wall then
      (s.setSes g n { x with recv := 0, t3At := s.wall }).emit (.session g n 3)
    else s
/-- IEC104_T3_EXPIRY: 20 s without a frame (R277). -/
def fT3 (port n : Nat) (s : State) : State :=
  s.onSes port n fun g x =>
    if x.iec ∧ x.st = 3 ∧ x.t3At + 20000000 * usUnits ≤ s.wall then
      (s.setSes g n { x with testing := true, t3At := s.wall, t1At := if x.sent = 0 then s.wall else x.t1At }).emit (.session g n 4)
    else s
/-- TCP_RETRANSMIT_TIMEOUT (R277). -/
def fTcpRto (port n : Nat) (s : State) : State :=
  s.onSes port n fun g x => if x.st = 0 ∨ x.st = 4 then s else s.emit (.session g n 5)

/-! ### Field serial characters (R280, R281) -/

/-- Fields of CFG (R290). -/
def State.fsEn (s : State) (k : Nat) : Bool := bit (s.fsR k 0) 0
def State.fsDelim (s : State) (k : Nat) : Nat := fld (s.fsR k 0) 6 3
def State.fsFull (s : State) (k : Nat) : Bool := bit (s.fsR k 0) 9
/-- Length of a bit, and of a character with its start, parity and stop bits, in model time units: a bank clock cycle is 5 units. -/
def State.fsBit (s : State) (k : Nat) : Nat := 5 * fld (s.fsR k 4) 0 23
def State.fsChar (s : State) (k : Nat) : Nat :=
  let c := s.fsR k 0
  s.fsBit k * (1 + 7 + fld c 1 2 + (if fld c 3 2 = 0 then 0 else 1) + (if bit c 5 then 2 else 1))
/-- t1.5 and t3.5 of Modbus (R281): fixed above 19,200 b/s, where DIV is below 12,500. -/
def State.fsT15 (s : State) (k : Nat) : Nat := if fld (s.fsR k 4) 0 23 < 12500 then 750 * usUnits else s.fsChar k * 3 / 2
def State.fsT35 (s : State) (k : Nat) : Nat := if fld (s.fsR k 4) 0 23 < 12500 then 1750 * usUnits else s.fsChar k * 7 / 2
/-- A received frame is discarded: a PSTKY bit and DISCARDS (R280, R281, R290). -/
def State.fsDiscard (s : State) (k b : Nat) : State := (s.fsSticky k b).count16 .fsp (k / 16) (fsReg k 0x2C) 16

/-- Bytes before a start 0x05 0x64 are skipped. -/
def dnpSeek : List Byte → List Byte
  | [] => []
  | [b] => if b = 5 then [b] else []
  | a :: b :: r => if a = 5 ∧ b = 0x64 then a :: b :: r else dnpSeek (b :: r)
/-- The header of an IEEE 1815 link frame is good, and the frame's length (R281). -/
def dnpHeadOk (bs : List Byte) : Bool := decide (5 ≤ (bs.getD 2 0).toNat) && decide (crcDnp (bs.take 8) = leNat ((bs.drop 8).take 2))
def dnpLen (bs : List Byte) : Nat := let d := (bs.getD 2 0).toNat - 5; 10 + d + 2 * ((d + 15) / 16)
/-- Bytes that cannot begin an FT1.2 frame are skipped (R281). -/
def ftSeek : List Byte → List Byte
  | [] => []
  | b :: r =>
    if b = 0xE5 ∨ b = 0x10 then b :: r
    else if b = 0x68 ∧ (r.length < 3 ∨ (r.getD 0 0 = r.getD 1 0 ∧ r.getD 2 0 = 0x68)) then b :: r
    else ftSeek r
/-- Length of an FT1.2 frame, known once its length bytes are there. -/
def ftLen (bs : List Byte) : Option Nat :=
  match bs with
  | b :: r => if b = 0xE5 then some 1 else if b = 0x10 then some 5 else if 3 ≤ r.length then some (6 + (r.getD 0 0).toNat) else none
  | [] => none
/-- Checksum and end byte of an FT1.2 frame. -/
def ftOk (bs : List Byte) : Bool :=
  let sum (l : List Byte) : Nat := (l.foldl (fun a b => a + b.toNat) 0) % 256
  if bs = [0xE5] then true
  else if bs.getD 0 0 = 0x10 then decide ((bs.getD 3 0).toNat = sum ((bs.drop 1).take 2)) && decide (bs.getD 4 0 = 0x16)
  else
    let l := (bs.getD 1 0).toNat
    decide ((bs.getD (4 + l) 0).toNat = sum ((bs.drop 4).take l)) && decide (bs.getD (5 + l) 0 = 0x16)
/-- Escapes of asynchronous HDLC removed. -/
def hdlcOpen : List Byte → List Byte
  | [] => []
  | [b] => [b]
  | a :: b :: r => if a = 0x7D then (b ^^^ 0x20) :: hdlcOpen r else a :: hdlcOpen (b :: r)
/-- Longest frame (R281). -/
def fsMax (delim : Nat) : Nat := match delim with | 1 => 292 | 2 => 261 | 3 => 256 | _ => 1024

/-- What a port puts on its line; a bank without a valid supply holds its outputs at high impedance (R496). -/
def State.fsEmit (s : State) (k : Nat) (o : Output) : State := if s.pwr.vioBad.contains (k / 16) then s else s.emit o

/-- FS_BREAK (R280). -/
def fFsBreak (k : Nat) (s : State) : State :=
  if !s.fsEn k || s.pwr.vioBad.contains (k / 16) then s
  else
    let s1 := if (s.fsP k).rx.isEmpty then s.fsSticky k 2 else s.fsDiscard k 2
    s1.updFs k fun x => { x with rx := [], rxBad := false, brk := true }

/-- The receiver takes characters: it is off while the driver is enabled in half duplex (R282). -/
def State.fsListens (s : State) (k : Nat) : Bool :=
  s.fsEn k && (s.fsFull k || !(s.fsP k).de) && !s.pwr.vioBad.contains (k / 16)

/-- FS_CHARACTER_RECEIVED (R280, R281). -/
def fFsChar (k : Nat) (ch : BitVec 9) (parityOk stopOk : Bool) (s : State) : State :=
  if !s.fsListens k then s
  else
    let c := s.fsR k 0
    let d := s.fsDelim k
    let x := s.fsP k
    let s0 := s.setFs k { x with brk := false, rxLast := s.wall }
    let fail (b : Nat) : State := (s0.fsDiscard k b).updFs k fun y => { y with rx := [], rxBad := d ≠ 1 && d ≠ 2 }
    let b := ch.setWidth 8
    if !stopOk then fail 0
    else if !parityOk && decide (fld c 3 2 ≠ 0) then fail 1
    else if d = 3 && !x.rx.isEmpty && decide (s.fsT15 k < s.wall - s.fsChar k - x.rxLast) then fail 3
    else if x.rxBad && !((d == 4 || d == 5) && decide (b = 0x7E)) then s0
    else
      let rx := if x.rxBad then [b] else if fld c 1 2 = 2 && ch.getLsbD 8 then [b] else x.rx ++ [b]
      let s1 := s0.updFs k fun y => { y with rxBad := false }
      let keep (l : List Byte) (s : State) : State := s.updFs k fun y => { y with rx := l }
      match d with
      | 1 =>
        let l := dnpSeek rx
        if l.length = 10 ∧ !dnpHeadOk l then keep (dnpSeek (l.drop 1)) (s1.fsDiscard k 4) else keep l s1
      | 2 => keep (ftSeek rx) s1
      | _ => if fsMax d < rx.length then fail 5 else keep rx s1

/-! ### Field serial frames (R281, R284, R288) -/

/-- Delimiter of a protocol on a serial port (R288). -/
def protoDelim (proto : Nat) : Nat := match proto with | 1 => 1 | 2 => 2 | 4 => 3 | _ => 0
/-- The context that a serial frame matches (R288). -/
def State.fsMatch (s : State) (k : Nat) (bs : List Byte) : Option (Nat × Ctx) :=
  if fld (s.fsR k 0) 1 2 ≠ 1 then none
  else (s.boundTo (64 + k)).find? fun e =>
    let p := e.2.cfgNat 0x2C6 1
    decide (protoDelim p = s.fsDelim k) && match p with
      | 1 => decide (leNat ((bs.drop 6).take 2) = e.2.addr)
      | 2 => decide (bs.getD 0 0 = 0x68) && decide ((bs.getD 5 0).toNat = e.2.addr2) && decide ((bs.getD 9 0).toNat = e.2.addr)
      | 4 => decide ((bs.getD 0 0).toNat = e.2.addr)
      | _ => false
/-- The delimiter is that of the protocol of the contexts bound to the port, in the format native classes need (R280, R288). -/
def State.fsNative (s : State) (k : Nat) : Bool :=
  decide (fld (s.fsR k 0) 1 2 = 1) && (s.boundTo (64 + k)).any fun e =>
    decide (protoDelim (e.2.cfgNat 0x2C6 1) = s.fsDelim k) && decide (s.fsDelim k ≠ 0)
/-- A checked frame is matched: telemetry, a legacy queue, or discarded as from an unknown source (R288). -/
def State.fsDeliver (s : State) (k : Nat) (bs : List Byte) : State :=
  match s.fsMatch k bs with
  | some (p, c) =>
    if c.enabled then s.arrive (64 + k) true (fld (s.fsR k 0) 12 10) p bs else s.fsDiscard k 8
  | none =>
    if !s.fsNative k && (s.legacyCourse (1024 + 64 + k)).isSome then s.arrive (64 + k) true (1024 + 64 + k) 0 bs
    else s.fsDiscard k 8

/-- The port becomes ready for its next frame (R283). -/
def State.fsReady (s : State) (k : Nat) : State := s.updFs k fun x => { x with phase := .idle, ready := s.stroke, since := s.wall }
/-- The balanced link procedures run on the port (R284). -/
def State.l101 (s : State) (k : Nat) : Bool := decide (s.fsDelim k = 2) && bit (s.fsR k 0x10) 4
/-- Link address of a variable frame. -/
def linkAddr (bs : List Byte) : Nat := (bs.getD 5 0).toNat

/-- The transmission that awaits a confirmation is confirmed (R284). -/
def State.l101Ack (s : State) (k : Nat) : State :=
  let x := s.fsP k
  if !x.await then s
  else
    let links := match x.tx with
      | some (.linkReset a) => Sparse.ins a true (Sparse.del a x.links)
      | some (.frame e) | some (.copy e) =>
        let a := linkAddr e.bytes
        Sparse.ins a (!Sparse.get true x.links a) (Sparse.del a x.links)
      | none => x.links
    (s.setFs k { x with links := links, await := false, again := false, tries := 0, copy := none, tx := none }).fsReady k
/-- A NACK or a timeout repeats the transmission, or with the retries exhausted drops the frame (R284). -/
def State.l101Retry (s : State) (k : Nat) : State :=
  let x := s.fsP k
  if x.tries < fld (s.fsR k 0x10) 0 3 then
    (s.setFs k { x with tries := x.tries + 1, await := false, again := true }).fsReady k
  else
    let clear (a : Nat) (s : State) : State :=
      (s.updFs k fun y => { y with links := Sparse.del a y.links, tries := 0, await := false, again := false, copy := none, tx := none }).fsReady k
    match x.tx with
    | some (.frame e) | some (.copy e) =>
      (clear (linkAddr e.bytes) (({ s with released := s.released.filter (· ≠ e.tag) }).egressDrop (64 + k) e.tag)).fsSticky k 9
    | some (.linkReset a) =>
      let s1 := match s.egHead (64 + k) with
        | some e => (s.setEgq (64 + k) ((s.egq (64 + k)).erase e)).egressDrop (64 + k) e.tag
        | none => s
      (clear a s1).fsSticky k 9
    | none => s

/-- A frame on a port that runs the link procedures: fixed frames and 0xE5 are consumed, user data is answered (R284). -/
def State.l101Frame (s : State) (k : Nat) (bs : List Byte) : State :=
  let fixed := decide (bs.getD 0 0 = 0x10)
  let c := if fixed then bs.getD 1 0 else bs.getD 4 0
  let a := if fixed then (bs.getD 2 0).toNat else linkAddr bs
  let fn := c.toNat % 16
  let bound := (s.boundTo (64 + k)).any fun e => decide (e.2.cfgNat 0x2C6 1 = 2) && decide (e.2.addr2 = a)
  if bs = [0xE5] then s.l101Ack k
  else if fixed && !c.getLsbD 6 then
    if fn = 0 then s.l101Ack k else if fn = 1 ∧ (s.fsP k).await then s.l101Retry k else s
  else if fixed then
    if !bound then s
    else if fn = 0 then (s.updFs k fun x => { x with rxFcb := Sparse.del a x.rxFcb }).fsEmit k (.linkAnswer k 0)
    else if fn = 9 then s.fsEmit k (.linkAnswer k 1)
    else s
  else if c.getLsbD 6 && decide (fn = 3) && bound then
    let fcb := c.getLsbD 5
    let seen := c.getLsbD 4 && (s.fsP k).rxFcb.any fun e => decide (e.1 = a) && decide (e.2 = fcb)
    let s1 := s.fsEmit k (.linkAnswer k 0)
    if seen then s1 else (s1.updFs k fun x => { x with rxFcb := Sparse.ins a fcb (Sparse.del a x.rxFcb) }).fsDeliver k bs
  else s.fsDeliver k bs

/-- A complete frame: it ends the response window and goes where R284 and R288 say. -/
def State.fsFrame (s : State) (k : Nat) (bs : List Byte) : State :=
  let s1 := (s.updFs k fun x => { x with rx := [], rxBad := false }).count16 .fsp (k / 16) (fsReg k 0x30) 16
  let s2 := if (s1.fsP k).phase = .turn ∧ !(s1.fsP k).await then s1.fsReady k else s1
  if s2.l101 k then s2.l101Frame k bs else s2.fsDeliver k bs

/-- FS_FRAME_RECEIVED: a frame whose delimiter shows its end (R281). -/
def fFsFrame (k : Nat) (s : State) : State :=
  let rx := (s.fsP k).rx
  let bad (b : Nat) : State := (s.fsDiscard k b).updFs k fun x => { x with rx := [] }
  if !s.fsEn k then s
  else match s.fsDelim k with
    | 1 => if 10 ≤ rx.length ∧ dnpLen rx ≤ rx.length then s.fsFrame k rx else s
    | 2 =>
      match ftLen rx with
      | some n => if n ≤ rx.length then (if ftOk rx then s.fsFrame k rx else bad 4) else s
      | none => s
    | 4 | 5 =>
      let w := if s.fsDelim k = 4 then 2 else 4
      let l := hdlcOpen ((rx.dropWhile (· = 0x7E)).takeWhile (· ≠ 0x7E))
      let body := l.take (l.length - w)
      let crc := leNat (l.drop (l.length - w))
      if rx.getLast? ≠ some 0x7E then s
      else if l.isEmpty then s
      else if w < l.length ∧ (if w = 2 then crcHdlc16 body else crcHdlc32 body) = crc then s.fsFrame k body
      else bad 4
    | _ => s

/-- FS_IDLE_TIMEOUT: idle line ends a GAP or MODBUS frame, or breaks an FT1.2 frame (R281). -/
def fFsIdle (k : Nat) (s : State) : State :=
  let x := s.fsP k
  let idle := s.wall - x.rxLast
  let ends := match s.fsDelim k with
    | 0 => decide (fld (s.fsR k 0xC) 0 8 * s.fsChar k ≤ idle)
    | 3 => decide (s.fsT35 k ≤ idle)
    | 2 => decide (s.fsChar k < idle)
    | _ => false
  if !s.fsEn k || !ends then s
  else if x.rx.isEmpty then s.setFs k { x with rxBad := false }
  else if s.fsDelim k = 2 then (s.fsDiscard k 3).updFs k fun y => { y with rx := [] }
  else if s.fsDelim k = 3 ∧ (x.rx.length < 4 ∨ crcModbus (x.rx.take (x.rx.length - 2)) ≠ leNat (x.rx.drop (x.rx.length - 2))) then
    (s.fsDiscard k 4).updFs k fun y => { y with rx := [] }
  else s.fsFrame k x.rx

/-! ### Field serial transmission (R282-R286) -/

/-- What the port sends next: the repeated transmission, or the head of its queue, before it a reset of a link not yet reset (R284). -/
def State.fsNext (s : State) (k : Nat) : Option FsTx :=
  let x := s.fsP k
  if x.again then
    match x.tx with
    | some (.frame e) => some (.copy e)
    | t => t
  else match s.egHead (64 + k) with
    | none => none
    | some e => if s.l101 k && !x.links.any fun l => decide (l.1 = linkAddr e.bytes) then some (.linkReset (linkAddr e.bytes)) else some (.frame e)

/-- The user data frame with FCV, FCB, DIR and its checksum written by the link layer (R284). -/
def l101Bytes (fcb dir : Bool) (bs : List Byte) : List Byte :=
  let c := (bs.getD 4 0 &&& 0x4F) ||| 0x10 ||| (if fcb then 0x20 else 0) ||| (if dir then 0x80 else 0)
  let body := c :: (bs.drop 5).take ((bs.getD 1 0).toNat - 1)
  bs.take 4 ++ body ++ [BitVec.ofNat 8 (body.foldl (fun a b => a + b.toNat) 0), 0x16]
/-- Bytes a transmission puts on the line (R281, R284). -/
def State.fsBytes (s : State) (k : Nat) (t : FsTx) : List Byte :=
  match t with
  | .linkReset a =>
    let c : Byte := if bit (s.fsR k 0x10) 3 then 0xC0 else 0x40
    [0x10, c, BitVec.ofNat 8 a, c + BitVec.ofNat 8 a, 0x16]
  | .frame e | .copy e =>
    if s.l101 k then l101Bytes (Sparse.get true (s.fsP k).links (linkAddr e.bytes)) (bit (s.fsR k 0x10) 3) e.bytes
    else if s.fsDelim k = 4 ∨ s.fsDelim k = 5 then
      let crc := if s.fsDelim k = 4 then leBytes 2 (crcHdlc16 e.bytes) else leBytes 4 (crcHdlc32 e.bytes)
      [0x7E] ++ ((e.bytes ++ crc).flatMap fun b => if b = 0x7E ∨ b = 0x7D then [0x7D, b ^^^ 0x20] else [b]) ++ [0x7E]
    else e.bytes
/-- The transmit rule of the delimiter (R281). -/
def State.fsIdleOk (s : State) (k : Nat) : Bool :=
  let idle := s.wall - (s.fsP k).rxLast
  match s.fsDelim k with
  | 0 => decide (fld (s.fsR k 0xC) 0 8 * s.fsChar k ≤ idle)
  | 2 => decide (33 * s.fsBit k ≤ idle)
  | 3 => decide (s.fsT35 k ≤ idle)
  | _ => true

/-- FS_LEAD_START (R282, R283): the lead, or in full duplex the first start bit. -/
def fFsLead (k : Nat) (s : State) : State :=
  let x := s.fsP k
  let due (t : FsTx) : Nat := match t with | .frame e => max e.at_ x.ready + 144 | _ => x.ready + 144
  match s.fsNext k with
  | none => s
  | some t =>
    if !s.fsEn k || decide (x.phase ≠ .idle) || decide (s.stroke < due t) || !s.fsIdleOk k || (!s.fsFull k && !x.rx.isEmpty) then s
    else if s.fsFull k then s.setFs k { x with phase := .sending, since := s.wall, de := true, tx := some t }
    else s.setFs k { x with phase := .lead, since := s.wall, de := true, tx := some t }

/-- FS_TX_START: LEAD bit times after the driver is enabled (R282). -/
def fFsStart (k : Nat) (s : State) : State :=
  let x := s.fsP k
  if x.phase = .lead ∧ x.since + fld (s.fsR k 8) 0 8 * s.fsBit k ≤ s.wall then s.setFs k { x with phase := .sending, since := s.wall } else s

/-- After the last stop bit in full duplex, or after the driver's release: the response window, the wait for a confirmation, or
readiness (R283, R284). -/
def State.fsWindow (s : State) (k : Nat) : State :=
  if (s.fsP k).await || decide (fld (s.fsR k 0xC) 8 16 ≠ 0) then s.updFs k fun x => { x with phase := .turn, since := s.wall }
  else s.fsReady k

/-- FS_TX_DONE: the last stop bit has left the port and the entry is freed (R282, R284, R285). -/
def fFsDone (k : Nat) (echoed : List Byte) (s : State) : State :=
  let x := s.fsP k
  match x.phase, x.tx with
  | .sending, some t =>
    let bs := s.fsBytes k t
    let s1 := if !s.fsFull k && bit (s.fsR k 0) 10 && decide (echoed ≠ bs) then s.fsSticky k 6 else s
    let s2 := match t with
      | .frame e => (s1.egFree (64 + k) e).fsEmit k (.serial k e.tag bs)
      | .copy e => s1.fsEmit k (.serial k e.tag bs)
      | .linkReset _ => s1.fsEmit k (.linkAnswer k 2)
    let s3 := s2.count16 .fsp (k / 16) (fsReg k 0x30) 0
    let s4 := s3.updFs k fun y =>
      { y with phase := .lag, since := s.wall, await := s.l101 k, again := false
               copy := if s.l101 k then (match t with | .frame e | .copy e => some e | .linkReset _ => none) else none }
    if s.fsFull k then s4.fsWindow k else s4
  | _, _ => s

/-- FS_DRIVER_RELEASE: LAG bit times after the last stop bit (R282). -/
def fFsRelease (k : Nat) (s : State) : State :=
  let x := s.fsP k
  if x.phase = .lag ∧ x.since + fld (s.fsR k 8) 8 8 * s.fsBit k ≤ s.wall then
    let s1 := s.setFs k { x with de := false }
    if s.fsEn k then s1.fsWindow k else s1.fsReady k
  else s

/-- FS_TURN_EXPIRY (R283). -/
def fFsTurn (k : Nat) (s : State) : State :=
  let x := s.fsP k
  if x.phase = .turn ∧ !x.await ∧ x.since + fld (s.fsR k 0xC) 8 16 * 1000 * usUnits ≤ s.wall then s.fsReady k else s

/-- L101_ACK_TIMEOUT (R284). -/
def fL101Timeout (k : Nat) (s : State) : State :=
  let x := s.fsP k
  if x.phase = .turn ∧ x.await ∧ x.since + fld (s.fsR k 0x10) 5 16 * 1000 * usUnits ≤ s.wall then s.l101Retry k else s

/-- A serial port is disabled: its frames are dropped; a transmission stops at the end of the character and the driver is released
LAG bit times later; during the lead it is released at once (R285, R286). -/
def State.fsOff (s : State) (k : Nat) : State :=
  let x := s.fsP k
  let s0 := match x.copy with | some e => s.egressDrop (64 + k) e.tag | none => s
  let s1 := s0.dropFrames (64 + k) fun _ => true
  let y : Fsp := { x with rx := [], rxBad := false, tx := none, links := [], rxFcb := [], tries := 0, await := false, again := false, copy := none }
  if x.phase = .sending ∧ !s.fsFull k then s1.setFs k { y with phase := .lag, since := s.wall }
  else if x.phase = .lag ∧ !s.fsFull k then s1.setFs k y
  else s1.setFs k { y with phase := .idle, de := false, ready := s.stroke }

/-- FS_CFG_WRITE (R286, R3). -/
def fFsCfg (k : Nat) (v : Word) (s : State) : State :=
  let o := fsReg k 0
  if s.fsEn k then
    if bit v 0 then s.reject .fsp (k / 16) o v
    else (s.setRegBit .fsp (k / 16) o 0 false).fsOff k
  else if fld v 1 2 = 3 ∨ fld v 3 2 = 3 ∨ 6 ≤ fld v 6 3 then s.reject .fsp (k / 16) o v
  else
    let s1 := s.setReg .fsp (k / 16) o (v &&& 0x3FFFFF)
    if bit v 0 then s1.updFs k fun x => { x with de := if x.phase = .lag then x.de else bit v 9 && !s.fieldOff, ready := s.stroke } else s1

/-! ### The rows -/

/-- ETH_FRAME_RECEIVED (R270). -/
def execEthFrameReceived (port : Fin 64) (f : EthFrame) (s : State) : Host.Outcome State Fault Refusal := .next (fEthFrame port f s)

/-- REASSEMBLY_TIMEOUT (R272). -/
def execReassemblyTimeout (port : Fin 64) (key : RasmKey) (s : State) : Host.Outcome State Fault Refusal := .next (fRasmTimeout port key s)

/-- DUP_ENTRY_EXPIRY (R275). -/
def execDupEntryExpiry (port : Fin 64) (mac : Nat) (seq : Nat) (s : State) : Host.Outcome State Fault Refusal := .next (fDupExpiry port mac seq s)

/-- HSR_SUPERVISION (R274). -/
def execHsrSupervision (port : Fin 64) (s : State) : Host.Outcome State Fault Refusal := .next (fSupervision port s)

/-- ETH_TX_DONE (R285). -/
def execEthTxDone (port : Fin 64) (s : State) : Host.Outcome State Fault Refusal := .next (fEthTxDone port s)

/-- ETH_LINK_DOWN (R285). -/
def execEthLinkDown (port : Fin 64) (s : State) : Host.Outcome State Fault Refusal := .next (s.ethDown port)

/-- ETH_LINK_UP (R275). -/
def execEthLinkUp (port : Fin 64) (speed : BitVec 2) (s : State) : Host.Outcome State Fault Refusal := .next (fEthUp port speed.toNat s)

/-- SERDES_LANE_FAULT (R344). -/
def execSerdesLaneFault (port : Fin 64) (s : State) : Host.Outcome State Fault Refusal := .next (fLaneFault port s)

/-- PTP_TX_GO (R276). -/
def execPtpTxGo (m : Master) (port : Fin 64) (v : Word) (s : State) : Host.Outcome State Fault Refusal := .next (s.gated m .eth port 0x108 (fPtpGo port v))

/-- PTP_TX_STAMPED (R276). -/
def execPtpTxStamped (port : Fin 64) (s : State) : Host.Outcome State Fault Refusal := .next (fPtpStamped port s)

/-- PTP_ACK_WRITE (R289). -/
def execPtpAckWrite (m : Master) (port : Fin 64) (v : Word) (s : State) : Host.Outcome State Fault Refusal := .next (s.gated m .eth port 0x104 (fPtpAck port v))

/-- PTP_TS_HI_READ (R289). -/
def execPtpTsHiRead (m : Master) (port : Fin 64) (s : State) : Host.Outcome State Fault Refusal := .next (s.gatedRead m .eth port 0x110 (fPtpTsHi port))

/-- SESS_DATA_WRITE (R278). -/
def execSessDataWrite (m : Master) (port : Fin 64) (k : Fin 4) (v : Word) (s : State) : Host.Outcome State Fault Refusal := .next (s.gated m .eth port (0xD4 + 4 * k.val) (fSessData port k v))

/-- SESSION_ESTABLISHED (R277). -/
def execSessionEstablished (port : Fin 64) (n : Fin 256) (s : State) : Host.Outcome State Fault Refusal := .next (fSesUp port n s)

/-- STARTDT_CONFIRMED (R277). -/
def execStartdtConfirmed (port : Fin 64) (n : Fin 256) (s : State) : Host.Outcome State Fault Refusal := .next (fStartdt port n s)

/-- SESSION_FAILURE (R277). -/
def execSessionFailure (port : Fin 64) (n : Fin 256) (s : State) : Host.Outcome State Fault Refusal := .next (fSesFail port n s)

/-- BACKOFF_EXPIRY (R277). -/
def execBackoffExpiry (port : Fin 64) (n : Fin 256) (s : State) : Host.Outcome State Fault Refusal := .next (fBackoff port n s)

/-- IEC104_T1_EXPIRY (R277). -/
def execIec104T1Expiry (port : Fin 64) (n : Fin 256) (s : State) : Host.Outcome State Fault Refusal := .next (fT1 port n s)

/-- IEC104_T2_EXPIRY (R277). -/
def execIec104T2Expiry (port : Fin 64) (n : Fin 256) (s : State) : Host.Outcome State Fault Refusal := .next (fT2 port n s)

/-- IEC104_T3_EXPIRY (R277). -/
def execIec104T3Expiry (port : Fin 64) (n : Fin 256) (s : State) : Host.Outcome State Fault Refusal := .next (fT3 port n s)

/-- TCP_RETRANSMIT_TIMEOUT (R277). -/
def execTcpRetransmitTimeout (port : Fin 64) (n : Fin 256) (s : State) : Host.Outcome State Fault Refusal := .next (fTcpRto port n s)

/-- FS_CFG_WRITE (R286). -/
def execFsCfgWrite (m : Master) (k : Fin 192) (v : Word) (s : State) : Host.Outcome State Fault Refusal := .next (s.gated m .fsp (k.val / 16) (fsReg k.val 0) (fFsCfg k v))

/-- FS_FRAME_RECEIVED (R281). -/
def execFsFrameReceived (k : Fin 192) (s : State) : Host.Outcome State Fault Refusal := .next (fFsFrame k s)

/-- FS_IDLE_TIMEOUT (R281). -/
def execFsIdleTimeout (k : Fin 192) (s : State) : Host.Outcome State Fault Refusal := .next (fFsIdle k s)

/-- FS_BREAK (R280). -/
def execFsBreak (k : Fin 192) (s : State) : Host.Outcome State Fault Refusal := .next (fFsBreak k s)

/-- FS_LEAD_START (R282). -/
def execFsLeadStart (k : Fin 192) (s : State) : Host.Outcome State Fault Refusal := .next (fFsLead k s)

/-- FS_TX_START (R282). -/
def execFsTxStart (k : Fin 192) (s : State) : Host.Outcome State Fault Refusal := .next (fFsStart k s)

/-- FS_TX_DONE (R285). -/
def execFsTxDone (k : Fin 192) (echoed : List Byte) (s : State) : Host.Outcome State Fault Refusal := .next (fFsDone k echoed s)

/-- FS_DRIVER_RELEASE (R282). -/
def execFsDriverRelease (k : Fin 192) (s : State) : Host.Outcome State Fault Refusal := .next (fFsRelease k s)

/-- FS_TURN_EXPIRY (R283). -/
def execFsTurnExpiry (k : Fin 192) (s : State) : Host.Outcome State Fault Refusal := .next (fFsTurn k s)

/-- L101_ACK_TIMEOUT (R284). -/
def execL101AckTimeout (k : Fin 192) (s : State) : Host.Outcome State Fault Refusal := .next (fL101Timeout k s)

/-- FS_CHARACTER_RECEIVED (R280). -/
def execFsCharacterReceived (k : Fin 192) (ch : BitVec 9) (parityOk : Bool) (stopOk : Bool) (s : State) : Host.Outcome State Fault Refusal := .next (fFsChar k ch parityOk stopOk s)

end Sys2Proof.Machine
end

