-- ==== Sys2Proof/Machine/PairLink.lean ====
section
/-! DEFINITION. Pair mode (R360-R366) and the service state (R56): the mark stream, its acknowledgements, resynchronisation, demotion,
takeover, the field's part of it. -/

namespace Sys2Proof.Machine

/-- Update of the pair mode record. -/
def State.updPm (s : State) (f : PairMode → PairMode) : State := { s with pairM := f s.pairM }

/-- MARK_STREAM_RECEIVED: the standby applies the message with its T_m and acknowledges it; a gap or another VERSION ends ELIGIBLE
(R361, R362). -/
def fMarkStream (g : StreamMsg) (s : State) : State :=
  if s.pairM.role ≠ 2 then s
  else
    let bad := decide (g.num ≠ s.pairM.expect) || decide ((s.ctx g.partner.val).version ≠ g.version)
    let s1 := (s.markOn g.partner.val g.seq g.tag g.mark g.rate g.set g.clear g.tm).1
    let cmd := g.mark && (match s.planOf g.cls with | some p => !p.telemetry | none => true)
    let s2 := s1.updPm fun x =>
      { x with expect := g.num + 1, lastMsg := s.wall, eligible := x.eligible && !bad
               open_ := if cmd then x.open_ ++ [(g.partner.val, g.seq, g.tag, g.cls)] else x.open_ }
    (if bad then s2.setSticky .sys 0 5 else s2).emit (.sister 1 g.num 0)

/-- RELEASE_NOTICE_RECEIVED (R361). -/
def fReleaseNotice (tag : Nat) (s : State) : State :=
  if s.pairM.role ≠ 2 then s
  else s.updPm fun x => { x with open_ := x.open_.filter fun e => decide (e.2.2.1 ≠ tag), lastMsg := s.wall }

/-- Held releases whose mark is acknowledged, or all of them, take effect (R361, R362). -/
def State.releaseHeld (s : State) (all : Bool) : State :=
  let go := s.pairM.held.filter fun h => all || !s.pairM.unacked.any fun u => decide (u.2 = h.2.1)
  go.foldl (fun s h => s.release h.1 h.2.1) (s.updPm fun x => { x with held := x.held.filter fun h => !go.contains h })

/-- MARK_ACK_RECEIVED (R361). -/
def fMarkAck (num : Nat) (s : State) : State :=
  let s1 := s.updPm fun x => { x with unacked := x.unacked.filter fun u => decide (u.1 ≠ num) }
  if s.pairM.role = 1 then s1.releaseHeld false else s1

/-- PAIR_ACK_TIMEOUT: 12,000 strokes after a release without its acknowledgement (R362). -/
def fAckTimeout (s : State) : State :=
  if s.pairM.role = 1 ∧ (s.pairM.held.any fun h => decide (h.2.2 + 12000 ≤ s.stroke)) then
    (s.updPm fun x => { x with alone := true }).releaseHeld true
  else s

/-- STREAM_TIMEOUT: 10 µs without a message or heartbeat (R362). -/
def fStreamTimeout (s : State) : State :=
  if s.pairM.role = 2 ∧ s.pairM.lastMsg + 10 * usUnits ≤ s.wall then (s.updPm fun x => { x with eligible := false }).setSticky .sys 0 5
  else s

/-- SISTER_LINK_UP: the active device leaves ALONE and resends the mutable area of every installed context (R362). -/
def fSisterUp (s : State) : State :=
  if !s.pairSet then s
  else
    let s1 := s.updPm fun x => { x with link := true, alone := false, resync := true, unacked := [], lastMsg := s.wall }
    if s.pairM.role = 1 then
      (s.ptn.ctx.filter fun e => decide (e.2.version ≠ 0)).foldl (fun s e => s.emit (.sister 3 e.1 0)) s1
    else s1

/-- The mutable area of a context image applied to a context (R219, R362). -/
def Ctx.takeMutable (c : Ctx) (b : List Byte) : Ctx :=
  let n (o k : Nat) : Nat := leNat ((b.drop o).take k)
  { c with enabled := (b.getD 2 0).getLsbD 0, ringNext := n 3 1 % 16, state := w32 (n 4 4), hw := n 8 8, fence := n 0x10 8
           rate := (List.range 4).foldl (fun m k => Sparse.set {} m k { count := n (0x20 + 8 * k) 4, epoch := n (0x24 + 8 * k) 4 }) []
           window := BitVec.ofNat 1024 (n 0x40 128)
           ring := (List.range 16).foldl (fun m k =>
             let r : RingMark := { seq := n (0xC0 + 32 * k) 8, tag := n (0xC8 + 32 * k) 8, stroke := n (0xD0 + 32 * k) 8, used := true }
             Sparse.set {} m k (if r.seq = 0 ∧ r.tag = 0 ∧ r.stroke = 0 then {} else r)) [] }

/-- RESYNC_DONE: the standby holds the resent areas and sets ELIGIBLE (R362). -/
def fResyncDone (areas : List (Fin 4096 × List Byte)) (s : State) : State :=
  if s.pairM.role = 2 then
    let s1 := areas.foldl (fun s a => if (s.ctx a.1.val).version = 0 then s else s.setCtx a.1.val ((s.ctx a.1.val).takeMutable a.2)) s
    s1.updPm fun x => { x with eligible := true, resync := false, lastMsg := s.wall }
  else s.updPm fun x => { x with resync := false }

/-- PAIR_KICK (R363, R366). -/
def fPairKick (v : Word) (s : State) : State :=
  if bit v 0 && s.pairSet then s.updPm fun x => { x with kick := s.wall } else s

/-- Every field driver is released, which truncates a frame in transmission (R363). -/
def State.driversOff (s : State) : State :=
  (List.range 192).foldl (fun s k =>
    let x := s.fsP k
    if x.de then s.setFs k { x with de := false, phase := .idle, tx := none, await := false, again := false, copy := none } else s) s
/-- Every field driver is released, and every session is OFF (R360). -/
def State.fieldRelease (s : State) : State :=
  (List.range 64).foldl (fun s p =>
    (s.ethP p).sess.foldl (fun s e => if e.2.st = 0 then s else s.sesLeave p e.1 0) s) s.driversOff
/-- Every enabled session begins to connect (R364). -/
def State.fieldStart (s : State) : State :=
  (List.range 64).foldl (fun s p => (s.ethP p).sess.foldl (fun s e => if e.2.en && decide (p = s.ethMain p) then s.sesConnect p e.1 else s) s) s

/-- PAIR_WATCHDOG_EXPIRY: the active device demotes itself (R363). -/
def fPairWatchdog (s : State) : State :=
  let wd := fld (s.reg .sys 0 0x48) 2 10
  if s.pairM.role ≠ 1 ∨ s.wall < s.pairM.kick + wd * usUnits then s
  else
    let s1 := ((s.updPm fun x => { x with role := 3, held := [] }).setServe false).setSticky .sys 0 4
    let s2 := s.pairM.held.foldl (fun s h =>
      (s.setEgq h.1 ((s.egq h.1).filter fun e => decide (e.tag ≠ h.2.1))).egressDrop h.1 h.2.1) s1
    let s3 := (List.range 256).foldl (fun s p => s.dropFrames p fun _ => true) s2
    (List.range 16).foldl (fun s c => s.withdrawQueue c fun _ => true) s3.driversOff

/-- PAIR_PEER_LOW_TIMEOUT: PAIR_PEER has been low for 20 µs. An eligible standby promotes itself and journals the streamed command marks
without a release notice; another sets SISTER_LOST (R364). -/
def fPeerLow (s : State) : State :=
  if s.pairM.role ≠ 2 then s
  else if !s.pairM.eligible then (s.updPm fun x => { x with peer := false }).setSticky .sys 0 2
  else
    let s1 := ((s.updPm fun x => { x with role := 1, peer := false, kick := s.wall, open_ := [] }).setServe true).setSticky .sys 0 3
    let s2 := s.pairM.open_.foldl (fun s (e : Nat × Nat × Nat × Nat) =>
      s.classRecord (e.2.2.1 / 2 ^ 60 % 16) { tag := e.2.2.1, partner := e.1, cls := e.2.2.2 } 0x0A 0xA0 8 e.2.1) s1
    s2.fieldStart

/-- A commit of PAIR_CFG: the role by EN, PRIMARY and the level of PAIR_PEER (R360); a DEMOTED device keeps its role until a reset. -/
def State.pairCommit (s : State) (peer : Bool) : State :=
  let cfg := s.reg .sys 0 0x48
  let s1 := s.updPm fun x => { x with peer := peer }
  if s.pairM.role = 3 then s1
  else if !bit cfg 0 then s1.updPm fun x => { x with role := 0, eligible := false, alone := false, resync := false }
  else if bit cfg 1 && !peer then
    let s2 := s1.updPm fun x => { x with role := 1, kick := s.wall }
    if s.pairM.role = 2 then s2.fieldStart else s2
  else ((s1.updPm fun x => { x with role := 2, eligible := false, lastMsg := s.wall }).setServe false).fieldRelease

/-! ### The rows -/

/-- MARK_STREAM_RECEIVED (R361). -/
def execMarkStreamReceived (msg : StreamMsg) (s : State) : Host.Outcome State Fault Refusal := .next (fMarkStream msg s)

/-- MARK_ACK_RECEIVED (R361). -/
def execMarkAckReceived (num : Nat) (s : State) : Host.Outcome State Fault Refusal := .next (fMarkAck num s)

/-- RELEASE_NOTICE_RECEIVED (R361). -/
def execReleaseNoticeReceived (tag : Nat) (s : State) : Host.Outcome State Fault Refusal := .next (fReleaseNotice tag s)

/-- PAIR_ACK_TIMEOUT (R362). -/
def execPairAckTimeout (s : State) : Host.Outcome State Fault Refusal := .next (fAckTimeout s)

/-- STREAM_TIMEOUT (R362). -/
def execStreamTimeout (s : State) : Host.Outcome State Fault Refusal := .next (fStreamTimeout s)

/-- SISTER_LINK_UP (R362). -/
def execSisterLinkUp (s : State) : Host.Outcome State Fault Refusal := .next (fSisterUp s)

/-- RESYNC_DONE (R362). -/
def execResyncDone (areas : List (Fin 4096 × List Byte)) (s : State) : Host.Outcome State Fault Refusal := .next (fResyncDone areas s)

/-- PAIR_KICK (R363). -/
def execPairKick (m : Master) (v : Word) (s : State) : Host.Outcome State Fault Refusal := .next (s.gated m .sys 0 0x050 (fPairKick v))

/-- PAIR_WATCHDOG_EXPIRY (R363). -/
def execPairWatchdogExpiry (s : State) : Host.Outcome State Fault Refusal := .next (fPairWatchdog s)

/-- PAIR_PEER_LOW_TIMEOUT (R364). -/
def execPairPeerLowTimeout (s : State) : Host.Outcome State Fault Refusal := .next (fPeerLow s)

end Sys2Proof.Machine
end

