-- ==== Sys2Proof/Machine/Flash.lean ====
section
/-! DEFINITION. The flash controller (R434-R445): command sequence, program, erase, suspend, swap of boot twins, retirement, reads of the
flash window, and what a power-fail warning does to it. -/

namespace Sys2Proof.Machine

/-- Bank of an offset. -/
def flBank (o : Nat) : Nat := o / 2 ^ 24
/-- Range of a command: start and bytes. -/
def FCmd.range (c : FCmd) : Nat × Nat :=
  match c.code with
  | 1 => (c.off, 32)
  | 3 => (c.off, 65536)
  | 6 => (0x200000, 16384)
  | _ => (c.off, 8192)
/-- Bank of a command. -/
def FCmd.bank (c : FCmd) : Nat := flBank c.range.1
/-- The command is an erase. -/
def FCmd.erase (c : FCmd) : Bool := decide (c.code = 2) || decide (c.code = 3)
/-- Partition bounds of R435 used by R440. -/
def twinBase (b : Bool) : Nat := if b then 0x1000000 else 0
def logBase : Nat := 0x1200000
/-- Offset lies in [b, b + n). -/
def within (o b n : Nat) : Bool := decide (b ≤ o) && decide (o < b + n)
/-- The target of a PROGRAM or an erase is protected (R440). -/
def State.flProtected (s : State) (o : Nat) : Bool :=
  within o (twinBase s.kst.twin) 0x200000 || within o 0x200000 0x4000 || within o logBase 0x200000 ||
    (within o 0x204000 0x2000 && !(decide (s.lcState = 0) || decide (s.lcState = 1) || decide (s.lcState = 2))) ||
    (within o 0x206000 0x2000 && decide (s.kst.stage ≠ 0))

/-- An evidence log entry is being programmed (R442): it waits for a PROGRAM, SWAP or RETIRE in bank 1. -/
def State.logBusy (s : State) : Bool :=
  (!s.tmp.qTamper.isEmpty || !s.tmp.qFirm.isEmpty) &&
    (match s.flc.run with | some c => c.erase || decide (c.bank = 0) | none => true)
/-- A bank is busy (R442). -/
def State.bankBusy (s : State) (b : Nat) : Bool :=
  (match s.flc.run with | some c => decide (c.bank = b) | none => false) || (decide (b = 1) && s.logBusy)
/-- FLC.STS (R445). -/
def State.flcSts (s : State) : Word :=
  flag (s.bankBusy 0) 0 ||| flag (s.bankBusy 1) 1 ||| flag s.flc.susp.isSome 2 ||| flag s.flc.done 3 ||| flag s.flc.error 4 |||
    flag s.flc.pend.isSome 5 ||| flag (decide (2 ≤ s.flc.seq)) 6 ||| w32 (s.flc.code % 16 * 256)

/-! ### Commands (R437-R439) -/

/-- The sequence is abandoned with SEQ_ERR (R437). -/
def State.flAbandon (s : State) : State := (s.updFlc fun x => { x with seq := 0, seqData := [] }).setSticky .flc 0 7
/-- A command refused (R439): the register written and the command's code. -/
def State.flReject (s : State) (off code : Nat) : State := s.setSticky .flc 0 0 off code

/-- A command begins, or waits behind a log entry in its bank (R442). -/
def State.flBegin (s : State) (c : FCmd) : State :=
  if decide (c.bank = 1) && s.logBusy then s.updFlc fun x => { x with pend := some c }
  else s.updFlc fun x => { x with run := some c, done := false, error := false, code := c.code
                                  suspCount := if c.erase then 0 else x.suspCount }

/-- The write that starts a command: the tests of R439, R440 and R443; none starts after a power-fail warning (R444). -/
def State.flStart (s : State) (off : Nat) (c : FCmd) : State :=
  let x := s.flc
  let inSusp (o : Nat) : Bool := match x.susp with | some e => within o e.range.1 e.range.2 | none => false
  let spares := if flBank c.off = 0 then x.spares0 else x.spares1
  if s.pwr.warn.isSome then s
  else if x.run.isSome || x.pend.isSome || (x.susp.isSome && !(decide (c.code = 1) || decide (c.code = 7))) then s.flReject off c.code
  else if c.code = 7 then
    if within c.off logBase 0x200000 || within c.off (twinBase s.kst.twin) 0x200000 then s.flReject off 7
    else if 16 ≤ spares then (s.flReject off 7).setSticky .flc 0 8
    else s.flBegin c
  else if c.code ≠ 6 && s.flProtected c.off then (s.flReject off c.code).setSticky .flc 0 6
  else if c.code = 1 && (inSusp c.off || !(s.flBytes c.off 32).all (· == 0xFF)) then s.flReject off 1
  else s.flBegin c

/-- FLASH_KEY (R437). -/
def fFlcKey (v : Word) (s : State) : State :=
  let k := fld v 0 16
  if s.flc.seq = 0 ∧ k = 0x7EA5 then s.updFlc fun x => { x with seq := 1, seqAt := s.wall, seqData := [] }
  else if s.flc.seq = 1 ∧ k = 0x1C3B then s.updFlc fun x => { x with seq := 2 }
  else s.flAbandon
/-- FLASH_SEQ_TIMEOUT: 100 µs after the first key (R437). -/
def fFlcTimeout (s : State) : State := if s.flc.seq ≠ 0 ∧ s.flc.seqAt + 100 * usUnits ≤ s.wall then s.flAbandon else s

/-- SUSPEND (R438, R439). -/
def State.flSuspend (s : State) : State :=
  match s.flc.run with
  | some c => if c.erase && decide (s.flc.suspCount < 64) then
      s.updFlc fun x => { x with susp := some c, run := none, suspCount := x.suspCount + 1 } else s.flReject 0x44 4
  | none => s.flReject 0x44 4
/-- RESUME (R438, R439). -/
def State.flResume (s : State) : State :=
  match s.flc.susp, s.flc.run with
  | some c, none => s.updFlc fun x => { x with run := some c, susp := none, done := false, code := c.code }
  | _, _ => s.flReject 0x44 5

/-- A write of FLC.CMD (R437, R438). SUSPEND and RESUME start at once; in the middle of a sequence they also break it. -/
def fFlcCmd (v : Word) (s : State) : State :=
  let c := fld v 0 4
  if c = 0 ∨ 7 < c then s.reject .flc 0 0x44 v
  else if c = 4 ∨ c = 5 then
    let s1 := if s.flc.seq = 0 then s else if s.flc.seq = 2 then s.updFlc fun x => { x with seq := 0 } else s.flAbandon
    if s.pwr.warn.isSome then s1 else if c = 4 then s1.flSuspend else s1.flResume
  else if s.flc.seq = 2 then s.updFlc fun x => { x with seq := 3, seqCode := c }
  else s.flAbandon
/-- Alignment of the offset of a command (R438). -/
def flAlign (c : Nat) : Nat := match c with | 1 => 32 | 2 => 8192 | 3 => 65536 | 7 => 8192 | _ => 1
/-- A write of FLC.ADDR (R437, R438). -/
def fFlcAddr (v : Word) (s : State) : State :=
  let o := fld v 0 25
  if s.flc.seq ≠ 3 then (s.setReg .flc 0 0x48 (v &&& 0x1FFFFFF)).flAbandon
  else if o % flAlign s.flc.seqCode ≠ 0 then s.reject .flc 0 0x48 v
  else
    let s1 := s.setReg .flc 0 0x48 (v &&& 0x1FFFFFF)
    if s.flc.seqCode = 1 then s1.updFlc fun x => { x with seq := 4, seqAddr := o, seqData := [] }
    else (s1.updFlc fun x => { x with seq := 0 }).flStart 0x48 { code := s.flc.seqCode, off := o }
/-- A write of FLC.DATA_k (R437): DATA_7 starts the PROGRAM. -/
def fFlcData (k : Nat) (v : Word) (s : State) : State :=
  if s.flc.seq ≠ 4 + k then s.flAbandon
  else
    let d := s.flc.seqData ++ [v]
    if k = 7 then
      (s.updFlc fun x => { x with seq := 0, seqData := [] }).flStart 0x68
        { code := 1, off := s.flc.seqAddr, data := d.flatMap fun w => leBytes 4 w.toNat }
    else s.updFlc fun x => { x with seq := 5 + k, seqData := d }

/-! ### Swap records (R441) -/

/-- A record of the swap area by place 0-511: its SEQ and SELECT where it is valid. -/
def State.swapRec (s : State) (k : Nat) : Option (Nat × Bool) :=
  let b := s.flBytes (0x200000 + 32 * k) 32
  if leNat (b.take 4) = 0x53574150 ∧ leNat (b.drop 28) = crcHdlc32 (b.take 28) ∧ (b.getD 8 0).toNat ≤ 1 then
    some (leNat ((b.drop 4).take 4), decide (b.getD 8 0 = 1))
  else none
/-- The current record: place, SEQ and SELECT of the valid record with the highest SEQ. -/
def State.swapCurrent (s : State) : Option (Nat × Nat × Bool) :=
  (List.range 512).foldl (fun a k => match s.swapRec k, a with
    | some (q, x), some (_, q', _) => if q' < q then some (k, q, x) else a
    | some (q, x), none => some (k, q, x)
    | none, _ => a) none
/-- A swap record. -/
def swapBytes (seq : Nat) (sel : Bool) : List Byte :=
  let b := leBytes 4 0x53574150 ++ leBytes 4 seq ++ [if sel then 1 else 0] ++ zeros 19
  b ++ leBytes 4 (crcHdlc32 b)
/-- SWAP programs the next record; a full sector first makes the other one erased. -/
def State.swapWrite (s : State) (sel : Bool) : State :=
  let (sec, seq) := match s.swapCurrent with | some (k, q, _) => (k / 256, q + 1) | none => (0, 1)
  match (List.range 256).find? fun k => (s.flBytes (0x200000 + 32 * (256 * sec + k)) 32).all (· == 0xFF) with
  | some k => s.flPut (0x200000 + 32 * (256 * sec + k)) (swapBytes seq sel)
  | none => (s.flErase (0x200000 + 8192 * (1 - sec)) 8192).flPut (0x200000 + 8192 * (1 - sec)) (swapBytes seq sel)
/-- The controller reads the swap area before ROM runs (R441). -/
def State.swapLoad (s : State) : State :=
  match s.swapCurrent with
  | some (_, q, x) => s.updFlc fun f => { f with swapSel := x, swapValid := true, swapSeq := q }
  | none => s.updFlc fun f => { f with swapSel := false, swapValid := false, swapSeq := 0 }

/-! ### End of a command, reads, power loss (R442-R444) -/

/-- FLASH_COMMAND_DONE with the greatest number of pulses a granule took and the result of the verify (R443). -/
def fFlashDone (pulses : Nat) (ok : Bool) (s : State) : State :=
  match s.flc.run with
  | none => s
  | some c =>
    let good := ok && decide (pulses ≤ 64)
    let s1 := s.updFlc fun x => { x with run := none, done := true, error := false }
    let fail (b : Nat) (s : State) : State := (s.updFlc fun x => { x with error := true }).setSticky .flc 0 b
    match c.code with
    | 1 =>
      if !good then fail 4 (s1.flScramble c.off 32)
      else
        let s2 := s1.flPut c.off c.data
        if fld (s.reg .flc 0 0x6C) 0 6 < pulses then
          (s2.setReg .flc 0 0x70 (w32 (c.off / 8192 * 8192 + min pulses 64 * 2 ^ 25))).setSticky .flc 0 3
        else s2
    | 6 => if good then s1.swapWrite (decide (c.off % 2 = 1)) else fail 4 s1
    | 7 =>
      (s1.flErase c.off 8192).updFlc fun x =>
        if flBank c.off = 0 then { x with spares0 := x.spares0 + 1 } else { x with spares1 := x.spares1 + 1 }
    | _ => if ok then s1.flErase c.range.1 c.range.2 else fail 5 (s1.flScramble c.range.1 c.range.2)

/-- The word at a flash offset as a read of the window delivers it: the status word of a busy bank or a suspended range, `none` for an
uncorrectable word (R434, R442). -/
def State.flashWord (s : State) (o : Nat) : State × Option Word :=
  let busy : Word := s.flcSts ||| 0x80000000
  if s.bankBusy (flBank o) then (s, some busy)
  else if (match s.flc.susp with | some c => within o c.range.1 c.range.2 | none => false) then (s.setSticky .flc 0 2, some busy)
  else if s.flc.bad.contains (o / 4) then (s.setSticky .flc 0 1, none)
  else (s, some (leWord (s.flBytes o 4)))

/-- FLASH_READ of a word of the flash window (R434, R442). -/
def fFlashRead (m : Master) (addr : Nat) (s : State) : State :=
  let a := addr / 4 * 4
  let answer (s : State) (w : Word) : State := s.emit (.readData m [TWord.int w])
  if a < flashWindow ∨ flashWindow + 2 ^ 25 ≤ a then s
  else if decide (m = .debug) && !s.dbgMay 0 a then answer (s.targetRefuse m 0 a) 0
  else match s.barred m 0 a 4 with
    | some t => if t.2 then answer t.1 0 else t.1
    | none =>
      match s.flashWord (a - flashWindow) with
      | (s1, some w) => answer s1 w
      | (s1, none) => answer (s1.emit (.errorResponse m)) 0

/-- A power-fail warning: an erase is abandoned and its offset held in FLC.INTR (R444). -/
def State.flashWarn (s : State) : State :=
  let drop (c : FCmd) : State :=
    (s.flScramble c.range.1 c.range.2).setReg .flc 0 0x80 (w32 (c.off % 2 ^ 25 + 2 ^ 31))
  match s.flc.run, s.flc.susp with
  | _, some c => (drop c).updFlc fun x => { x with susp := none }
  | some c, none => if c.erase then (drop c).updFlc fun x => { x with run := none } else s
  | none, none => s
/-- At the boot after an abandoned erase INTR sets (R444). -/
def State.intrReport (s : State) : State := if bit (s.reg .flc 0 0x80) 31 then s.setSticky .flc 0 9 else s
/-- The controller at a device reset: a running PROGRAM or RETIRE has completed within the hold-up (R444). -/
def State.flashReset (s : State) : State :=
  let s1 := match s.flc.run with | some c => if c.code = 1 ∨ c.code = 7 then fFlashDone 1 true s else s | none => s
  let x := s1.flc
  { s1 with flc := { bytes := x.bytes, bad := x.bad, spares0 := x.spares0, spares1 := x.spares1, ckpt := x.ckpt, cfg := x.cfg, tabs := x.tabs } }

/-! ### The rows -/

/-- FLASH_KEY (R437). -/
def execFlashKey (m : Master) (v : Word) (s : State) : Host.Outcome State Fault Refusal := .next (s.gated m .flc 0 0x040 (fFlcKey v))

/-- FLASH_SEQ_TIMEOUT (R437). -/
def execFlashSeqTimeout (s : State) : Host.Outcome State Fault Refusal := .next (fFlcTimeout s)

/-- FLASH_PROGRAM (R438). -/
def execFlashProgram (m : Master) (v : Word) (s : State) : Host.Outcome State Fault Refusal := .next (s.gated m .flc 0 0x068 (fFlcData 7 v))

/-- SECTOR_ERASE (R438). -/
def execSectorErase (m : Master) (v : Word) (s : State) : Host.Outcome State Fault Refusal := .next (s.gated m .flc 0 0x048 (fFlcAddr v))

/-- BLOCK_ERASE (R438). -/
def execBlockErase (m : Master) (v : Word) (s : State) : Host.Outcome State Fault Refusal := .next (s.gated m .flc 0 0x048 (fFlcAddr v))

/-- FLASH_SUSPEND (R438). -/
def execFlashSuspend (m : Master) (v : Word) (s : State) : Host.Outcome State Fault Refusal := .next (s.gated m .flc 0 0x044 (fFlcCmd (putFld v 0 4 4)))

/-- FLASH_RESUME (R438). -/
def execFlashResume (m : Master) (v : Word) (s : State) : Host.Outcome State Fault Refusal := .next (s.gated m .flc 0 0x044 (fFlcCmd (putFld v 0 4 5)))

/-- FLASH_SWAP (R441). -/
def execFlashSwap (m : Master) (v : Word) (s : State) : Host.Outcome State Fault Refusal := .next (s.gated m .flc 0 0x048 (fFlcAddr v))

/-- FLASH_RETIRE (R443). -/
def execFlashRetire (m : Master) (v : Word) (s : State) : Host.Outcome State Fault Refusal := .next (s.gated m .flc 0 0x048 (fFlcAddr v))

/-- FLASH_COMMAND_DONE (R443). -/
def execFlashCommandDone (pulses : Nat) (verifyOk : Bool) (s : State) : Host.Outcome State Fault Refusal := .next (fFlashDone pulses verifyOk s)

/-- FLASH_READ (R442). -/
def execFlashRead (m : Master) (addr : Nat) (s : State) : Host.Outcome State Fault Refusal := .next (fFlashRead m addr s)

end Sys2Proof.Machine
end

