-- ==== Sys2Proof/Machine/Power.lean ====
section
/-! DEFINITION. Power domains, warnings, clocks and resets (R479-R493, R496): what each reset clears and keeps, the power-fail warning, and
the domains' low-power states. -/

namespace Sys2Proof.Machine

/-! ### Always-on records -/

/-- Update of the always-on domain, of the power record and of the life-cycle block. -/
def State.updAon (s : State) (f : Aon → Aon) : State := { s with aon := f s.aon }
def State.updPwr (s : State) (f : Pwr → Pwr) : State := { s with pwr := f s.pwr }
def State.updLcs (s : State) (f : Lcs → Lcs) : State := { s with lcs := f s.lcs }
/-- A reset cause is recorded (R493). -/
def State.causeSet (s : State) (n : Nat) : State := s.updAon fun a => { a with cause := putBit a.cause n true }
/-- The shutdown time, RTC plus 50,000 µs, in BBRAM and in TIM.SHUT (R231). -/
def State.shutRecord (s : State) : State :=
  (s.updAon fun a => { a with shutdown := some (s.rtcNow + 50000) }).bbPut 0x8008 (leBytes 8 (s.rtcNow + 50000))
/-- BBRAM zeroised and reported invalid (R408, R425). -/
def State.bbZero (s : State) : State := s.updAon fun a => { a with bbram := [], bbValid := false }

/-- Secure time as the TIM block loads it from the RTC at power-up (R227, R228). -/
def State.timLoad (s : State) : Tim :=
  let ok := !s.aon.interrupted
  { now := s.aon.rtc, rtcCont := ok, lastDisc := s.aon.lastDisc
    valid := ok && decide (s.rtcNow ≤ s.aon.lastDisc + s.aon.holdover * 1000000) }

/-! ### Life-cycle programming that a reset meets (R401, R407, R408) -/

/-- Step sets S1 to S5. -/
def lcStep (i : Nat) : BitVec 64 := BitVec.ofNat 64 (0xFFF * 2 ^ (12 * i))
/-- Steps of a transition, from the highest set down. -/
def lcSteps (old new : BitVec 64) : List (BitVec 64) :=
  ([4, 3, 2, 1, 0].map lcStep).filter fun m => decide (m &&& new &&& ~~~old ≠ 0)
/-- Life-cycle word and tokens take new values, with the erasure that comes with the new pattern at once: BBRAM for RETURN and SCRAP, and for
PROVISION the flash outside the boot twins, the identity sector and the log as well (R408). -/
def State.lcApply (s : State) (word : BitVec 64) (tokens : List (Nat × BitVec 64)) : State :=
  let t := s.updLcs fun x => { x with word := word, tokens := tokens }
  if t.lcState = s.lcState then t
  else match t.lcState with
    | 5 | 6 => t.bbZero
    | 3 =>
      if s.lcState ≠ 1 then t
      else ((((t.flErase 0x200000 0x4000).flErase 0x206000 0xDFA000).flErase 0x1400000 0xC00000).dropRecords).bbZero
    | _ => t
/-- A transition that a reset interrupts: the step in progress is finished, later ones do not start. -/
def State.lcStop (s : State) : State :=
  let x := s.lcs
  let s1 := match x.target with
    | some w =>
      let n := if x.result = 1 then 5 else ((s.pwr.warn.getD s.wall) - x.since) / (120 * usUnits) + 1
      s.lcApply (((lcSteps x.word w).take n).foldl (fun a m => a ||| (m &&& w)) x.word) x.tokens
    | none => s
  match x.tokTarget with
  | some (i, v) => s1.lcApply s1.lcs.word (Sparse.set 0 s1.lcs.tokens i v)
  | none => s1

/-! ### Resets (R488) -/

/-- A register cell on the Keystone die. -/
def keepKs (k : Nat) : Bool := (decide (0x40 ≤ k / 2 ^ 18) && decide (k / 2 ^ 18 ≤ 0x4A)) || decide (k / 2 ^ 12 = 9 * 64 + 63)
/-- Four words of a fresh challenge (R413, R415). -/
def State.freshChal (s : State) : List Word := (List.range 4).map fun i => Config.freeWord (s.free + i)
/-- Every Arch domain and page at reset; the Keystone die keeps its state (R488). -/
def State.archClear (s : State) : State :=
  let t : State := { State.reset with
    pending := s.pending, wall := s.wall, out := s.out, free := s.free + 4, archOn := s.archOn
    regs := s.regs.filter fun e => keepKs e.1
    held := s.held.filter fun e => keepKs e.1
    mem := s.mem.filter fun e => decide (e.1 < 0x04000000)
    tags := s.tags.filter fun e => decide (4 * e.1 < 0x04000000)
    badWords := s.badWords.filter fun w => decide (4 * w < 0x04000000)
    acuBase := s.acuBase.filter fun e => decide (63 ≤ e.1 / 2048)
    acuAttr := s.acuAttr.filter fun e => decide (63 ≤ e.1 / 2048)
    acuBaseSh := s.acuBaseSh.filter fun e => decide (63 ≤ e.1 / 2048)
    acuAttrSh := s.acuAttrSh.filter fun e => decide (63 ≤ e.1 / 2048)
    acuEcc := s.acuEcc.filter fun k => decide (63 ≤ k / 128)
    plans := s.plans, intake := s.intake, planFloor := s.planFloor
    procs := (coldProcs.filter fun e => decide (e.1 < 272)) ++ s.procs.filter fun e => decide (272 ≤ e.1)
    tim := s.timLoad
    aon := s.aon, kst := s.kst, lcs := s.lcs, tmp := s.tmp, flc := s.flc, crd := s.crd, sdh := s.sdh, nfc := s.nfc
    dbg := { port := s.dbg.port, chal := s.freshChal }
    pci := { exportId := s.pci.exportId, imports := s.pci.imports }
    pwr := { warn := s.pwr.warn, hot := s.pwr.hot, refOk := s.pwr.refOk, strokeLock := s.pwr.strokeLock, ksLock := s.pwr.ksLock
             perst := s.pwr.perst, vioBad := s.pwr.vioBad, vioHigh := s.pwr.vioHigh } }
  t.setReg .tim 0 0x48 (w32 s.aon.holdover)

/-- The OTP of the device. -/
def Lcs.otp (x : Lcs) : Lcs :=
  { word := x.word, tokens := x.tokens, uid := x.uid, trim := x.trim, tokDigest := x.tokDigest, seed := x.seed, counter := x.counter
    authority := x.authority, revoked := x.revoked, enrolled := x.enrolled, returnRecord := x.returnRecord
    scrapDone := x.scrapDone }
/-- What the tag island and the antenna keep over a loss of power (R469, R471, R475). -/
def Nfc.keep (x : Nfc) : Nfc :=
  { mem := x.mem, pw := x.pw, fail := x.fail, qtime := x.qtime, wip := x.wip, torn := x.torn, quiet := x.quiet, ext := x.ext
    extAt := x.extAt, field := x.field, selected := x.selected, random := x.random, inForce := x.inForce }

/-- Everything but the always-on domain, OTP and flash (R488). -/
def State.mainReset (s : State) : State :=
  let f := s.lcStop.flashReset
  let t := f.archClear
  let u : State := { t with
    archOn := false
    regs := f.regs.filter fun e => decide (e.1 / 2 ^ 18 = 0x42) || decide (e.1 = regKey .flc 0 0x80)
    held := []
    mem := f.mem.filter fun e => decide (e.1 < 0x40000)
    tags := f.tags.filter fun e => decide (4 * e.1 < 0x40000)
    badWords := []
    acuBase := [], acuAttr := [], acuBaseSh := [], acuAttrSh := [], acuEcc := [], procs := coldProcs
    kst := {}, jnt := {}, lcs := f.lcs.otp, crd := []
    tmp := { live := f.tmp.live, testing := f.tmp.testing, sweep := f.tmp.sweep }
    sdh := { present := f.sdh.present, wp := f.sdh.wp }
    nfc := f.nfc.keep
    pwr := { t.pwr with warn := none } }
  u.setReg .tim 0 0x48 (w32 f.aon.holdover)

/-- A device reset: main power-on scope, counted in BOOTS (R488, R493). -/
def State.deviceReset (s : State) : State := s.mainReset.updAon fun a => { a with boots := satInc a.boots 0xFFFF }

/-! ### Power-fail warning (R484, R485, R489) -/

/-- A warning with the number of its cause. One already in force only records the cause. -/
def State.warning (s : State) (cause : Nat) : State :=
  if !s.aon.mainPower then s
  else
    let s0 := s.causeSet cause
    if s.pwr.warn.isSome then s0
    else
      let s1 := fTimWriteback s0.shutRecord
      ((fDrain (s1.updAon fun a => { a with toRing := true })).flashWarn).updPwr fun p => { p with warn := some s.wall, paddle := false }
/-- POWER_FAIL_WARNING: PWR_FAIL_N, or the backstop where no warning is in force. -/
def fPowerFail (late : Bool) (s : State) : State :=
  if !late then s.warning 3 else if s.pwr.warn.isSome then s else (s.warning 3).warning 4
/-- DEVICE_RESET: 150 µs after the warning, or at the time a Keystone fault set (R388). -/
def fDeviceReset (s : State) : State :=
  let due := (match s.pwr.warn with | some t => decide (t + 150 * usUnits ≤ s.wall) | none => false) ||
    (match s.kst.resetAt with | some t => decide (t ≤ s.wall) | none => false)
  if due then s.deviceReset else s

/-! ### Requested resets (R489, R490) -/

/-- Both frame table buffers of a course are empty. -/
def State.tablesEmpty (s : State) (c : Nat) : Bool := (tableFrom 0 (s.cx c).ftA).isEmpty && (tableFrom 0 (s.cx c).ftB).isEmpty
/-- Commands in progress on a legacy course end as R133 states for a fault. -/
def State.legacyEnd (s : State) (c : Nat) : State :=
  ((s.cx c).legacyBusy.foldl (fun s b => s.classVerdict c b.2 7 0xB1 4) s).updCx c fun x => { x with legacyBusy := [] }
/-- Tiles and supervisor core of a course at NONE (R481). -/
def State.zeroCourse (s : State) (c : Nat) : State := ((List.range 16).foldl (fun s t => s.zeroTile c t) s).zeroCox c
/-- A course reset begins (R488): tiles and supervisor core lose their state; heats still in progress are aborted with an open cause. -/
def State.courseReset (s : State) (c : Nat) : State :=
  let open_ := s.freeW.toNat
  let s1 := (List.range 8).foldl (fun s p => if (s.heatOn c p).isSome && decide ((s.cx c).role ≠ 2) then s.abortPair c p open_ none none false else s)
    s.draw
  let s2 := ((s1.legacyEnd c).zeroCourse c).updCx c fun x => { x with ready := false }
  s2.updPwr fun p => { p with courseRst := (p.courseRst.filter fun e => decide (e.1 ≠ c)) ++ [(c, s.wall)] }

/-- A write of RST.REQ: the widest scope requested. -/
def fRstReq (v : Word) (s : State) : State :=
  let s1 := s.setReg .rst 0 0x48 (v &&& 0xF00)
  let c := fld v 8 4
  if bit v 0 then s1.warning 10
  else if bit v 1 then
    if s.svc ≠ 0 then s1.reject .rst 0 0x48 v
    else if s.pwr.warn.isSome then s1.causeSet 11
    else s1.archClear.causeSet 11
  else if bit v 2 then
    if !(s.pfence c 8 || s.tablesEmpty c) then s1.reject .rst 0 0x48 v
    else if s.pwr.warn.isSome then s1
    else s1.courseReset c
  else s1
/-- COURSE_RESET_DONE, 40 µs after the reset; COX.HALT clears with the tiles (R490). -/
def fCourseResetDone (c : Nat) (s : State) : State :=
  match s.pwr.courseRst.find? fun e => decide (e.1 = c) with
  | some (_, t) =>
    if t + 40 * usUnits ≤ s.wall then ((s.zeroCourse c).startCox c).updPwr fun p => { p with courseRst := p.courseRst.filter fun e => decide (e.1 ≠ c) } else s
  | none => s

/-! ### Rails (R416, R483, R488) -/

/-- MAIN_POWER_ON. -/
def fMainOn (s : State) : State :=
  if s.aon.mainPower then s else (s.mainReset.causeSet 1).updAon fun a => { a with mainPower := true }
/-- MAIN_POWER_LOSS: only the always-on domain and the field-powered island go on. The warning of this loss has recorded the shutdown time;
a loss without one records it now (R231). -/
def fMainOff (s : State) : State :=
  if !s.aon.mainPower then s
  else ((if s.pwr.warn.isSome then s else s.shutRecord).mainReset).updAon fun a => { a with mainPower := false, toRing := true }
/-- VBAT_POWER_ON without main power: the always-on domain at reset, RTC and BBRAM invalid. -/
def fVbatOn (s : State) : State :=
  if s.aon.mainPower then s
  else
    let t := s.mainReset
    let u : State := { t with regs := [], aon := { vbat := true, cause := 1 }, tmp := {} }
    { u with tim := u.timLoad }
/-- CAUSE_CLEAR (R493). -/
def fCauseClear (v : Word) (s : State) : State := if bit v 0 then s.updAon fun a => { a with cause := a.cause &&& 0xFFFFF000 } else s

/-! ### Clocks and temperature (R486, R487, R492, R496) -/

/-- The thermal rule applies. -/
def State.thermal (s : State) : Bool := s.pwr.hot && bit (s.reg .clk 0 0x44) 0
/-- The rate asked for: paddle by commit or by the thermal rule; race while a warning is in force (R485). -/
def State.wantPaddle (s : State) : Bool := (bit (s.reg .clk 0 0x40) 0 || s.thermal) && s.pwr.warn.isNone
/-- PLL_LOCK_LOST of the stroke or Keystone PLL. -/
def fPllLost (stroke : Bool) (s : State) : State :=
  (s.updPwr fun p => if stroke then { p with strokeLock := false } else { p with ksLock := false }).setSticky .clk 0 2
/-- PLL_LOCK_REGAINED: 0 REF_CLK, 1 stroke PLL, 2 Keystone PLL. -/
def fPllBack (which : Nat) (s : State) : State :=
  s.updPwr fun p => match which with
    | 0 => { p with refOk := true }
    | 1 => { p with strokeLock := true }
    | _ => { p with ksLock := true }
/-- A bank's supply is lost, or is back at 1.8 V or 3.3 V (R496). -/
def fVioLost (b : Nat) (s : State) : State := s.updPwr fun p => { p with vioBad := b :: p.vioBad.erase b }
def fVioBack (b : Nat) (high : Bool) (s : State) : State :=
  s.updPwr fun p => { p with vioBad := p.vioBad.erase b, vioHigh := if high then b :: p.vioHigh.erase b else p.vioHigh.erase b }

/-! ### Power domains (R479-R482) -/

/-- State of a domain. -/
def State.domState (s : State) (d : Nat) : DomState :=
  if d = 0 then .on
  else if d ≤ 6 then (if s.aon.mainPower then .on else .off)
  else if d = 28 ∨ d = 35 then (if s.archOn then .on else .off)
  else if s.archOn then Sparse.get DomState.off s.pwr.dom d else .off
/-- Write of an Arch domain's state. -/
def State.setDom (s : State) (d : Nat) (x : DomState) : State := s.updPwr fun p => { p with dom := Sparse.set DomState.off p.dom d x }

/-- A unit pair is in use. -/
def UState.busy : UState → Bool
  | .idle | .fenced | .noUc => false
  | _ => true
/-- The need of a domain (R479). -/
def State.domNeed (s : State) (d : Nat) : Bool :=
  if d ≤ 6 then s.aon.mainPower || decide (d = 0)
  else if d < 23 then
    let c := d - 7
    !s.tablesEmpty c || decide ((s.cx c).role = 2) || decide (fld (s.reg .cox c 0x40) 0 2 = 2) ||
      s.cox.any fun (e : Nat × Cox) => (tableFrom 0 e.2.ftA ++ tableFrom 0 e.2.ftB).any fun t => decide (t.kind = 2) && decide (t.scourse = c)
  else if d < 27 then
    let k := d - 23
    decide (s.reg .pke k 0x48 ≠ 0) || (clusterPairs k).any (fun q => (s.pkeU q).st.busy) || (s.clu k).loading
  else match d with
    | 27 =>
      decide (s.reg .hsh 0 0x48 ≠ 0) || decide (s.reg .cip 0 0x48 ≠ 0) ||
        (List.range 16).any fun k => (s.hc false k).st.busy || (s.hc true k).st.busy
    | 29 => decide (s.svc ≠ 0) || s.ptn.load.isSome || s.ptn.sgnLoad.isSome
    | 30 => s.moverW || s.jnl.flushing.isSome
    | 31 => s.moverE || s.jnl.flushing.isSome
    | 32 => (List.range 36).any fun n => s.enabled .eth n
    | 33 => (List.range 28).any fun n => s.enabled .eth (36 + n)
    | 34 => (List.range 192).any fun k => bit (s.fsR k 0) 0
    | 35 => s.pwr.perst
    | _ => s.archOn
/-- FORCE and AUTO of a domain (R491). -/
def State.domForce (s : State) (d : Nat) : Bool := bit (s.reg .pwr 0 (0x5C + 4 * (d / 32))) (d % 32)
def State.domAuto (s : State) (d : Nat) : Bool := bit (s.reg .pwr 0 (0x54 + 4 * (d / 32))) (d % 32)
/-- Need and FORCE of a domain have been 0 for IDLE_HOLD µs (R480). -/
def State.domHeld (s : State) (d : Nat) : Bool :=
  decide (Sparse.get 0 s.pwr.needAt d + fld (s.reg .pwr 0 0x68) 0 16 * usUnits ≤ s.wall)
/-- The power manager notes at every stroke which domains are needed or forced on (R480). -/
def State.needTick (s : State) : State :=
  let ds := (List.range 36).filter fun d => decide (7 ≤ d) && (s.domNeed d || s.domForce d)
  s.updPwr fun p => { p with needAt := ds.foldl (fun m d => Sparse.set 0 m d s.wall) p.needAt }
/-- Channels of SGRAM domain 30 or 31. -/
def sideChannels (d : Nat) : List Nat := if d = 30 then [0, 1, 2, 3] else [4, 5, 6, 7]

/-- What a domain loses when it goes OFF: every memory and register at NONE (R481). -/
def State.domZero (s : State) (d : Nat) : State :=
  if d < 23 then
    (((s.zeroCourse (d - 7)).wipe (sharedBase (d - 7)) 0x80000)).updCx (d - 7) fun x => { x with ready := false }
  else if d < 27 then
    let k := d - 23
    let s1 : State := { s with cluster := Sparse.set {} s.cluster k {} }
    (clusterPairs k).foldl (fun s q => (s.wipeOperand q).setPke q { st := if s.pkeFence q then .fenced else .noUc }) (s1.setReg .pke k 0x48 0)
  else match d with
    | 27 =>
      [false, true].foldl (fun s b => (List.range 16).foldl (fun s k =>
        (s.wipe (unitBase b k) 0x1000).setHc b k { st := if s.hcFence b k then .fenced else .idle }) s) s
    | 29 =>
      let s1 : State := { s with ptn := { draining := s.ptn.draining, drained := s.ptn.drained } }
      (s1.wipe 0x10000000 0x1000000).wipe 0x11000000 0x1000000
    | 32 => (List.range 36).foldl (fun s n => s.ethDown n) s
    | 33 => (List.range 28).foldl (fun s n => s.ethDown (36 + n)) s
    | 34 => { s with fsp := [] }
    | _ =>
      (sideChannels d).foldl (fun s c => (s.wipe (copyBase c) (2 ^ 32)).setSg c
        { st := if s.regBit .sgm c 0x40 0 then 2 else 0 }) s

/-- DOMAIN_IDLE_EXPIRY: need and FORCE have been 0 for IDLE_HOLD; domains 30 and 31 enter self-refresh, the others go OFF (R480). -/
def fDomIdle (d : Nat) (s : State) : State :=
  if d < 7 ∨ d = 28 ∨ d = 29 ∨ d = 35 ∨ s.domState d ≠ .on ∨ !s.domAuto d ∨ s.domNeed d ∨ s.domForce d ∨ !s.domHeld d then s
  else if d = 30 ∨ d = 31 then
    ((sideChannels d).foldl (fun s c => s.updSg c fun x => { x with selfRef := true }) s).setDom d .selfRefresh
  else (s.domZero d).setDom d .off
/-- OFF_REQ.GO (R480). -/
def fOffReq (v : Word) (s : State) : State :=
  let d := fld v 0 6
  let s1 := s.setReg .pwr 0 0x64 (v &&& 0x3F)
  if !bit v 6 then s1
  else if !(decide (d = 29) || decide (d = 30) || decide (d = 31)) || s.domNeed d || s.domForce d ||
      (decide (d ≠ 29) && bit (s.reg .jnl 0 0x40) 0) then s1.reject .pwr 0 0x64 v
  else (s1.domZero d).setDom d .off
/-- DOMAIN_WAKE: a need, or FORCE, of a domain in its low-power state (R480). -/
def fDomWake (d : Nat) (s : State) : State :=
  let st := s.domState d
  if d < 7 ∨ d = 28 ∨ d = 35 ∨ !s.archOn ∨ !(decide (st = .off) || decide (st = .selfRefresh)) ∨ !(s.domNeed d || s.domForce d) then s
  else
    let s1 := (s.setDom d .waking).count16 .pwr 0 0x6C 0
    s1.updPwr fun p => { p with wakeAt := Sparse.set 0 p.wakeAt d s.wall }
/-- DOMAIN_WAKE_DONE (R481); self-refresh keeps the contents (R305). -/
def fDomWoken (d : Nat) (s : State) : State :=
  if s.domState d ≠ .waking then s
  else if (d = 30 ∨ d = 31) ∧ s.sgAsleep (decide (d = 31)) then
    ((sideChannels d).foldl (fun s c => s.updSg c fun x => { x with selfRef := false }) s).setDom d .on
  else
    let s1 := (s.domZero d).setDom d .on
    if 7 ≤ d ∧ d < 23 then s1.startCox (d - 7) else s1
/-- Wake time in µs; training from OFF for SGRAM (R303, R479). -/
def State.wakeUs (s : State) (d : Nat) : Nat :=
  if d < 23 then 40 else if d < 27 then 60
  else match d with
    | 30 | 31 => if s.sgAsleep (decide (d = 31)) then 20 else 300000
    | 32 | 33 => 2000
    | 34 => 10
    | _ => 30
/-- DOMAIN_WAKE_FAIL: twice the wake time has passed (R482). -/
def fDomFail (d : Nat) (s : State) : State :=
  if s.domState d ≠ .waking ∨ s.wall < Sparse.get 0 s.pwr.wakeAt d + 2 * s.wakeUs d * usUnits then s
  else
    let s1 := (s.setSticky .pwr 0 2).setDom d .off
    if d < 23 then fCourseFault (d - 7) s1 else s1

/-! ### The rows -/

/-- DOMAIN_IDLE_EXPIRY (R480). -/
def execDomainIdleExpiry (d : Fin 36) (s : State) : Host.Outcome State Fault Refusal := .next (fDomIdle d s)

/-- DOMAIN_WAKE (R480). -/
def execDomainWake (d : Fin 36) (s : State) : Host.Outcome State Fault Refusal := .next (fDomWake d s)

/-- DOMAIN_WAKE_DONE (R481). -/
def execDomainWakeDone (d : Fin 36) (s : State) : Host.Outcome State Fault Refusal := .next (fDomWoken d s)

/-- DOMAIN_WAKE_FAIL (R482). -/
def execDomainWakeFail (d : Fin 36) (s : State) : Host.Outcome State Fault Refusal := .next (fDomFail d s)

/-- OFF_REQ (R480). -/
def execOffReq (m : Master) (v : Word) (s : State) : Host.Outcome State Fault Refusal := .next (s.gated m .pwr 0 0x064 (fOffReq (putBit v 6 true)))

/-- POWER_FAIL_WARNING (R485). -/
def execPowerFailWarning (late : Bool) (s : State) : Host.Outcome State Fault Refusal := .next (fPowerFail late s)

/-- DEVICE_RESET (R488). -/
def execDeviceReset (s : State) : Host.Outcome State Fault Refusal := .next (fDeviceReset s)

/-- RST_N_ASSERT (R489). -/
def execRstNAssert (s : State) : Host.Outcome State Fault Refusal := .next (s.warning 2)

/-- RESET_REQ_DEVICE (R489). -/
def execResetReqDevice (m : Master) (v : Word) (s : State) : Host.Outcome State Fault Refusal := .next (s.gated m .rst 0 0x048 (fRstReq (putBit v 0 true)))

/-- RESET_REQ_ARCH (R489). -/
def execResetReqArch (m : Master) (v : Word) (s : State) : Host.Outcome State Fault Refusal := .next (s.gated m .rst 0 0x048 (fRstReq (putBit (putBit v 0 false) 1 true)))

/-- RESET_REQ_COURSE (R490). -/
def execResetReqCourse (m : Master) (v : Word) (s : State) : Host.Outcome State Fault Refusal := .next (s.gated m .rst 0 0x048 (fRstReq (putBit (putFld v 0 2 0) 2 true)))

/-- COURSE_RESET_DONE (R490). -/
def execCourseResetDone (c : Fin 16) (s : State) : Host.Outcome State Fault Refusal := .next (fCourseResetDone c s)

/-- MAIN_POWER_ON (R488). -/
def execMainPowerOn (s : State) : Host.Outcome State Fault Refusal := .next (fMainOn s)

/-- VBAT_POWER_ON (R488). -/
def execVbatPowerOn (s : State) : Host.Outcome State Fault Refusal := .next (fVbatOn s)

/-- CAUSE_CLEAR (R493). -/
def execCauseClear (m : Master) (v : Word) (s : State) : Host.Outcome State Fault Refusal := .next (s.gated m .rst 0 0x044 (fCauseClear v))

/-- PLL_LOCK_LOST (R486). -/
def execPllLockLost (stroke : Bool) (s : State) : Host.Outcome State Fault Refusal := .next (fPllLost stroke s)

/-- REF_CLK_LOST (R486). -/
def execRefClkLost (s : State) : Host.Outcome State Fault Refusal := .next ((s.updPwr fun p => { p with refOk := false }).setSticky .clk 0 3)

/-- THERMAL_ENTER (R487). -/
def execThermalEnter (s : State) : Host.Outcome State Fault Refusal := .next (s.updPwr fun p => { p with hot := true })

/-- THERMAL_EXIT (R487). -/
def execThermalExit (s : State) : Host.Outcome State Fault Refusal := .next (s.updPwr fun p => { p with hot := false })

/-- MAIN_POWER_LOSS (R416). -/
def execMainPowerLoss (s : State) : Host.Outcome State Fault Refusal := .next (fMainOff s)

/-- BANK_VDDIO_LOST (R496). -/
def execBankVddioLost (b : Fin 12) (s : State) : Host.Outcome State Fault Refusal := .next (fVioLost b s)

/-- BANK_VDDIO_RESTORED (R496). -/
def execBankVddioRestored (b : Fin 12) (high : Bool) (s : State) : Host.Outcome State Fault Refusal := .next (fVioBack b high s)

/-- PLL_LOCK_REGAINED (R492). -/
def execPllLockRegained (which : Fin 3) (s : State) : Host.Outcome State Fault Refusal := .next (fPllBack which s)

end Sys2Proof.Machine
end

