-- ==== Sys2Proof/Machine/Tamper.lean ====
section
/-! DEFINITION. Tamper monitors, their responses, the alarm ring and the evidence log (R416-R433). -/

namespace Sys2Proof.Machine

/-- Update of the tamper and evidence log record. -/
def State.updTmp (s : State) (f : Tmp → Tmp) : State := { s with tmp := f s.tmp }

/-! ### Channels and levels (R416-R420) -/

/-- Channels that stay active on the cell, and channels of the Arch die (R416). -/
def onCell (m : Nat) : Bool :=
  (decide (22 ≤ m) && decide (m ≤ 25)) || decide (m = 116) || decide (m = 118) || (decide (121 ≤ m) && decide (m ≤ 125)) || decide (m = 127)
def archChannel (m : Nat) : Bool :=
  decide (m = 18) || decide (m = 19) || decide (m = 26) || decide (m = 27) || (decide (52 ≤ m) && decide (m ≤ 115)) || decide (m = 117) ||
    decide (m = 120)
/-- The channel is evaluated. -/
def State.monActive (s : State) (m : Nat) : Bool := onCell m || (s.aon.mainPower && (!archChannel m || s.archOn))
/-- MON_EN and ALARM of a channel. -/
def State.monEn (s : State) (m : Nat) : Bool := bit (s.reg .tmp 0 (0x60 + 4 * (m / 32))) (m % 32)
def State.alarm (s : State) (m : Nat) : Bool := bit (s.reg .tmp 0 (0x40 + 4 * (m / 32))) (m % 32)
/-- Assigned level (R420). -/
def State.monLevel (s : State) (m : Nat) : Nat := fld (s.reg .tmp 0 (0x70 + 4 * (m / 16))) (2 * (m % 16)) 2
/-- The general area of the log is full, and the reserve as well (R431). -/
def State.elgFull (s : State) : Bool := decide (32512 ≤ s.tmp.next)
def State.elgReserveFull (s : State) : Bool := decide (32768 ≤ s.tmp.next + s.tmp.qTamper.length)
/-- Effective level: as assigned in PROVISION, MISSION and RETURN, else Log; at least Lock while the log is full. -/
def State.effLevel (s : State) (m : Nat) : Nat :=
  let a := if s.lcState = 3 ∨ s.lcState = 4 ∨ s.lcState = 5 then s.monLevel m else 0
  if s.elgFull then max a 2 else a
/-- A channel with ALARM set has at least a level (R423, R424). -/
def State.alarmAt (s : State) (lv : Nat) : Bool := (List.range 128).any fun m => s.alarm m && decide (lv ≤ s.effLevel m)

/-! ### Records of alarms (R427, R429) -/

/-- Alarms go to the always-on ring (R425, R427). -/
def State.ringing (s : State) : Bool := s.aon.toRing || s.tmp.erasing || !s.aon.mainPower
/-- A ring entry, or the count of those that found it full. -/
def State.ringPut (s : State) (e : RingAlarm) : State :=
  if s.aon.ring.length < 64 then s.updAon fun a => { a with ring := a.ring ++ [e] }
  else (s.updAon fun a => { a with ringOver := satInc a.ringOver 0xFFFF }).setSticky .tmp 0 5
/-- An alarm the log has no place for (R431). -/
def State.elgLose (s : State) : State := (s.count16 .elg 0 0x80 0).setSticky .elg 0 3
/-- DATA of a tamper entry (R429). -/
def State.alarmData (s : State) (m : Nat) : List Byte :=
  leBytes 4 (s.reg .tmp 0 0xA8).toNat ++ leBytes 1 (s.monLevel m) ++ leBytes 1 s.lcState ++ leBytes 2 0 ++ leBytes 16 s.tmp.live.toNat
/-- The record of one alarm. -/
def State.alarmRecord (s : State) (m lv : Nat) (ring : Bool) : State :=
  if ring then s.ringPut { time := s.rtcNow, cnt := s.aonCnt, mon := m, level := lv, cell := !s.aon.mainPower }
  else if s.elgReserveFull then s.elgLose
  else s.updTmp fun x => { x with qTamper := x.qTamper ++ [{ typ := 1, level := lv, source := m, time := s.rtcNow, cnt := s.aonCnt
                                                             valid := s.aon.timeValid, data := s.alarmData m }] }
/-- The Lock effect (R411, R420). -/
def State.lockNow (s : State) : State :=
  { s with aon := { s.aon with lock := true }, dbg := { s.dbg with rights := 0 } }
/-- LOCK_SERIAL rises by 1 (R421). -/
def State.lockSerial (s : State) : State := s.updReg .tmp 0 0xA8 (· + 1)

/-! ### MONITOR_TRIP (R418-R426) -/

/-- BBRAM zeroised by an Erase; the shutdown time is written back with the value given (R425, R426). -/
def State.bbErase (s : State) (shut : Option Nat) : State :=
  let t := s.bbZero.updAon fun a => { a with erased := true, shutdown := shut }
  match shut with
  | some x => t.bbPut 0x8008 (leBytes 8 x)
  | none => t

/-- Monitors that trip in one always-on cycle, in the order of their numbers (R422). -/
def fTrip (ms : List Nat) (s : State) : State :=
  let act := (List.range 128).filter fun m => ms.contains m && s.monActive m
  let s0 := s.updTmp fun x => { x with live := act.foldl (fun l m => l ||| (1#128 <<< m)) x.live }
  let new := act.filter fun m => s.monEn m && !s.alarm m && decide (s.tmp.testing.head? ≠ some m)
  let top := new.foldl (fun a m => max a (s.effLevel m)) 0
  let s1 := new.foldl (fun s m => s.updReg .tmp 0 (0x40 + 4 * (m / 32)) fun w => putBit w (m % 32) true) s0
  let s2 := if new.isEmpty then s1 else s1.setSticky .tmp 0 2
  let s3 := if 2 ≤ top then s2.lockSerial.lockNow else s2
  let s4 := if new.any fun m => decide (s.effLevel m = 1) then s3.updAon fun a => { a with hold := true } else s3
  let s5 := new.foldl (fun t m => t.alarmRecord m (s.effLevel m) s.ringing) s4
  if top < 3 then s5
  else if s.aon.mainPower then s5.updTmp fun x => { x with erasing := true }
  else s5.bbErase s5.aon.shutdown

/-- What the Erase zeroises (R425). -/
def State.eraseKeys (s : State) : State :=
  let s1 := s.bbErase (some (s.rtcNow + 50000))
  let s2 : State := { s1.sgZero with
    ptn := { s1.ptn with wrapKey := none, ctx := s1.ptn.ctx.map fun e => (e.1, { e.2 with keys := [] }) } }
  let s3 := (List.range 256).foldl (fun s i => s.wipe (planeBase (i / 16) (i % 16)) 0x2000) s2
  let s4 := (List.range 48).foldl (fun s q => s.wipeOperand q) s3
  let s5 := [false, true].foldl (fun s b => (List.range 16).foldl (fun s k => s.hcForget b k) s) s4
  s5.wipe ksPlane 0x10000
/-- The reset that ends an Erase, once the zeroisation and the log queue are complete. -/
def State.eraseReset (s : State) : State :=
  if s.tmp.erasing && s.tmp.zeroed && s.tmp.qTamper.isEmpty && s.tmp.qFirm.isEmpty then (s.causeSet 9).deviceReset else s
/-- ERASE_ZEROISE_DONE. -/
def fEraseDone (s : State) : State :=
  if !s.tmp.erasing then s else (s.eraseKeys.updTmp fun x => { x with zeroed := true }).eraseReset

/-! ### Clearing and releasing (R418, R423, R424) -/

/-- ALARM_CLEAR: bits whose condition still trips stay. -/
def fAlarmClear (k : Nat) (v trips : Word) (s : State) : State :=
  let s1 := s.updReg .tmp 0 (0x40 + 4 * k) fun w => w &&& ~~~(v &&& ~~~trips)
  s1.updTmp fun x => { x with live := (x.live &&& ~~~((v &&& ~~~trips).zeroExtend 128 <<< (32 * k))) ||| ((v &&& trips).zeroExtend 128 <<< (32 * k)) }
/-- HOLD_RELEASE. -/
def fHoldRelease (v : Word) (s : State) : State :=
  if !bit v 0 then s
  else if s.alarmAt 1 then s.reject .tmp 0 0xA4 v
  else s.updAon fun a => { a with hold := false }
/-- The statement an unlock must name: 0x554E_4C4B, UID [31:0], LOCK_SERIAL. -/
def State.unlockDigest (s : State) : List Byte :=
  sha384 (leBytes 4 0x554E4C4B ++ leBytes 4 s.lcs.uid ++ leBytes 4 (s.reg .tmp 0 0xA8).toNat ++ zeros 4)
/-- The commit signal of an UNLOCK request (R424). -/
def State.tmpUnlock (s : State) (opdig : List Byte) : State :=
  if decide (opdig = s.unlockDigest) && !s.alarmAt 2 then s.updAon fun a => { a with lock := false } else s.setSticky .tmp 0 3

/-! ### Built-in tests (R428) -/

/-- A write of TMP.TEST. -/
def fTmpTest (v : Word) (s : State) : State :=
  let m := fld v 0 7
  let s1 := s.setReg .tmp 0 0x90 (v &&& 0x7F)
  let busy := !s.tmp.testing.isEmpty || !s.aon.mainPower
  if bit v 8 then
    if busy then s1.reject .tmp 0 0x90 v
    else s1.updTmp fun x => { x with testing := (List.range 128).filter (s.monEn ·), sweep := true }
  else if bit v 7 then
    if busy || s.alarm m || !s.monEn m then s1.reject .tmp 0 0x90 v
    else s1.updTmp fun x => { x with testing := [m], sweep := false }
  else s1
/-- TAMPER_TEST_DONE of the channel under test. -/
def fTmpTested (ok : Bool) (s : State) : State :=
  match s.tmp.testing with
  | [] => s
  | m :: r =>
    let s1 := s.updTmp fun x => { x with testing := r, sweep := x.sweep && !r.isEmpty }
    if ok then s1 else (s1.updReg .tmp 0 (0x94 + 4 * (m / 32)) fun w => putBit w (m % 32) true).setSticky .tmp 0 4
/-- RING_CLEAR (R427). -/
def fRingClear (v : Word) (s : State) : State := if bit v 0 then s.updAon fun a => { a with ring := [], ringOver := 0 } else s

/-! ### Evidence log (R429-R431) -/

/-- Bytes of a slot, and whether it is torn. -/
def State.elgSlot (s : State) (i : Nat) : List Byte := s.flBytes (logBase + 64 * i) 64
def State.elgTorn (s : State) (i : Nat) : Bool :=
  let b := s.elgSlot i
  (b.take 4).all (· == 0xFF) && !(b.drop 0x20).all (· == 0xFF)
/-- CHAIN after the entries below a slot: the last one that is not torn, or the start value. -/
def State.elgChain (s : State) : Nat → List Byte
  | 0 => (sha256 (leBytes 8 s.lcs.uid ++ ascii "KS-ELOG")).take 16
  | n + 1 => if s.elgTorn n then s.elgChain n else (sha256 (s.elgSlot n)).take 16
/-- The first 48 bytes of an entry in a slot (R429). -/
def entryBytes (e : LogEntry) (slot : Nat) : List Byte :=
  leBytes 4 slot ++ leBytes 1 e.typ ++ leBytes 1 e.level ++ leBytes 2 e.source ++ leBytes 8 e.time ++ leBytes 4 e.cnt ++
    leBytes 2 ((if e.valid then 1 else 0) + (if 32512 ≤ slot then 2 else 0) + (if e.cell then 4 else 0)) ++ leBytes 2 0 ++ fixLen 24 e.data
/-- A firmware entry joins its queue of 8 places. -/
def State.logFirm (s : State) (typ source : Nat) (data : List Byte) : State :=
  s.updTmp fun x => { x with qFirm := x.qFirm ++ [{ typ := typ, source := source, time := s.rtcNow, cnt := s.aonCnt
                                                    valid := s.aon.timeValid, data := data }] }
/-- A log entry of ROM or firmware that no command of the table carries; a full general area refuses it (R431). -/
def State.romLog (s : State) (typ source : Nat) (data : List Byte) : State :=
  if s.elgFull then s.setSticky .elg 0 2 else s.logFirm typ source data
/-- LOG_APPEND (R431): the refusals, then the queue. `rom` tells ROM before STAGE becomes firmware. -/
def fLogAppend (m : Master) (v : Word) (s : State) : State :=
  let a := s.reg .elg 0 0x44
  let t := fld a 0 8
  let rom := m.isKs && decide (s.kst.stage = 0)
  if !bit v 0 then s
  else if t < 2 || 0x0E < t || (t = 2 && !rom) || 8 ≤ s.tmp.qFirm.length then s.reject .elg 0 0x68 v
  else if s.elgFull then s.setSticky .elg 0 2
  else
    let s1 := s.logFirm t (fld a 16 16) (s.regBytes .elg 0 0x48 6)
    if t = 2 then s1.updTmp fun x => { x with qFirm := s.tmp.qFirm ++ (x.qFirm.drop s.tmp.qFirm.length).map fun e => { e with time := s.reg64 .elg 0 0x60 } }
    else s1

/-- A flash command that waited for the log starts (R442). -/
def State.flPendStart (s : State) : State :=
  match s.flc.pend with
  | some c =>
    if s.logBusy then s
    else s.updFlc fun x => { x with pend := none, run := some c, done := false, error := false, code := c.code }
  | none => s
/-- The entry at the head goes to the next slot; bytes 0x20-0x3F first. After a verify failure the slot stays torn and the entry takes the
next one (R430). -/
def State.elgProgram (s : State) (e : LogEntry) (ok : Bool) (pop : Tmp → Tmp) : State :=
  let i := s.tmp.next
  let b := entryBytes e i ++ s.elgChain i
  let o := logBase + 64 * i
  if ok then ((s.flPut (o + 32) (b.drop 32)).flPut o (b.take 32)).updTmp fun x => { pop x with next := i + 1 }
  else ((s.flScramble (o + 32) 32).setSticky .elg 0 4).updTmp fun x => { x with next := i + 1 }
/-- LOG_ENTRY_PROGRAMMED (R430, R431): tamper entries first. -/
def fLogDone (ok : Bool) (s : State) : State :=
  let t := match s.tmp.qTamper, s.tmp.qFirm with
    | e :: r, _ =>
      if 32768 ≤ s.tmp.next then (s.updTmp fun x => { x with qTamper := r }).elgLose else s.elgProgram e ok fun x => { x with qTamper := r }
    | [], e :: r =>
      if s.elgFull then (s.updTmp fun x => { x with qFirm := r }).setSticky .elg 0 2 else s.elgProgram e ok fun x => { x with qFirm := r }
    | [], [] => s
  t.flPendStart.eraseReset

/-- The controller finds its next slot at boot (R430): after the highest slot with a programmed byte among 0x00-0x03 and 0x20-0x3F. -/
def State.elgBoot (s : State) : State :=
  let n := s.flc.bytes.foldl (fun a e =>
    let r := (e.1 - logBase) % 64
    if within e.1 logBase 0x200000 && (decide (r < 4) || decide (32 ≤ r)) then max a ((e.1 - logBase) / 64 + 1) else a) 0
  let t := s.updTmp fun x => { x with next := n }
  if 0 < n ∧ s.elgTorn (n - 1) then t.setSticky .elg 0 5 else t

/-! ### The rows -/

/-- MONITOR_TRIP (R418). -/
def execMonitorTrip (ms : List (Fin 128)) (s : State) : Host.Outcome State Fault Refusal := .next (fTrip (ms.map (·.val)) s)

/-- ERASE_ZEROISE_DONE (R425). -/
def execEraseZeroiseDone (s : State) : Host.Outcome State Fault Refusal := .next (fEraseDone s)

/-- ALARM_CLEAR (R418). -/
def execAlarmClear (m : Master) (k : Fin 4) (v : Word) (newTrips : Word) (s : State) : Host.Outcome State Fault Refusal := .next (s.gated m .tmp 0 (0x040 + 4 * k.val) (fAlarmClear k v newTrips))

/-- HOLD_RELEASE (R423). -/
def execHoldRelease (m : Master) (v : Word) (s : State) : Host.Outcome State Fault Refusal := .next (s.gated m .tmp 0 0x0A4 (fHoldRelease v))

/-- TAMPER_TEST_START (R428). -/
def execTamperTestStart (m : Master) (v : Word) (s : State) : Host.Outcome State Fault Refusal := .next (s.gated m .tmp 0 0x090 (fTmpTest (putBit (putBit v 8 false) 7 true)))

/-- TAMPER_SWEEP (R428). -/
def execTamperSweep (m : Master) (v : Word) (s : State) : Host.Outcome State Fault Refusal := .next (s.gated m .tmp 0 0x090 (fTmpTest (putBit v 8 true)))

/-- TAMPER_TEST_DONE (R428). -/
def execTamperTestDone (ok : Bool) (s : State) : Host.Outcome State Fault Refusal := .next (fTmpTested ok s)

/-- RING_CLEAR (R427). -/
def execRingClear (m : Master) (v : Word) (s : State) : Host.Outcome State Fault Refusal := .next (s.gated m .tmp 0 0x0B4 (fRingClear v))

/-- LOG_APPEND (R431). -/
def execLogAppend (m : Master) (v : Word) (s : State) : Host.Outcome State Fault Refusal := .next (s.gated m .elg 0 0x068 (fLogAppend m v))

end Sys2Proof.Machine
end

