-- ==== Sys2Proof/Machine/Dual.lean ====
section
/-! DEFINITION. Access check unit pages and dual control (R369-R384): requests, digests, approvals, the commit with each page's own
refusals and effects. -/

namespace Sys2Proof.Machine

/-! ### Request slots -/

/-- A request slot, its write and its update. -/
def State.req (s : State) (r : Nat) : Req := Sparse.get {} s.dual.req r
def State.setReq (s : State) (r : Nat) (x : Req) : State := { s with dual := { s.dual with req := Sparse.set {} s.dual.req r x } }
def State.updReq (s : State) (r : Nat) (f : Req → Req) : State := s.setReq r (f (s.req r))
/-- CMD_REJECT of the DUAL page. -/
def State.dualReject (s : State) (off : Nat) (v : Word) : State := s.reject .dual 0 off v

/-- Contexts of an ACU (R367). -/
def acuContexts (i : Nat) : Nat := if i < 16 then 3 else if i = 59 then 128 else 1
/-- Offsets of the RWP registers of a page in increasing order; those of the ACU pages are kept by context. -/
def rwpOffs (b : Block) (i : Nat) : List Nat :=
  if b = .acu then []
  else (regRows b).flatMap fun r =>
    if r.rwp = 0 ∨ (b = .sgm ∧ i ≠ 0 ∧ 0x80 ≤ r.off) then [] else (List.range r.n).map fun k => r.off + k * r.stride
/-- The page has RWP registers. -/
def hasRwp (pg : PageRef) : Bool := decide (pg.block = .acu) || !(rwpOffs pg.block pg.inst).isEmpty
/-- RWP mask of a register. -/
def rwpMask (b : Block) (off : Nat) : Word := match regRow b off with | some r => r.rwp | none => 0
/-- The shadow of a register (R32). -/
def State.shadow (s : State) (b : Block) (i off : Nat) : Word := s.reg b i (0x800 + off)
/-- The shadow image of a page (R377). -/
def State.shadowImage (s : State) (pg : PageRef) : List Byte :=
  if pg.block = .acu then
    (List.range (acuContexts pg.inst)).flatMap fun c => (List.range 16).flatMap fun k =>
      leBytes 4 (Sparse.get 0 s.acuBaseSh (acuKey pg.inst c k)).toNat ++ leBytes 4 (Sparse.get 0 s.acuAttrSh (acuKey pg.inst c k)).toNat
  else (rwpOffs pg.block pg.inst).flatMap fun o => leBytes 4 (s.shadow pg.block pg.inst o).toNat

/-- Selector half-word of a page (R384). -/
def selOf (pg : PageRef) : Nat := pg.block.code + pg.inst * 128 + 2 ^ 15
/-- The page a selector names. -/
def pageOfSel (v : Nat) : Option PageRef :=
  match Block.all.find? fun b => decide (b.code = v % 128) with
  | some b => if v / 2 ^ 13 = 4 ∧ v / 128 % 64 < b.insts then some ⟨b, v / 128 % 64⟩ else none
  | none => none
/-- The first n selectors of PAGE_0-7. -/
def State.selected (s : State) (n : Nat) : List (Option PageRef) :=
  (List.range n).map fun k => pageOfSel (fld (s.reg .dual 0 (0x58 + 4 * (k / 2))) (16 * (k % 2)) 16)

/-- A write or a reset of a page's shadows makes every open request that lists it stale (R377). -/
def State.staleMark (s : State) (pg : PageRef) : State :=
  { s with dual := { s.dual with req := s.dual.req.map fun e =>
      (e.1, if e.2.st ≠ 0 ∧ e.2.pages.contains pg then { e.2 with stale := true } else e.2) } }

/-! ### Opening and closing (R377, R384) -/

/-- REQ_CTL.OPEN with a KIND. -/
def State.dualOpen (s : State) (v : Word) : State :=
  let r := fld (s.reg .dual 0 0x4C) 0 2
  let kind := fld v 2 2
  let n := fld v 4 5
  let ps := s.selected n
  let pages := ps.filterMap id
  let bad := decide ((s.req r).st ≠ 0) || decide (kind = 0) ||
    (if kind = 1 then decide (n = 0) || decide (16 < n) || ps.any (·.isNone) || !decide (pages.Nodup) || pages.any (fun p => !hasRwp p) ||
        s.dual.req.any (fun e => decide (e.2.st ≠ 0) && e.2.pages.any (pages.contains ·))
      else decide (n ≠ 0))
  if bad then s.dualReject 0x50 v
  else
    let img := pages.flatMap fun p => leBytes 2 (selOf p) ++ [0, 0] ++ s.shadowImage p
    let dig := if kind = 1 then sha384 img else s.regBytes .dual 0 0xC0 12
    let bytes := if kind = 1 then img.length else 48
    let x := s.req r
    let s1 := { s with dual := { s.dual with opens := s.dual.opens + 1 } }
    s1.setReq r { st := 1, kind := kind, pages := if kind = 1 then pages else [], serial := s.dual.opens + 1, epoch := s.reg64 .dual 0 0x44
                  digest := dig, due := s.stroke + 100 + 80 * ((bytes + 127) / 128), result := x.result, page := x.page
                  pwVal := s.reg .nfc 0 0x8C }
/-- A write of REQ_CTL. -/
def fReqCtl (v : Word) (s : State) : State :=
  let s1 := s.setReg .dual 0 0x50 (v &&& 0x1FC)
  if bit v 0 then s1.dualOpen v
  else if bit v 1 then
    let r := fld (s.reg .dual 0 0x4C) 0 2
    s1.updReq r fun x => { x with st := 0, granted := false, apps := [] }
  else s1
/-- DUAL_DIGEST_READY. -/
def fDigest (r : Nat) (s : State) : State :=
  if (s.req r).st = 1 ∧ (s.req r).due ≤ s.stroke then s.updReq r fun x => { x with st := 2 } else s

/-! ### Approvals (R378, R379) -/

/-- An approval has not expired. -/
def State.appLive (s : State) (a : App) : Bool := decide (s.wallMs < a.atMs + 60000)
/-- A principal kind is accepted for a request kind. -/
def State.kindOk (s : State) (req pk : Nat) : Bool := if req = 3 then decide (pk = 2) else bit (s.reg .dual 0 0x40) pk
/-- A write of APP_CTL. The identity of KEYSTONE and PF is 0 (R376). -/
def fAppCtl (v : Word) (s : State) : State :=
  let s1 := s.setReg .dual 0 0xF8 (v &&& 0xF)
  let r := fld v 0 2
  let pk := fld v 2 2
  let x := s.req r
  let id := if pk ≤ 1 then 0 else (s.reg .dual 0 0xF0).toNat
  let place := match x.apps.find? fun (e : Nat × App) => decide (e.2.kind = pk) && decide (e.2.ident = id) with
    | some e => some e.1
    | none => (List.range 4).find? fun j => match x.apps.find? fun (e : Nat × App) => decide (e.1 = j) with
      | some e => !s.appLive e.2
      | none => true
  if !bit v 4 then s1
  else if x.st ≠ 2 ∨ (s.reg .dual 0 0xF4).toNat ≠ x.serial % 2 ^ 32 ∨ !s.kindOk x.kind pk then s1.dualReject 0xF8 v
  else match place with
    | some j => s1.updReq r fun y => { y with apps := (y.apps.filter fun (e : Nat × App) => decide (e.1 ≠ j)) ++ [(j, { kind := pk, ident := id, atMs := s.wallMs })] }
    | none => s1.dualReject 0xF8 v
/-- APPROVAL_EXPIRY of a place. -/
def fAppExpiry (r j : Nat) (s : State) : State :=
  if (s.req r).apps.any fun e => decide (e.1 = j) && !s.appLive e.2 then
    (s.updReq r fun x => { x with apps := x.apps.filter fun e => decide (e.1 ≠ j) }).setSticky .dual 0 3
  else s
/-- The request holds the approvals it needs (R379, R381). -/
def State.approved (s : State) (x : Req) : Bool :=
  let live := (x.apps.filter fun e => s.appLive e.2).map (·.2)
  let human := bit (s.reg .dual 0 0x40) 4
  let ok (a b : App) : Bool :=
    decide ((a.kind, a.ident) ≠ (b.kind, b.ident)) && s.kindOk x.kind a.kind && s.kindOk x.kind b.kind &&
      (decide (x.kind = 3) || !human || decide (2 ≤ a.kind) || decide (2 ≤ b.kind))
  (s.dual.boot && live.any fun a => decide (a.kind = 0)) || live.any fun a => live.any fun b => ok a b

/-! ### Page refusals (R132, R139, R156, R189, R214, R309, R301, R359, R369, R374, R419) -/

/-- Committed value a register would take. -/
def State.newReg (s : State) (b : Block) (i off : Nat) : Word :=
  (s.reg b i off &&& ~~~(rwpMask b off)) ||| (s.shadow b i off &&& rwpMask b off)
/-- Bits of a fence register that a commit would clear, and set. -/
def State.clears (s : State) (b : Block) (i off : Nat) : List Nat :=
  (List.range 32).filter fun j => s.regBit b i off j && !bit (s.newReg b i off) j
def State.sets (s : State) (b : Block) (i off : Nat) : List Nat :=
  (List.range 32).filter fun j => !s.regBit b i off j && bit (s.newReg b i off) j

/-- The combined tables passed R123 since a self-test. -/
def State.auditedSince (s : State) (t : Option Nat) : Bool :=
  match t, s.audit with
  | some t, some a => decide (t ≤ a)
  | _, _ => false
/-- A re-issue is pending whose heat uses a unit: engine pairs of cluster k, or a pair of the hash or cipher units. -/
def State.reissuePending (s : State) (p : Nat → Nat → Bool) : Bool :=
  s.cox.any fun (e : Nat × Cox) => e.2.waiting.any fun w =>
    (List.range w.heat.units.length).any fun i => p i (w.heat.units.getD i 0xFF) && decide (w.heat.units.getD i 0xFF ≠ 0xFF)
/-- A region register pair is well formed, and a locked region of ACU 60 keeps its place (R369, R374): the offset refused. -/
def State.acuRefuse (s : State) (i c k : Nat) : Option Nat :=
  let key := acuKey i c k
  let b := Sparse.get 0 s.acuBase key
  let a := Sparse.get 0 s.acuAttr key
  let nb := Sparse.get 0 s.acuBaseSh key
  let na := Sparse.get 0 s.acuAttrSh key
  let lg := fld na 0 6
  if b = nb ∧ a = na then none
  else if lg < 8 ∨ 40 < lg then some (0x104 + 8 * k)
  else if nb.toNat * 256 % 2 ^ lg ≠ 0 then some (0x100 + 8 * k)
  else if i = 60 ∧ s.lcState ≠ 5 ∧ bit a 10 ∧ (!bit na 10 ∨ (bit a 6 ∧ !bit na 6) ∨ fld a 0 6 ≠ lg) then some (0x104 + 8 * k)
  else if i = 60 ∧ s.lcState ≠ 5 ∧ bit a 10 ∧ b ≠ nb then some (0x100 + 8 * k)
  else none

/-- Bytes of two window ranges overlap. -/
def overlaps (b1 n1 b2 n2 : Nat) : Bool := decide (b1 < b2 + n2) && decide (b2 < b1 + n1)
/-- Region k of a new set is refused (R301). -/
def regionBad (rs : List Word) (k : Nat) : Bool :=
  let w := rs.getD k 0
  if regSize w = 0 then false
  else
    (regMirror w && decide (0xA0000000 < regBase w + regSize w)) || decide (0x140000000 < regBase w + regSize w) ||
      (List.range rs.length).any fun j =>
        let x := rs.getD j 0
        decide (regSize x ≠ 0) &&
          ((decide (j ≠ k) && overlaps (regBase w) (regSize w) (regBase x) (regSize x)) ||
            (regMirror x && overlaps (regBase w) (regSize w) (regBase x + 0xA0000000) (regSize x)))

/-- The register whose rule refuses the commit of a page, among the pages of the request. -/
def State.pageRefuse (s : State) (all : List PageRef) (pg : PageRef) : Option Nat :=
  let i := pg.inst
  match pg.block with
  | .acu => (List.range (acuContexts i)).findSome? fun c => (List.range 16).findSome? fun k => s.acuRefuse i c k
  | .mort =>
    (List.range 4).findSome? fun k =>
      if (s.clears .mort 0 (0x50 + 4 * k)).any fun j =>
          let l := Sparse.get {} s.mort.link (32 * k + j)
          !l.testOk || !s.auditedSince l.testAt then some (0x50 + 4 * k) else none
  | .cox =>
    let role := fld (s.newReg .cox i 0x40) 0 2
    let spares := (List.range 16).filter fun c =>
      decide (fld (if all.contains ⟨.cox, c⟩ then s.newReg .cox c 0x40 else s.reg .cox c 0x40) 0 2 = 1)
    if role = 3 ∨ (role = 1 ∧ 2 < spares.length) ∨ (role = 2 ∧ !s.tablesEmpty i) ∨
        (role = 1 ∧ (s.cx i).table.any fun t => decide (t.kind = 1)) then some 0x40
    else if bit (s.newReg .cox i 0x44) 0 && !s.regBit .cox i 0x54 0 then some 0x44
    else if (s.clears .cox i 0x68).any fun j => !(s.cx i).passed.contains j || !(s.cx i).waiting.isEmpty then some 0x68
    else none
  | .pke =>
    if (s.clears .pke i 0x4C).any fun j =>
        let x := s.pkeU (12 * i + j)
        !x.passed || !s.auditedSince x.testAt || s.reissuePending fun n u => decide (n < 2) && decide (u / 12 = i) then some 0x4C
    else none
  | .hsh =>
    if (s.clears .hsh 0 0x4C).any fun j =>
        !(s.hc false j).passed || !s.auditedSince (s.hc false j).testAt || s.reissuePending fun n u => decide (n = 2 ∨ n = 3) && decide (u = j) then
      some 0x4C
    else none
  | .cip =>
    if (s.clears .cip 0 0x4C).any fun j =>
        !(s.hc true j).passed || !s.auditedSince (s.hc true j).testAt || s.reissuePending fun n u => decide (n = 4) && decide (u = j) then some 0x4C
    else none
  | .sgm =>
    let new := (List.range 8).map fun k => s.newReg .sgm 0 (0x80 + 4 * k)
    if !(s.clears .sgm i 0x40).isEmpty && !((s.sg i).trained && (s.sg i).keyed) then some 0x40
    else if i ≠ 0 then none
    else (List.range 8).findSome? fun k =>
      let o := s.reg .sgm 0 (0x80 + 4 * k)
      let w := new.getD k 0
      if regionBad new k || (bit (s.reg .jnl 0 0x40) 0 && decide (w ≠ o) &&
          ((decide (regKind o = 1) && decide (regSize o ≠ 0)) || (decide (regKind w = 1) && decide (regSize w ≠ 0)))) then some (0x80 + 4 * k)
      else none
  | .tmp => if (s.newReg .tmp 0 0x6C) &&& 0x41F00000 ≠ 0x41F00000 then some 0x6C else none
  | _ => none

/-! ### Effects of a commit -/

/-- Every shadow of a page becomes its committed value (R32). -/
def State.applyPage (s : State) (pg : PageRef) : State :=
  let i := pg.inst
  if pg.block = .acu then
    (List.range (acuContexts i)).foldl (fun s c => (List.range 16).foldl (fun s k =>
      let key := acuKey i c k
      { s with acuBase := Sparse.set 0 s.acuBase key (Sparse.get 0 s.acuBaseSh key)
               acuAttr := Sparse.set 0 s.acuAttr key (Sparse.get 0 s.acuAttrSh key) }) s)
      { s with acuEcc := s.acuEcc.filter fun k => decide (k / 128 ≠ i) }
  else (rwpOffs pg.block i).foldl (fun s o => s.setReg pg.block i o (s.newReg pg.block i o)) s

/-- Window bytes [b, b + n) rewritten as NONE lines on their channels, and on the mirror channels (R301). -/
def State.wipeWindow (s : State) (b n : Nat) (mirror : Bool) : State :=
  let side (s : State) (lo hi ch : Nat) : State :=
    if hi ≤ lo then s else (List.range 4).foldl (fun s j => s.wipe (copyBase (ch + j) + lo / 4) ((hi - lo) / 4)) s
  let w := 0xA0000000
  let s1 := side s (min b w) (min (b + n) w) 0
  let s2 := side s1 (max b w - w) (max (b + n) w - w) 4
  if mirror then side s2 b (b + n) 4 else s2
/-- A changed region descriptor: lines it newly covers or leaves, and both copies of newly mirrored lines. -/
def State.regionChange (s : State) (o w : Word) : State :=
  if o = w then s
  else if regSize o ≠ 0 ∧ regSize w ≠ 0 ∧ overlaps (regBase o) (regSize o) (regBase w) (regSize w) ∧ (regMirror o || !regMirror w) then
    let m := regMirror o || regMirror w
    let lo := min (regBase o) (regBase w)
    let eo := regBase o + regSize o
    let ew := regBase w + regSize w
    (s.wipeWindow lo (max (regBase o) (regBase w) - lo) m).wipeWindow (min eo ew) (max eo ew - min eo ew) m
  else (s.wipeWindow (regBase o) (regSize o) (regMirror o)).wipeWindow (regBase w) (regSize w) (regMirror w)

/-- A commit of 1 to fence bits (R512) and of 0 (R359) on the COX page. -/
def State.coxFences (s old : State) (c : Nat) : State :=
  let off := old.sets .cox c 0x68
  let on := old.clears .cox c 0x68
  let s1 := off.foldl (fun s j => s.untest c j) s
  let s2 := if off.contains 8 then s1.abandonSwap c else s1
  s2.updCx c fun x => { x with reopen := x.reopen ++ on.filter fun j => !x.reopen.contains j }
/-- The same for engine pairs of cluster k. -/
def State.pkeFences (s old : State) (k : Nat) : State :=
  let s1 := (old.sets .pke k 0x4C).foldl (fun s j =>
    let q := 12 * k + j
    match (s.pkeU q).st with
    | .sched | .free => s.updPke q fun x => { x with fenceWait := true }
    | .wipe => s.updPke q fun x => { x with toFence := true }
    | .test => (s.updPke q fun x => { x with before := true }).pkeEnterFence q
    | _ => (s.updPke q fun x => { x with st := .fenced }).pkeEnterFence q) s
  (old.clears .pke k 0x4C).foldl (fun s j =>
    let q := 12 * k + j
    s.updPke q fun x => { x with st := if (s.clu k).ucValid then .idle else .noUc, reopen := decide (s.pkeRoute q ≠ q) }) s1
/-- The same for hash and cipher pairs. -/
def State.hcFences (s old : State) (b : Bool) : State :=
  let s1 := (old.sets (hcPage b) 0 0x4C).foldl (fun s k =>
    match (s.hc b k).st with
    | .sched | .free => s.updHc b k fun x => { x with fenceWait := true }
    | .wipe => s.updHc b k fun x => { x with toFence := true }
    | .test => (s.updHc b k fun x => { x with before := true }).hcEnterFence b k
    | _ => (s.updHc b k fun x => { x with st := .fenced }).hcEnterFence b k) s
  (old.clears (hcPage b) 0 0x4C).foldl (fun s k =>
    s.updHc b k fun x => { x with st := .idle, reopen := decide (s.hcRoute b k ≠ k) }) s1

/-- What a page does with its new committed values: `old` is the state before the commit, `swaps` the courses whose buffers swap. -/
def State.pageEffect (s old : State) (peer : Bool) (swaps : List Nat) (pg : PageRef) : State :=
  let i := pg.inst
  match pg.block with
  | .sys => s.pairCommit peer
  | .tim =>
    let v := s.reg64 .tim 0 0x54
    if v = old.reg64 .tim 0 0x54 then s
    else s.validAfter { s with tim := { s.tim with now := v * usUnits, valid := true, slew := 0, slewing := false, stepped := true
                                                   lastDisc := v } }
  | .mort =>
    (List.range 4).foldl (fun s k => (old.sets .mort 0 (0x50 + 4 * k)).foldl (fun s j =>
      { s with mort := { s.mort with link := Sparse.upd {} s.mort.link (32 * k + j) fun x => { x with testOk := false } } }) s) s
  | .cox =>
    let s1 := s.updCx i fun x => { x with swap := if swaps.contains i then some (s.stroke / frameLen, swaps) else none }
    s1.coxFences old i
  | .pke => s.pkeFences old i
  | .hsh => s.hcFences old false
  | .cip => s.hcFences old true
  | .sgm =>
    let s1 := if (old.sets .sgm i 0x40).isEmpty then s else s.sgFence i false
    let s2 := if (old.clears .sgm i 0x40).isEmpty then s1 else s1.updSg i fun x => { x with st := 3, resilver := 0 }
    if i ≠ 0 then s2
    else (List.range 8).foldl (fun s k => s.regionChange (old.reg .sgm 0 (0x80 + 4 * k)) (s.reg .sgm 0 (0x80 + 4 * k))) s2
  | _ => s

/-- The first page of a list that its own rule refuses: its place, the page and the register (R380). -/
def State.refusal (s : State) (pages : List PageRef) : Option (Nat × PageRef × Nat) :=
  (List.range pages.length).findSome? fun n =>
    match pages[n]? with
    | some pg => (s.pageRefuse pages pg).map fun o => (n, pg, o)
    | none => none
/-- The shadow value that a refused register would have taken (R28): for a region register, that of the context refused. -/
def State.refusedWord (s : State) (pg : PageRef) (o : Nat) : Word :=
  if pg.block = .acu then
    (((List.range (acuContexts pg.inst)).flatMap fun c => (List.range 16).map fun k => (c, k)).findSome? fun e =>
      (s.acuRefuse pg.inst e.1 e.2).map fun o =>
        Sparse.get 0 (if o % 8 = 0 then s.acuBaseSh else s.acuAttrSh) (acuKey pg.inst e.1 e.2)).getD 0
  else s.shadow pg.block pg.inst o
/-- A page refuses a commit: its CMD_REJECT with the register in FIRST_FAULT, and PAGE_REFUSED (R380). -/
def State.refusePage (s old : State) (pg : PageRef) (o : Nat) : State :=
  (s.setSticky pg.block pg.inst 0 o (fld (old.refusedWord pg o) 0 8)).setSticky .dual 0 2
/-- Every shadow of every listed page in one stroke, with what each page does (R380). `peer` is the level of PAIR_PEER. -/
def State.commitPages (s : State) (peer : Bool) (pages : List PageRef) : State :=
  let t := pages.foldl State.applyPage s
  let swaps := pages.filterMap fun pg => if pg.block = .cox ∧ bit (t.reg .cox pg.inst 0x44) 0 then some pg.inst else none
  pages.foldl (fun t pg => t.pageEffect s peer swaps pg) t

/-! ### Configuration records and OTP raises (R394, R396) -/

/-- The record key: words 8 to 15 of the Keystone key plane (R395). -/
def State.recordKey (s : State) : List Byte := bytesOf (s.words (ksPlane + 4 * 8) 8)
/-- What the GMAC of a record covers: the pages with their images, and the request digest (R394). -/
def CfgRec.body (pages : List (PageRef × List Byte)) (digest : List Byte) : List Byte :=
  (pages.flatMap fun e => leBytes 2 (selOf e.1) ++ [0, 0] ++ e.2) ++ digest
/-- A record authenticates under the record key. -/
def State.cfgOk (s : State) (e : CfgRec) : Bool := decide (gcmTag s.recordKey e.iv (CfgRec.body e.pages e.digest) [] = e.tag)
/-- A protected change that commits after the boot window is recorded in flash with its page images; it commits the configuration again
where a record failed (R394, log entry 104). `old` holds the shadows committed. -/
def State.recordCfg (s old : State) (x : Req) : State :=
  if old.dual.boot then s
  else
    let pages := x.pages.map fun pg => (pg, old.shadowImage pg)
    let iv := s.freeBs 12
    let e : CfgRec := { pages := pages, digest := x.digest, iv := iv, tag := gcmTag s.recordKey iv (CfgRec.body pages x.digest) [] }
    let t := s.updFlc fun f => { f with cfg := f.cfg ++ [e] }
    let k := t.kst
    let u := (t.romLog 6 0 (x.digest.take 24)).romLog 6 1 (x.digest.drop 24)
    { u with free := u.free + 12, kst := { k with cfgFail := false } }
/-- The 16-byte statement of an OTP raise (R396). -/
def otpStatement (n v : Nat) : List Byte := leBytes 4 0x4F545052 ++ leBytes 4 n ++ leBytes 4 v ++ zeros 4
/-- VERSION of the image in a boot twin (R389). -/
def State.twinVersion (s : State) (b : Bool) : Nat := leNat (s.flBytes (twinBase b + 6) 2)
/-- An OTP raise under an OPERATION grant for its statement: one step of a counter of 128 or 64 cells up to VALUE, an authority slot
programmed with OPDIG, or revoked; a step that would pass the last cell, and a slot already programmed, have no effect (R396, log entry
105). -/
def State.otpRaise (s : State) (dig : List Byte) (n v : Nat) : State :=
  let c := Sparse.get 0 s.lcs.counter n
  let step : State := s.updLcs fun x => { x with counter := Sparse.set 0 x.counter n (c + 1) }
  if dig ≠ sha384 (otpStatement n v) then s
  else if n = 1 then
    if v = c + 1 ∧ v ≤ 128 ∧ v ≤ s.twinVersion false ∧ v ≤ s.twinVersion true then step else s
  else if n = 2 then (if v = c + 1 ∧ v ≤ 64 then step else s)
  else if 3 ≤ n ∧ n ≤ 6 then
    if s.lcs.authority.any fun e => decide (e.1 = n - 3) then s
    else
      let l := s.lcs.authority
      let below := l.filter fun e => decide (e.1 < n - 3)
      let above := l.filter fun e => decide (n - 3 < e.1)
      s.updLcs fun x => { x with authority := below ++ (n - 3, dig) :: above }
  else if 7 ≤ n ∧ n ≤ 10 then s.updLcs fun x => { x with revoked := x.revoked.filter (· ≠ n - 7) ++ [n - 7] }
  else s

/-- DUAL_COMMIT (R380): the conditions in order, then every shadow of every listed page in one stroke. An OPERATION commit changes no
register; where the request came with the statement of an OTP raise, the firmware performs it under the grant (R382, R396). `peer` is the
level of PAIR_PEER, `otp` COUNTER and VALUE of such a statement. -/
def fCommit (v : Word) (peer : Bool) (otp : Option (Nat × Nat)) (s : State) : State :=
  let r := fld v 0 2
  let s0 := s.setReg .dual 0 0xFC (v &&& 3)
  let x := s.req r
  let fail (n : Nat) : State := (s0.updReq r fun y => { y with result := n }).dualReject 0xFC v
  if !bit v 2 then s0
  else if x.st ≠ 2 then fail 1
  else if x.stale then fail 2
  else if !s.approved x then fail 3
  else
    let close (res : Nat) (g : Bool) (s : State) : State := s.updReq r fun y => { y with
      st := 0, result := res, granted := g, apps := [], kinds := (y.apps.filter fun (e : Nat × App) => s.appLive e.2).map (·.2.kind) }
    match s.refusal x.pages with
    | some (n, pg, o) => ((close 4 false s0).updReq r fun y => { y with page := n }).refusePage s pg o
    | none =>
      let s1 := close 0 true s0
      if x.kind = 3 then s1.tmpUnlock x.digest
      else if x.kind = 2 then (match otp with | some (n, v) => s1.otpRaise x.digest n v | none => s1)
      else (s1.commitPages peer x.pages).recordCfg s x
/-- An OPERATION grant holds for a digest (R382). -/
def State.grantFor (s : State) (dig : List Byte) : Bool :=
  s.dual.req.any fun e => e.2.granted && decide (e.2.kind = 2) && decide (e.2.digest = dig)

/-- APPROVE (R322, R378): PF and REMOTE approvals; firmware verifies the signature and submits. -/
def fApprove (g : Go) (r : Nat) (who : Principal) (serial : Nat) (sigOk : Bool) (s : State) : State :=
  s.mbxGo g 0x0041 fun s =>
    if who.kind.val ≠ 1 ∧ who.kind.val ≠ 3 then s.mbxAnswer stBadArg []
    else if !sigOk then s.mbxAnswer stAuth []
    else
      let s1 := (s.setReg .dual 0 0xF0 (w32 who.ident)).setReg .dual 0 0xF4 (w32 serial)
      let t := fAppCtl (w32 (r + who.kind.val * 4 + 16)) s1
      if (t.req r).apps = (s.req r).apps ∧ ((s.req r).st ≠ 2 ∨ serial % 2 ^ 32 ≠ (s.req r).serial % 2 ^ 32 ∨ !s.kindOk (s.req r).kind who.kind.val) then
        t.mbxAnswer stState []
      else t.mbxAnswer stOk []

/-- VIOL_CLEAR (R373): a refusal in the same stroke wins. -/
def fViolClear (i : Nat) (v : Word) (refusedNow : Bool) (s : State) : State :=
  if !bit v 0 then s
  else if refusedNow then
    (s.updReg .acu i 0x58 fun w => putFld w 0 16 (satInc (fld w 0 16) 0xFFFF)).setSticky .acu i 2
  else (s.updReg .acu i 0x44 fun w => putBit w 31 false).setReg .acu i 0x58 0

/-! ### The rows -/

/-- APPROVE (R378). -/
def execApprove (g : Go) (req : Nat) (who : Principal) (serial : Nat) (sigOk : Bool) (s : State) : Host.Outcome State Fault Refusal := .next (fApprove g req who serial sigOk s)

/-- VIOL_CLEAR (R373). -/
def execViolClear (m : Master) (i : Fin 64) (v : Word) (refusedNow : Bool) (s : State) : Host.Outcome State Fault Refusal := .next (s.gated m .acu i.val 0x05C (fViolClear i.val v refusedNow))

/-- DUAL_OPEN_REGISTER (R377). -/
def execDualOpenRegister (m : Master) (v : Word) (s : State) : Host.Outcome State Fault Refusal := .next (s.gated m .dual 0 0x050 (fReqCtl (putFld (putBit v 0 true) 2 2 1)))

/-- DUAL_OPEN_OPERATION (R377). -/
def execDualOpenOperation (m : Master) (v : Word) (s : State) : Host.Outcome State Fault Refusal := .next (s.gated m .dual 0 0x050 (fReqCtl (putFld (putBit v 0 true) 2 2 2)))

/-- DUAL_OPEN_UNLOCK (R377). -/
def execDualOpenUnlock (m : Master) (v : Word) (s : State) : Host.Outcome State Fault Refusal := .next (s.gated m .dual 0 0x050 (fReqCtl (putFld (putBit v 0 true) 2 2 3)))

/-- DUAL_DIGEST_READY (R377). -/
def execDualDigestReady (r : Fin 4) (s : State) : Host.Outcome State Fault Refusal := .next (fDigest r.val s)

/-- DUAL_CLOSE (R384). -/
def execDualClose (m : Master) (v : Word) (s : State) : Host.Outcome State Fault Refusal := .next (s.gated m .dual 0 0x050 (fReqCtl (putBit (putBit v 0 false) 1 true)))

/-- APPROVAL_SUBMIT (R378). -/
def execApprovalSubmit (m : Master) (v : Word) (s : State) : Host.Outcome State Fault Refusal := .next (s.gated m .dual 0 0x0F8 (fAppCtl (putBit v 4 true)))

/-- APPROVAL_EXPIRY (R379). -/
def execApprovalExpiry (r : Fin 4) (j : Fin 4) (s : State) : Host.Outcome State Fault Refusal := .next (fAppExpiry r.val j.val s)

/-- DUAL_COMMIT (R380). -/
def execDualCommit (m : Master) (v : Word) (c : CommitInput) (s : State) : Host.Outcome State Fault Refusal :=
  .next (s.gated m .dual 0 0x0FC (fCommit (putBit v 2 true) c.pairPeer c.otp))

end Sys2Proof.Machine
end

