-- ==== Sys2Proof/Machine/Boundary.lean ====
section
/-! DEFINITION. The frame boundary: table swaps, role changes, legacy mode, readmission, VFM resources, freeze strokes and the rate. -/

namespace Sys2Proof.Machine

/-- A course can take a committed swap: STS.READY with its fence bit 0 (R111, R113). -/
def State.swapReady (s : State) (c : Nat) : Bool := (s.cx c).ready && !s.pfence c 8
/-- The buffers of a named course change places, and FT_SWAP returns to 0 (R111, R140); flash holds the tables now in force (log entry
103). -/
def State.swapOne (s : State) (c : Nat) : State :=
  let s1 := ((s.updCx c fun x => { x with active := !x.active, swap := none }).setReg .cox c 0x44 0).setReg .cox c 0x844 0
  let x := s1.cx c
  s1.updFlc fun f => { f with tabs := (f.tabs.filter fun e => decide (e.1 ≠ c)) ++
    [if x.active then (c, x.ftB, x.resB) else (c, x.ftA, x.resA)] }
/-- A plan is named by an active table (R125). -/
def State.named (s : State) (cls : Nat) : Bool :=
  (List.range 16).any fun c => (s.cx c).table.any fun e => decide (e.kind = 1) && decide (e.cls = cls)
/-- Courses whose tiles hold the images of a class's plan: those with slots for it, and their spare courses (R123, R129). -/
def State.holders (s : State) (cls : Nat) : List Nat :=
  ((List.range 16).flatMap fun c =>
    if (s.cx c).table.any fun e => decide (e.kind = 1) && decide (e.cls = cls) then
      c :: ((s.cx c).table.filter fun e => decide (e.kind = 2)).map (·.scourse)
    else []).eraseDups
/-- The code image of a plan in every tile of a course, and its DATA segments (R118, R123). -/
def State.loadPlan (s : State) (c : Nat) (p : PlanFile) : State :=
  let s1 := (List.range 16).foldl (fun s t => s.putWords (codeBase c t + p.codeAt) (p.image.map TWord.int)) s
  p.data.foldl (fun s e => s.putData c e.1 e.2) s1
/-- The plans that the active tables name. -/
def State.inForce (s : State) : List PlanFile := s.plans.filter fun p => s.named p.cls
/-- The device telemetry keys in the last 16 words of the key planes of a course that holds a TELEMETRY plan (R395). -/
def State.telemKeys (s : State) (c : Nat) : State :=
  if s.inForce.any fun p => p.telemetry && (s.holders p.cls).contains c then
    (List.range 16).foldl (fun s t => s.putWords (planeBase c t + 4 * 2032) (s.words (ksPlane + 4 * 44) 16)) s
  else s
/-- Every plan of the active tables that a course holds is loaded into it, with the telemetry keys (R123, R129, R395). -/
def State.loadCourse (s : State) (c : Nat) : State :=
  ((s.inForce.filter fun p => (s.holders p.cls).contains c).foldl (fun s p => s.loadPlan c p) s).telemKeys c
/-- The tables of some courses have taken effect: the plans taken in that they name are admitted, with their VERSION as the new floor;
plans that no active table names any more, and versions replaced, leave flash and wait for the removal of their images (R124, R125).
`old` is the state before the swap. -/
def State.admitReady (s old : State) (cs : List Nat) : State :=
  let take := s.intake.filter fun p => cs.any fun c => (s.cx c).table.any fun e => decide (e.kind = 1) && decide (e.cls = p.cls)
  let gone := s.plans.filter fun p => !s.named p.cls || take.any fun q => decide (q.cls = p.cls)
  let s1 : State := { s with
    plans := (s.plans.filter fun p => !gone.contains p) ++ take
    intake := s.intake.filter fun p => !take.contains p
    planFloor := take.foldl (fun m p => Sparse.upd 0 m p.cls fun v => max v p.version) s.planFloor
    dropping := s.dropping ++ gone.map fun p => (p, old.holders p.cls) }
  let s2 := gone.foldl State.planErase s1
  (List.range 16).foldl (fun s c => if take.any fun p => (s.holders p.cls).contains c then s.loadCourse c else s) s2
/-- A committed swap takes effect at the first boundary after the commit at which every named course is ready, with the
reservation buffers (R111). -/
def State.swapAt (s : State) (c : Nat) : State :=
  match (s.cx c).swap with
  | none => s
  | some (f, cs) => if f < s.stroke / frameLen ∧ cs.all s.swapReady then (cs.foldl State.swapOne s).admitReady s cs else s

/-- A heat under a plan is in progress or awaits its re-issue. -/
def State.planBusy (s : State) (p : PlanFile) : Bool :=
  s.cox.any fun (e : Nat × Cox) => (e.2.heats.any fun h => !h.ended && p.same h.plan) || e.2.waiting.any fun w => p.same w.heat.plan
/-- The image of a removed plan leaves the code scratch of a course, but where a plan in force has its own there. -/
def State.unloadPlan (s : State) (p : PlanFile) (c : Nat) : State :=
  if s.inForce.any fun q => (s.holders q.cls).contains c && meet p.codeRange q.codeRange then s
  else (List.range 16).foldl (fun s t => s.wipe (codeBase c t + p.codeAt) (4 * p.image.length)) s
/-- Removal of plans (R125): once no heat runs under one, its images are removed and the key planes of every pair of its courses are to be
wiped, each when no heat runs on the pair; the telemetry keys come back after it (R395). -/
def State.dropPlans (s : State) : State :=
  let go := s.dropping.filter fun e => !s.planBusy e.1
  let s1 : State := go.foldl (fun s e => e.2.foldl (fun s c => s.unloadPlan e.1 c) s) { s with
    dropping := s.dropping.filter fun e => s.planBusy e.1
    planWipe := (s.planWipe ++ go.flatMap fun e => e.2.flatMap fun c => (List.range 8).map fun p => (c, p)).eraseDups }
  let ready := s1.planWipe.filter fun w => (s1.cx w.1).heats.all fun h => decide (h.pair ≠ w.2) || h.ended
  ready.foldl (fun s w => ((s.wipe (planeBase w.1 (2 * w.2)) 0x2000).wipe (planeBase w.1 (2 * w.2 + 1)) 0x2000).telemKeys w.1)
    { s1 with planWipe := s1.planWipe.filter fun w => !ready.contains w }

/-- Legacy entry (R132): the classes and serial ports that the legacy configuration names are mapped to the course's legacy queue, and
the Gaord 7 firmware starts in the pairs that COX.LEGACY enables, in free mode (log entry 28). -/
def State.legacyStart (s : State) (c : Nat) : State :=
  let s1 := s.updCx c fun x => { x with legacyMap := Config.legacyClasses c }
  ((List.range 8).filter fun p => s.regBit .cox c 0x64 p).foldl (fun s p => s.updPair c p legacyProc) s1
/-- Legacy exit (R134): commands in progress end, waiting entries are withdrawn, the course is reset and its mapping removed. -/
def State.legacyExit (s : State) (c : Nat) : State :=
  let s1 := s.legacyEnd c
  let gone := (s1.cx c).legacyQ
  let s2 := gone.foldl (fun s e => s.classVerdict c e 0x0A 0xA0 12) (s1.updCx c fun x => { x with legacyQ := [], legacyMap := [] })
  (s2.courseReset c).updCx c fun x => { x with ready := false }
/-- A committed ROLE takes effect (R132, R134, R139): entry into legacy mode waits for both buffers to be empty. -/
def State.roleAt (s : State) (c : Nat) : State :=
  let new := fld (s.reg .cox c 0x40) 0 2
  let old := (s.cx c).role
  if new = old ∨ (new = 2 ∧ !s.tablesEmpty c) then s
  else
    let s1 := (if old = 2 then s.legacyExit c else s).updCx c fun x => { x with role := new }
    if new = 2 then s1.legacyStart c else s1

/-- Readmitted pairs and courses reopen their start slots (R359). -/
def State.reopenAt (s : State) (c : Nat) : State := s.updCx c fun x => { x with reopen := [], shares := [] }
/-- A readmitted substituted engine pair takes its role back (R189, R359). -/
def State.pkeReopen (s : State) (q : Nat) : State :=
  if (s.pkeU q).reopen then
    (if s.pkeRoute q ≠ q then s.setReg .pke (q / 12) 0xBC 0 else s).updPke q fun x => { x with reopen := false }
  else s
/-- A readmitted substituted hash or cipher pair takes its role back (R214, R359). -/
def State.hcReopen (s : State) (b : Bool) (k : Nat) : State :=
  if (s.hc b k).reopen then
    (if s.hcRoute b k ≠ k then s.setReg (hcPage b) 0 0x70 0 else s).updHc b k fun x => { x with reopen := false }
  else s

/-- The next values of VFM take effect for all functions at once (R331). -/
def State.resourcesAt (s : State) : State :=
  if s.pci.commit then
    { s with pci := { s.pci with commit := false, fn := (List.range 128).foldl (fun m f =>
        Sparse.upd {} m f fun x => { x with qp := x.qpNext, share := x.shareNext, jquota := x.jquotaNext, pset := x.psetNext }) s.pci.fn } }
  else s
/-- The freeze stroke of a function (R337). -/
def State.freezeAt (s : State) (f : Nat) : State :=
  if !(s.fn f).freezing then s
  else
    let s1 := s.updFn f fun x => { x with freezing := false, st := .frozen, settled := false, ack := false, exported := false }
    let s2 := { s1 with pci := { s1.pci with qp := s1.pci.qp.map fun (e : Nat × Qp) =>
      if e.1 / 64 = f ∧ e.2.desc.isSome then (e.1, { e.2 with desc := none, reserved := e.2.reserved - 1 }) else e } }
    ((List.range 16).foldl (fun s c => s.withdrawQueue c fun e => decide (e.src = 256 + f)) s2).settle f

/-- FRAME_BOUNDARY (R105): the stroke is the first of a frame, and the changes that wait for it take effect. The divider changes
to the committed or thermal rate (R487). -/
def fBoundary (s : State) : State :=
  if !s.archOn ∨ s.stroke % frameLen ≠ 0 then s
  else
    let cs := List.range 16
    let s1 := cs.foldl State.swapAt s
    let s2 := cs.foldl State.roleAt s1
    let s3 := cs.foldl State.reopenAt s2
    let s4 := (List.range 48).foldl State.pkeReopen s3
    let s5 := (List.range 16).foldl (fun s k => (s.hcReopen false k).hcReopen true k) s4
    let s6 := s5.resourcesAt
    let s7 := (List.range 128).foldl State.freezeAt s6
    s7.updPwr fun p => { p with paddle := s7.wantPaddle }

/-! ### The rows -/

/-- FRAME_BOUNDARY (R105). -/
def execFrameBoundary (s : State) : Host.Outcome State Fault Refusal := .next (fBoundary s)

end Sys2Proof.Machine
end

