-- ==== Sys2Proof/Machine/Cards.lean ====
section
/-! DEFINITION. Contact card slots (R446-R454, R461) and the SD host (R455-R460, R462). -/

namespace Sys2Proof.Machine

/-- Milliseconds in model time units. -/
def msUnits : Nat := 1000 * usUnits
/-- Bytes put into a buffer of consecutive registers. -/
def State.putRegBytes (s : State) (b : Block) (i off : Nat) (bs : List Byte) : State := s.setRegs b i off ((toWords bs))

/-! ### Card slots -/

/-- A slot, its write and its update; its registers and buffers. -/
def State.slot (s : State) (n : Nat) : Crd := Sparse.get {} s.crd n
def State.setSlot (s : State) (n : Nat) (x : Crd) : State := { s with crd := Sparse.set {} s.crd n x }
def State.updSlot (s : State) (n : Nat) (f : Crd → Crd) : State := s.setSlot n (f (s.slot n))
def crdReg (n o : Nat) : Nat := 0x100 + 64 * n + o
def crdBuf (n o : Nat) : Nat := 0x400 + 0x300 * n + o
def State.crdCfg (s : State) (n : Nat) : Word := s.reg .crd 0 (crdReg n 0)
/-- A PSTKY bit sets, and with it STKY.SLOT (R461). -/
def State.crdSticky (s : State) (n k : Nat) : State := (s.setRegBit .crd 0 (crdReg n 0x10) k true).setSticky .crd 0 2
/-- The RX buffer discarded. -/
def State.crdRxClear (s : State) (n : Nat) : State := s.setRegs .crd 0 (crdBuf n 0x140) (List.replicate 80 0)
/-- A slot deactivated: PRESENT with the clock not stopped. -/
def Crd.off (x : Crd) : Crd := { x with st := 1, clkStop := false, ppsWait := false }
/-- Start of an activation at a class: 4 MHz, Fd and Dd (R446). -/
def Crd.start (x : Crd) (cls : Nat) (noPps : Bool) : Crd :=
  { x with st := 2, cls := cls, proto := false, clkStop := false, fidi := 0x11, div := 15, ppsWait := false, noPps := noPps, atrlen := 0 }
/-- An exchange or activation ends. -/
def Crd.finish (x : Crd) (st result : Nat) : Crd := { x with st := st, done := true, result := result, ppsWait := false }

/-! ### The ATR (R446, R447; its form is that of ISO/IEC 7816-3, log entry 110) -/

/-- A group of interface bytes: the protocol that the TD before it names, and its TA, TB, TC and TD. -/
structure AtrGroup where
  proto : Option Nat := none
  ta : Option Byte := none
  tb : Option Byte := none
  tc : Option Byte := none
  td : Option Byte := none
  deriving DecidableEq, Repr
/-- One byte where an indicator bit announces it. -/
def takeIf (b : Bool) (bs : List Byte) : Option (Option Byte × List Byte) :=
  if b then (match bs with | x :: r => some (some x, r) | [] => none) else some (none, bs)
/-- The groups from an indicator nibble on, with the bytes that follow them. -/
def atrGroups : Nat → Option Nat → Nat → List Byte → Option (List AtrGroup × List Byte)
  | 0, _, _, _ => none
  | n + 1, p, y, b0 =>
    (takeIf (y.testBit 0) b0).bind fun (ta, b1) => (takeIf (y.testBit 1) b1).bind fun (tb, b2) =>
      (takeIf (y.testBit 2) b2).bind fun (tc, b3) => (takeIf (y.testBit 3) b3).bind fun (td, b4) =>
        let g : AtrGroup := ⟨p, ta, tb, tc, td⟩
        match td with
        | some d => (atrGroups n (some (d.toNat % 16)) (d.toNat / 16) b4).map fun (gs, r) => (g :: gs, r)
        | none => some ([g], b4)
/-- The parameters a slot takes from an ATR (R446, R447). -/
structure AtrInfo where
  /-- Class indicator of the first TA after T=15: bits 0 A, 1 B, 2 C; none where absent. -/
  classes   : Option Nat
  ta1       : Option Nat
  offersT1  : Bool
  offersT0  : Bool
  /-- TA2: specific mode (R448). -/
  specific  : Option Nat
  clockStop : Bool
  guard     : Nat
  wi        : Nat
  ifsc      : Nat
  bwi       : Nat
  crc       : Bool
  deriving DecidableEq, Repr
/-- Reading of an ATR; none where its form or its TCK check is broken. T=0 is offered where it is named or where no TD names a protocol. -/
def atrRead (bs : List Byte) : Option AtrInfo :=
  match bs with
  | _ :: t0 :: r =>
    match atrGroups 32 none (t0.toNat / 16) r with
    | none => none
    | some (gs, rest) =>
      let ps := gs.filterMap (·.proto)
      let tck := ps.any (· ≠ 0)
      let g (i : Nat) : AtrGroup := gs.getD i {}
      let nat (o : Option Byte) (d : Nat) : Nat := (o.map (·.toNat)).getD d
      let t1 := ((gs.drop 2).find? fun x => decide (x.proto = some 1)).getD {}
      let after15 := (gs.find? fun x => decide (x.proto = some 15)).bind (·.ta)
      if rest.length ≠ t0.toNat % 16 + (if tck then 1 else 0) ∨ 33 < bs.length ∨ (tck ∧ (bs.drop 1).foldl (· ^^^ ·) (0 : Byte) ≠ 0) then none
      else some { classes := after15.map fun b => b.toNat % 64, ta1 := (g 0).ta.map (·.toNat), offersT1 := ps.contains 1
                  offersT0 := ps.contains 0 || (ps.filter (· ≠ 15)).isEmpty, specific := (g 1).ta.map (·.toNat)
                  clockStop := decide (64 ≤ nat after15 0), guard := nat (g 0).tc 0, wi := nat (g 1).tc 10, ifsc := nat t1.ta 32
                  bwi := nat t1.tb 0x4D, crc := decide (nat t1.tc 0 % 2 = 1) }
  | _ => none
/-- The least divider of 60 MHz that the Fi of a TA1 allows: its highest frequency is 4, 5, 6, 8, 12, 16, 20, 5, 7.5, 10, 15 or 20 MHz (the
standard's table; a reserved Fi counts as the default). -/
def fiDiv (ta1 : Nat) : Nat :=
  match ta1 / 16 with
  | 0 => 15 | 1 => 12 | 2 => 10 | 3 => 8 | 4 => 5 | 5 => 4 | 6 => 3 | 9 => 12 | 10 => 8 | 11 => 6 | 12 => 4 | 13 => 3 | _ => 12
/-- The PPS of a slot, and its form without PPS1 (R448). -/
def ppsBytes (t1 : Bool) (ta1 : Nat) : List Byte :=
  let p0 : Byte := if t1 then 0x11 else 0x10
  let p1 : Byte := BitVec.ofNat 8 ta1
  [0xFF, p0, p1, 0xFF ^^^ p0 ^^^ p1]
def ppsShort (t1 : Bool) : List Byte := if t1 then [0xFF, 0x01, 0xFE] else [0xFF, 0x00, 0xFF]

/-- CARD_INSERTION. -/
def fCardIn (n : Nat) (s : State) : State :=
  if (s.slot n).st = 0 then s.setSlot n { st := 1, change := true, done := (s.slot n).done, result := (s.slot n).result } else s
/-- CARD_REMOVAL: an activation or exchange in progress ends REMOVED (R453). -/
def fCardOut (n : Nat) (s : State) : State :=
  let x := s.slot n
  if x.st = 0 then s
  else
    let y := { x.off with st := 0, change := true }
    if x.st = 4 then (s.setSlot n { y.finish 0 2 with rxlen := 0 }).crdRxClear n
    else if x.st = 2 then s.setSlot n (y.finish 0 2)
    else s.setSlot n y
/-- A move up one class, or failure with NO_ATR (R446). -/
def State.classUp (s : State) (n : Nat) : State :=
  let x := s.slot n
  if x.cls < fld (s.crdCfg n) 0 2 then s.setSlot n (x.start (x.cls + 1) false)
  else (s.setSlot n (x.finish 5 5)).crdSticky n 0
/-- The exchange that ends an activation; for T=1 the slot sends S(IFS request) with IFSD 254 first (R448). -/
def State.cardReady (s : State) (n : Nat) : State :=
  let s1 := s.updSlot n fun x => x.finish 3 1
  if (s.slot n).proto then s1.emit (.card n [0x00, 0xC1, 0x01, 0xFE]) else s1
/-- The divider in force: the highest clock within the Fi maximum and DIV_MIN (R447). -/
def State.cardDiv (s : State) (n : Nat) : Nat := max (s.slot n).divFi (fld (s.crdCfg n) 3 6)
/-- ATR_TIMEOUT. -/
def fAtrTimeout (n : Nat) (s : State) : State := if (s.slot n).st = 2 ∧ !(s.slot n).ppsWait then s.classUp n else s
/-- ATR_RECEIVED: the class indicator, the parameters and the PPS (R446-R448). In specific mode TA2 names the protocol, and TA1's Fi and Di
unless it says that the card has its own. -/
def fAtr (n : Nat) (bs : List Byte) (s : State) : State :=
  let x := s.slot n
  if x.st ≠ 2 ∨ x.ppsWait then s
  else match atrRead bs with
    | none => s.classUp n
    | some a =>
      if (match a.classes with | some c => !c.testBit (3 - x.cls) | none => false) then s.classUp n
      else if (!a.offersT1 && !a.offersT0) || (match a.specific with | some p => decide (1 < p % 16) | none => false) then
        (s.setSlot n (x.finish 5 5)).crdSticky n 0
      else
        let t1 := match a.specific with | some p => decide (p % 16 = 1) | none => a.offersT1
        let own := match a.specific with | some p => p.testBit 4 | none => false
        let ta1 := if own then 0x11 else a.ta1.getD 0x11
        let y := { x with atrlen := bs.length, proto := t1, ta1 := ta1, canStop := a.clockStop, divFi := fiDiv (a.ta1.getD 0x11)
                          guard := a.guard, wi := a.wi, ifsc := a.ifsc, bwi := a.bwi, crc := a.crc }
        let s1 := (s.setSlot n y).putRegBytes .crd 0 (crdBuf n 0x280) (fixLen 36 bs)
        if a.specific.isSome then (s1.setSlot n { y with fidi := ta1, div := s1.cardDiv n }).cardReady n
        else if x.noPps then s1.cardReady n
        else (s1.setSlot n { y with ppsWait := true }).emit (.card n (ppsBytes t1 ta1))
/-- PPS_RESPONSE: an exact echo, an answer without PPS1, or any other, an empty one where none came in time (R448). -/
def fPps (n : Nat) (rsp : List Byte) (s : State) : State :=
  let x := s.slot n
  if x.st ≠ 2 ∨ !x.ppsWait then s
  else if rsp = ppsBytes x.proto x.ta1 then (s.setSlot n { x with fidi := x.ta1, div := s.cardDiv n }).cardReady n
  else if rsp = ppsShort x.proto then s.cardReady n
  else (s.setSlot n (x.start x.cls true)).crdSticky n 1

/-- Writes of SCMD: TXLEN is stored, then the one action. -/
def State.scmd (s : State) (n : Nat) (v : Word) : State := s.setReg .crd 0 (crdReg n 4) (v &&& 0x1FF0)
def fCardActivate (n : Nat) (v : Word) (s : State) : State :=
  let s1 := s.scmd n v
  if (s.slot n).st = 1 then s1.updSlot n fun x => x.start 1 false else s1.reject .crd 0 (crdReg n 4) v
def fCardDeactivate (n : Nat) (v : Word) (s : State) : State :=
  let s1 := s.scmd n v
  if (s.slot n).st = 0 then s1 else s1.updSlot n Crd.off
def fCardSend (n : Nat) (v : Word) (s : State) : State :=
  let s1 := s.scmd n v
  let len := fld v 4 9
  if (s.slot n).st ≠ 3 ∨ len < 4 ∨ 261 < len then s1.reject .crd 0 (crdReg n 4) v
  else
    (s1.updSlot n fun x => { x with st := 4, clkStop := false, since := s.wall, tries := 0 }).emit
      (.card n ((s.regBytes .crd 0 (crdBuf n 0) 66).take len))
/-- BUSY_MAX in model time. -/
def State.cardMax (s : State) (n : Nat) : Nat := fld (s.crdCfg n) 16 16 * msUnits
/-- CARD_EXCHANGE_DONE: at most 256 bytes and SW1 SW2, within BUSY_MAX (R449, R451). -/
def fCardDone (n : Nat) (rsp : List Byte) (s : State) : State :=
  let x := s.slot n
  if x.st ≠ 4 ∨ rsp.length < 2 ∨ 258 < rsp.length ∨ x.since + s.cardMax n < s.wall then s
  else (s.setSlot n { x.finish 3 1 with rxlen := rsp.length, since := s.wall }).putRegBytes .crd 0 (crdBuf n 0x140) rsp
/-- CARD_WAIT_TIMEOUT: under T=1 two retransmissions and one S(RESYNCH request), then PROTOCOL with deactivation; under T=0 the
exchange ends (R449, R450). -/
def fCardWait (n : Nat) (s : State) : State :=
  let x := s.slot n
  if x.st ≠ 4 then s
  else if x.proto ∧ x.tries < 3 then s.setSlot n { x with tries := x.tries + 1 }
  else (s.setSlot n ((if x.proto then x.off else x).finish (if x.proto then 1 else 3) 4)).crdSticky n 3
/-- CARD_BUSY_TIMEOUT (R451). -/
def fCardBusy (n : Nat) (s : State) : State :=
  let x := s.slot n
  if x.st = 4 ∧ x.since + s.cardMax n < s.wall then (s.setSlot n (x.off.finish 1 3)).crdSticky n 2 else s
/-- CARD_CLOCK_STOP: 1,860 cycles of 60 MHz / DIV are 31 × DIV µs (R452). -/
def fCardStop (n : Nat) (s : State) : State :=
  let x := s.slot n
  if x.st = 3 ∧ bit (s.crdCfg n) 2 ∧ x.canStop ∧ x.since + 31 * x.div * usUnits ≤ s.wall then s.setSlot n { x with clkStop := true } else s

/-! ### SD host -/

/-- Update of the SD host. -/
def State.updSdh (s : State) (f : Sdh → Sdh) : State := { s with sdh := f s.sdh }
/-- A command word that writes (R458). -/
def sdWrites (v : Word) : Bool := bit v 9 || [24, 25, 27, 28, 29, 38, 42].contains (fld v 0 6)
/-- Writes are refused: the tab or READ_ONLY (R458). -/
def State.sdProtected (s : State) : Bool := s.sdh.wp || bit (s.reg .sdh 0 0x40) 1
/-- A transfer of n bytes stays in the general part of SRAM, outside the code area once XLOCK is set (R457). -/
def State.sdDmaOk (s : State) (a n : Nat) : Bool :=
  decide (a % 4 = 0) && decide (0x01000000 ≤ a) && decide (a + n ≤ 0x011F0000) &&
    !(bit (s.reg .kst 0 0x008) 2 && decide (a < 0x01000000 + (s.reg .kst 0 0x40).toNat))
/-- A command starts on the bus. -/
def State.sdStart (s : State) (v arg : Word) (rewrite : Bool) : State :=
  ((s.setReg .sdh 0 0x64 0).updSdh fun x => { x with
    busy := true, cmd := v, rewrite := rewrite
    mode := if fld (s.reg .sdh 0 0x40) 4 3 ≤ 1 || x.v18 then fld (s.reg .sdh 0 0x40) 4 3 else x.mode }).emit (.sdCommand v arg)
/-- SD_COMMAND_GO, with its refusals (R457-R459). -/
def fSdGo (v : Word) (s : State) : State :=
  let s1 := s.setReg .sdh 0 0x48 (v &&& 0x7FF)
  let x := s.sdh
  let n := 512 * fld (s.reg .sdh 0 0x4C) 0 16
  if x.busy || !x.present || (bit v 8 && !s.sdDmaOk (s.reg .sdh 0 0x50).toNat n) then s1.reject .sdh 0 0x48 v
  else if sdWrites v && s.sdProtected then (s1.reject .sdh 0 0x48 v).setSticky .sdh 0 6
  else if sdWrites v && x.retain then s1.reject .sdh 0 0x48 v
  else s1.sdStart (v &&& 0x7FF) (s.reg .sdh 0 0x44) false
/-- The end of a command. -/
def State.sdEnd (s : State) : State := s.updSdh fun x => { x with busy := false, done := true, rewrite := false }
/-- SD_COMMAND_DONE. The card is initialised when ACMD41 answers with its busy bit 1. -/
def fSdDone (e : SdEnd) (s : State) : State :=
  let x := s.sdh
  if !x.busy then s
  else match e with
    | .crcError => s.sdEnd.setSticky .sdh 0 2
    | .ok resp blocks data =>
      let r := resp.take (if fld x.cmd 6 2 = 0 then 0 else if fld x.cmd 6 2 = 3 then 4 else 1)
      let s1 := (s.setRegs .sdh 0 0x54 r).setReg .sdh 0 0x64 (w32 (blocks % 65536))
      let n := 512 * min blocks (fld (s.reg .sdh 0 0x4C) 0 16)
      let s2 := if bit x.cmd 8 && !sdWrites x.cmd then s1.putInts (s.reg .sdh 0 0x50).toNat (fixLen n data) else s1
      let s3 := s2.updSdh fun y => { y with
        inited := y.inited || (bit x.cmd 10 && decide (fld x.cmd 0 6 = 41) && bit (r.getD 0 0) 31)
        retain := y.retain && !x.rewrite, kept := if x.rewrite then [] else y.kept }
      s3.sdEnd
/-- SD_COMMAND_TIMEOUT. -/
def fSdTimeout (s : State) : State := if s.sdh.busy then s.sdEnd.setSticky .sdh 0 3 else s
/-- SWITCH.VSWITCH and SWITCH.TUNE with the result of the check (R456). -/
def fSdVswitch (ok : Bool) (s : State) : State := if ok then s.updSdh fun x => { x with v18 := true } else s.setSticky .sdh 0 7
def fSdTune (ok : Bool) (s : State) : State := if ok then s else s.setSticky .sdh 0 8
/-- SD_REWRITE: the kept block goes out with CMD24; RETAIN clears when it has been written (R459). -/
def fSdRewrite (v : Word) (s : State) : State :=
  let x := s.sdh
  if !x.retain then s
  else if !x.inited || !x.present || x.busy then s.reject .sdh 0 0x6C v
  else if s.sdProtected then (s.reject .sdh 0 0x6C v).setSticky .sdh 0 6
  else s.sdStart 0x358 (s.reg .sdh 0 0x68) true
/-- SD_DISCARD. -/
def fSdDiscard (v : Word) (s : State) : State :=
  let x := s.sdh
  if !x.retain then s
  else if !x.inited || !x.present || x.busy then s.reject .sdh 0 0x6C v
  else s.updSdh fun y => { y with retain := false, kept := [] }
/-- SD_CARD_REMOVAL (R459). -/
def fSdOut (w : SdRemoval) (s : State) : State :=
  let x := s.sdh
  let writing := x.busy && sdWrites x.cmd
  let count (s : State) (n : Nat) : State := if x.busy then s.setReg .sdh 0 0x64 (w32 (n % 65536)) else s
  let gone : State := s.updSdh fun y => { y with
    present := false, v18 := false, mode := 0, inited := false, change := true, busy := false, rewrite := false, done := y.done || x.busy }
  if !x.present then s
  else match w with
    | .idleOrRead n => if writing then s else (count gone n).setSticky .sdh 0 4
    | .dataPhase n => if writing then (count gone n).setSticky .sdh 0 4 else s
    | .busyPhase n blk bs =>
      if writing then
        (((count gone n).setReg .sdh 0 0x68 (w32 blk)).updSdh fun y => { y with retain := true, kept := fixLen 512 bs }).setSticky .sdh 0 5
      else s
/-- SD_CARD_INSERTION. -/
def fSdIn (wp : Bool) (s : State) : State :=
  if s.sdh.present then s else s.updSdh fun x => { x with present := true, wp := wp, change := true }

/-! ### The rows -/

/-- CARD_INSERTION (R453). -/
def execCardInsertion (n : Fin 4) (s : State) : Host.Outcome State Fault Refusal := .next (fCardIn n.val s)

/-- CARD_REMOVAL (R453). -/
def execCardRemoval (n : Fin 4) (s : State) : Host.Outcome State Fault Refusal := .next (fCardOut n.val s)

/-- CARD_ACTIVATE (R446). -/
def execCardActivate (m : Master) (n : Fin 4) (v : Word) (s : State) : Host.Outcome State Fault Refusal := .next (s.gated m .crd 0 (crdReg n.val 4) (fCardActivate n.val v))

/-- CARD_DEACTIVATE (R461). -/
def execCardDeactivate (m : Master) (n : Fin 4) (v : Word) (s : State) : Host.Outcome State Fault Refusal := .next (s.gated m .crd 0 (crdReg n.val 4) (fCardDeactivate n.val v))

/-- ATR_TIMEOUT (R446). -/
def execAtrTimeout (n : Fin 4) (s : State) : Host.Outcome State Fault Refusal := .next (fAtrTimeout n.val s)

/-- ATR_RECEIVED (R447). -/
def execAtrReceived (n : Fin 4) (atr : List Byte) (s : State) : Host.Outcome State Fault Refusal := .next (fAtr n.val atr s)

/-- PPS_RESPONSE (R448). -/
def execPpsResponse (n : Fin 4) (rsp : List Byte) (s : State) : Host.Outcome State Fault Refusal := .next (fPps n.val rsp s)

/-- CARD_SEND (R449). -/
def execCardSend (m : Master) (n : Fin 4) (v : Word) (s : State) : Host.Outcome State Fault Refusal := .next (s.gated m .crd 0 (crdReg n.val 4) (fCardSend n.val v))

/-- CARD_EXCHANGE_DONE (R449). -/
def execCardExchangeDone (n : Fin 4) (rsp : List Byte) (s : State) : Host.Outcome State Fault Refusal := .next (fCardDone n.val rsp s)

/-- CARD_WAIT_TIMEOUT (R450). -/
def execCardWaitTimeout (n : Fin 4) (s : State) : Host.Outcome State Fault Refusal := .next (fCardWait n.val s)

/-- CARD_BUSY_TIMEOUT (R451). -/
def execCardBusyTimeout (n : Fin 4) (s : State) : Host.Outcome State Fault Refusal := .next (fCardBusy n.val s)

/-- CARD_CLOCK_STOP (R452). -/
def execCardClockStop (n : Fin 4) (s : State) : Host.Outcome State Fault Refusal := .next (fCardStop n.val s)

/-- SD_COMMAND_GO (R457). -/
def execSdCommandGo (m : Master) (v : Word) (s : State) : Host.Outcome State Fault Refusal := .next (s.gated m .sdh 0 0x048 (fSdGo v))

/-- SD_COMMAND_DONE (R457). -/
def execSdCommandDone (e : SdEnd) (s : State) : Host.Outcome State Fault Refusal := .next (fSdDone e s)

/-- SD_COMMAND_TIMEOUT (R457). -/
def execSdCommandTimeout (s : State) : Host.Outcome State Fault Refusal := .next (fSdTimeout s)

/-- SD_VOLTAGE_SWITCH (R456). -/
def execSdVoltageSwitch (m : Master) (_v : Word) (ok : Bool) (s : State) : Host.Outcome State Fault Refusal := .next (s.gated m .sdh 0 0x070 (fSdVswitch ok))

/-- SD_TUNE (R456). -/
def execSdTune (m : Master) (_v : Word) (ok : Bool) (s : State) : Host.Outcome State Fault Refusal := .next (s.gated m .sdh 0 0x070 (fSdTune ok))

/-- SD_REWRITE (R459). -/
def execSdRewrite (m : Master) (v : Word) (s : State) : Host.Outcome State Fault Refusal := .next (s.gated m .sdh 0 0x06C (fSdRewrite v))

/-- SD_DISCARD (R459). -/
def execSdDiscard (m : Master) (v : Word) (s : State) : Host.Outcome State Fault Refusal := .next (s.gated m .sdh 0 0x06C (fSdDiscard v))

/-- SD_CARD_REMOVAL (R459). -/
def execSdCardRemoval (w : SdRemoval) (s : State) : Host.Outcome State Fault Refusal := .next (fSdOut w s)

/-- SD_CARD_INSERTION (R459). -/
def execSdCardInsertion (wp : Bool) (s : State) : Host.Outcome State Fault Refusal := .next (fSdIn wp s)

end Sys2Proof.Machine
end

