-- ==== Sys2Proof/Machine/Nfc.lean ====
section
/-! DEFINITION. Contactless reader (R463-R466) and tag island (R467-R478). -/

namespace Sys2Proof.Machine

/-- Update of the contactless record. -/
def State.updNfc (s : State) (f : Nfc → Nfc) : State := { s with nfc := f s.nfc }

/-! ### Reader (R463-R466) -/

def State.nfcEn (s : State) : Bool := bit (s.reg .nfc 0 0x40) 0
/-- The 5 ms sample before a poll or an activation: an external field, or one that has not been absent for 100 ms, stops it
(R463). -/
def State.nfcSample (s : State) (field : Bool) : State × Bool :=
  if field then ((s.updNfc fun x => { x with ext := true, extAt := some s.wall, rfOn := false }).setSticky .nfc 0 2, false)
  else
    let s1 := s.updNfc fun x => { x with ext := false }
    match s.nfc.extAt with
    | some t => if t + 100 * msUnits ≤ s.wall then (s1.updNfc fun x => { x with extAt := none }, true) else (s1, false)
    | none => (s1, true)
/-- NFC_POLL with the number of badges that answer; the field is off again after the poll (R464). -/
def fNfcPoll (field : Bool) (badges : Nat) (s : State) : State :=
  let x := s.nfc
  let period := fld (s.reg .nfc 0 0x40) 8 8 * 10 * msUnits
  let n := if bit (s.reg .nfc 0 0x40) 1 || bit (s.reg .nfc 0 0x40) 2 then badges else 0
  if !s.nfcEn || !(decide (x.st ≤ 1) || decide (x.st = 5)) || decide (s.wall < x.pollAt + period) then s
  else
    let (s1, go) := s.nfcSample field
    if go then
      s1.updNfc fun y => { y with st := 1, pollAt := s.wall, badges := n, rfOn := false, change := y.change || decide ((n = 0) ≠ (x.badges = 0)) }
    else s1.updNfc fun y => { y with st := 1, pollAt := s.wall, rfOn := false }
/-- TXLEN of a write of RCMD. -/
def State.rcmd (s : State) (v : Word) : State := s.setReg .nfc 0 0x44 (v &&& 0x1FF0)
/-- The field goes off and the badge is no longer active. -/
def Nfc.off (x : Nfc) (st : Nat) : Nfc := { x with st := st, rfOn := false }
/-- NFC_ACTIVATE: refused where no badge answered the last poll; several badges end it with PROTOCOL (R463, R464, R466). -/
def fNfcActivate (v : Word) (field : Bool) (b : BadgeInfo) (s : State) : State :=
  let s1 := s.rcmd v
  if !s.nfcEn ∨ s.nfc.st ≠ 1 ∨ s.nfc.badges = 0 then s1.reject .nfc 0 0x44 v
  else
    let (s2, go) := s1.nfcSample field
    if !go then s2
    else if s.nfc.badges ≠ 1 then (s2.updNfc fun x => { x.off 5 with done := true, result := 4, badges := 0 }).setSticky .nfc 0 3
    else
      (s2.updNfc fun x => { x with st := 3, typ := b.typeB, rate := min (b.rate % 4) (fld (s.reg .nfc 0 0x40) 3 2), done := true, result := 1
                                   rfOn := true }).putRegBytes .nfc 0 0x4C (fixLen 12 b.uid)
/-- NFC_DEACTIVATE. -/
def fNfcDeactivate (v : Word) (s : State) : State :=
  let s1 := s.rcmd v
  if 2 ≤ s.nfc.st then s1.updNfc fun x => x.off 0 else s1
/-- NFC_SEND. -/
def fNfcSend (v : Word) (s : State) : State :=
  let s1 := s.rcmd v
  let len := fld v 4 9
  if s.nfc.st ≠ 3 ∨ len < 4 ∨ 261 < len then s1.reject .nfc 0 0x44 v
  else (s1.updNfc fun x => { x with st := 4, since := s.wall }).emit (.badge ((s.regBytes .nfc 0 0x400 66).take len))
def State.nfcMax (s : State) : Nat := fld (s.reg .nfc 0 0x40) 16 16 * msUnits
/-- NFC_EXCHANGE_DONE. -/
def fNfcDone (rsp : List Byte) (s : State) : State :=
  let x := s.nfc
  if x.st ≠ 4 ∨ rsp.length < 2 ∨ 258 < rsp.length ∨ x.since + s.nfcMax < s.wall then s
  else (s.updNfc fun y => { y with st := 3, done := true, result := 1, rxlen := rsp.length }).putRegBytes .nfc 0 0x540 rsp
/-- BADGE_REMOVED: an exchange ends REMOVED with its RX content discarded (R466). -/
def fBadgeOut (s : State) : State :=
  let x := s.nfc
  if x.st = 4 then
    ((s.updNfc fun y => { y.off 0 with done := true, result := 2, rxlen := 0, change := true, badges := 0 }).setRegs .nfc 0 0x540
      (List.replicate 80 0)).setSticky .nfc 0 5
  else if x.st = 3 then s.updNfc fun y => { y.off 0 with change := true, badges := 0 }
  else s
/-- NFC_BUSY_TIMEOUT (R451, R466). -/
def fNfcBusy (s : State) : State :=
  if s.nfc.st = 4 ∧ s.nfc.since + s.nfcMax < s.wall then (s.updNfc fun y => { y.off 0 with done := true, result := 3 }).setSticky .nfc 0 4 else s

/-! ### Island memory and records (R470, R471, R474) -/

/-- The island's UID. -/
def State.tagUid (s : State) : Nat := 0xE04B000000000000 + s.lcs.uid % 2 ^ 48
def Nfc.byte (x : Nfc) (o : Nat) : Byte := Sparse.get 0 x.mem o
def Nfc.put (x : Nfc) (o : Nat) (bs : List Byte) : Nfc :=
  { x with mem := (List.range bs.length).foldl (fun m i => Sparse.set 0 m (o + i) (bs.getD i 0)) x.mem }
/-- A flag with 4 or more bits at 1 selects copy B. -/
def Nfc.copyB (x : Nfc) (n : Nat) : Bool := decide (4 ≤ ((List.range 8).filter fun k => (x.byte (0x1E00 + n)).getLsbD k).length)
def Nfc.copyAt (n : Nat) (b : Bool) : Nat := 64 * n + (if b then 32 else 0)
/-- The 32 bytes of a record. -/
def Nfc.record (x : Nfc) (n : Nat) : List Byte := (List.range 32).map fun i => x.byte (Nfc.copyAt n (x.copyB n) + i)
/-- The flag's canonical value. -/
def flagByte (b : Bool) : Byte := if b then 0xFF else 0
/-- A complete record write: the shadow, then the flag; WIP is 0xFF before and after. -/
def Nfc.write (x : Nfc) (n : Nat) (bs : List Byte) : Nfc :=
  { (x.put (Nfc.copyAt n (!x.copyB n)) (fixLen 32 bs)).put (0x1E00 + n) [flagByte (!x.copyB n)] with wip := 0xFF }
/-- A record write cut by a field collapse (R475); `junk` is what a shadow cut in its write holds. -/
def Nfc.torn_ (x : Nfc) (n : Nat) (bs junk : List Byte) : TearPoint → Nfc
  | .beforeShadow => { x.put (Nfc.copyAt n (!x.copyB n)) junk with wip := n }
  | .beforeFlag => { x.put (Nfc.copyAt n (!x.copyB n)) (fixLen 32 bs) with wip := n }
  | .duringFlag new =>
    { (x.put (Nfc.copyAt n (!x.copyB n)) (fixLen 32 bs)).put (0x1E00 + n) [flagByte (if new then !x.copyB n else x.copyB n)] with wip := n }
  | .afterFlag => { (x.put (Nfc.copyAt n (!x.copyB n)) (fixLen 32 bs)).put (0x1E00 + n) [flagByte (!x.copyB n)] with wip := n }
/-- The repair at power-up (R474). -/
def Nfc.repair (x : Nfc) : Nfc :=
  if x.wip < 120 then
    { (x.put (0x1E00 + x.wip) [flagByte (x.copyB x.wip)]).put (Nfc.copyAt x.wip (!x.copyB x.wip)) (zeros 32) with wip := 0xFF, torn := x.torn + 1 }
  else x

/-! ### Access, passwords and addressing (R467-R469, R472) -/

def Nfc.failOf (x : Nfc) (k : Nat) : Nat := Sparse.get 0 x.fail k
/-- Password a read of a record needs. -/
def readPw (n : Nat) : Option Nat := if n < 2 then none else if 34 ≤ n ∧ n ≤ 41 then some 2 else some 0
/-- Error of an access that needs a password, 0 for none. -/
def Nfc.needs (x : Nfc) : Option Nat → Nat
  | none => 0
  | some k => if 8 ≤ x.failOf k then 0xA2 else if x.inForce = some k then 0 else 0xA1
def Nfc.readErr (x : Nfc) (n : Nat) : Nat := if 120 ≤ n then 0x10 else x.needs (readPw n)
def Nfc.writeErr (x : Nfc) (n : Nat) : Nat :=
  if 120 ≤ n then 0x10 else if n < 34 then 0x12 else x.needs (some (if n ≤ 41 then 2 else 1))

/-- The island listens: the reader's field is off, or the reader is not enabled (R463). -/
def State.tagListens (s : State) : Bool := !s.nfc.rfOn || !s.nfcEn
/-- The island takes a request: addressed by its UID, selected, or non-addressed outside QUIET. -/
def State.tagTakes (s : State) : TagAddr → Bool
  | .addressed u => decide (u = s.tagUid)
  | .selected => s.nfc.selected
  | .nonAddressed => s.nfc.quiet.isNone
/-- A request of the air interface: the field is there, and the request is taken or passes. `starts` tells whether an answer starts
the quiet timer where the request was addressed or selected; an answered addressed one restarts a running timer (R469). -/
def State.tagReq (s : State) (a : TagAddr) (starts : Bool) (act : State → State) : State :=
  if !s.tagListens then s
  else
    let s1 := s.updNfc fun x => { x with field := true }
    if !s1.tagTakes a then s1
    else
      let timer := match a with
        | .addressed _ => starts || s1.nfc.quiet.isSome
        | .selected => starts
        | .nonAddressed => false
      let s2 := act s1
      if timer then s2.updNfc fun x => { x with quiet := some s.wall } else s2
def State.tagAnswer (s : State) (err : Nat) (bs : List Byte) : State := s.emit (.tagAnswer err bs)
/-- The island enters READY: a presented password lapses. -/
def Nfc.ready (x : Nfc) : Nfc := { x with selected := false, inForce := none }

/-! ### Air commands (R467-R475) -/

/-- INVENTORY from the high end of the UID (R470). -/
def fInventory (slots16 : Bool) (len mask : Nat) (s : State) : State :=
  if !s.tagListens then s
  else
    let s1 := s.updNfc fun x => { x with field := true }
    let u := s.tagUid
    if s1.nfc.quiet.isSome ∨ 64 < len ∨ (slots16 ∧ 60 < len) ∨ mask ≠ u / 2 ^ (64 - len) then s1
    else s1.tagAnswer 0 (leBytes 1 (if slots16 then u / 2 ^ (60 - len) % 16 else 0) ++ [0] ++ leBytes 8 u)
/-- STAY QUIET, addressed only, without an answer. -/
def fStayQuiet (a : TagAddr) (s : State) : State :=
  match a with
  | .addressed _ => s.tagReq a true fun t => t.updNfc fun x => { x with selected := false }
  | _ => if s.tagListens then s.updNfc fun x => { x with field := true } else s
def fTagRead (a : TagAddr) (n : Nat) (s : State) : State :=
  s.tagReq a true fun t => if t.nfc.readErr n = 0 then t.tagAnswer 0 (t.nfc.record n) else t.tagAnswer (t.nfc.readErr n) []
def fTagWrite (a : TagAddr) (n : Nat) (bs : List Byte) (s : State) : State :=
  s.tagReq a true fun t => if t.nfc.writeErr n = 0 then (t.updNfc fun x => x.write n bs).tagAnswer 0 [] else t.tagAnswer (t.nfc.writeErr n) []
/-- READ MULTIPLE BLOCKS: blocks up to the first refused one, whose error ends the answer. A ninth block is refused as not available. -/
def fTagReads (a : TagAddr) (first count : Nat) (s : State) : State :=
  s.tagReq a true fun t =>
    let err (k : Nat) : Nat := if 8 ≤ k then 0x10 else t.nfc.readErr (first + k)
    match (List.range count).find? fun k => decide (err k ≠ 0) with
    | some k => t.tagAnswer (err k) ((List.range k).flatMap fun j => t.nfc.record (first + j))
    | none => t.tagAnswer 0 ((List.range count).flatMap fun j => t.nfc.record (first + j))
/-- SELECT: another UID deselects. -/
def fTagSelect (u : Nat) (s : State) : State :=
  if u = s.tagUid then s.tagReq (.addressed u) false fun t => (t.updNfc fun x => { x with selected := true }).tagAnswer 0 []
  else if s.tagListens then s.updNfc fun x => if x.selected then { x.ready with field := true } else { x with field := true }
  else s
/-- RESET TO READY; an addressed one ends the quiet timer. -/
def fTagReset (a : TagAddr) (s : State) : State :=
  let t := s.tagReq a false fun t => (t.updNfc Nfc.ready).tagAnswer 0 []
  match a with
  | .addressed u => if s.tagListens ∧ u = s.tagUid then t.updNfc fun x => { x with quiet := none } else t
  | _ => t
/-- GET SYSTEM INFORMATION in the ISO layout: flags, UID, DSFID, AFI, blocks - 1, block size - 1, IC reference. -/
def fTagInfo (a : TagAddr) (s : State) : State :=
  s.tagReq a false fun t => t.tagAnswer 0 ([0x0F] ++ leBytes 8 t.tagUid ++ [0, 0, 119, 31, 9])
def fTagRandom (a : TagAddr) (s : State) : State :=
  s.tagReq a false fun t =>
    let r : BitVec 16 := t.freeW.truncate 16
    ((t.updNfc fun x => { x with random := some r }).tagAnswer 0 (leBytes 2 r.toNat)).draw
/-- PRESENT PASSWORD: the failure counter rises before the comparison with the value XOR (R ‖ R) (R472). -/
def fTagPassword (a : TagAddr) (k : Nat) (masked : Word) (s : State) : State :=
  s.tagReq a true fun t =>
    let t1 := t.updNfc fun x => { x with inForce := none }
    if 3 ≤ k then t1.tagAnswer 0x01 []
    else if 8 ≤ t.nfc.failOf k then t1.tagAnswer 0xA2 []
    else match t.nfc.random with
      | none => t1.tagAnswer 0xA3 []
      | some r =>
        let t2 := t1.updNfc fun x => { x with fail := Sparse.upd 0 x.fail k (· + 1), random := none }
        let t3 := if 8 ≤ t2.nfc.failOf k then t2.setSticky .nfc 0 6 else t2
        if masked = Sparse.get 0 t.nfc.pw k ^^^ (r ++ r) then (t3.updNfc fun x => { x with inForce := some k }).tagAnswer 0 []
        else t3.tagAnswer 0xA1 []
def fTagStatus (a : TagAddr) (s : State) : State :=
  s.tagReq a false fun t => t.tagAnswer 0 ((List.range 3).map fun k => BitVec.ofNat 8 (t.nfc.failOf k))
def fTagUnknown (a : TagAddr) (s : State) : State := s.tagReq a false fun t => t.tagAnswer 0x01 []
/-- QUIET_TIMER_EXPIRY: no earlier than QTIME less 40 % (R469). -/
def fQuietEnd (s : State) : State :=
  match s.nfc.quiet with
  | some t =>
    if t + s.nfc.qtime * 600 * msUnits ≤ s.wall then s.updNfc fun x => if x.selected then { x with quiet := none } else { x.ready with quiet := none }
    else s
  | none => s
/-- TAG_FIELD_LOSS: a write in progress stands as R475 states, without a reply. -/
def fFieldLoss (tear : Option TornWrite) (s : State) : State :=
  let s1 := match tear with
    | some w =>
      if s.tagListens ∧ s.nfc.writeErr w.record = 0 then (s.updNfc fun x => x.torn_ w.record w.data (s.freeBs 32) w.point).draw else s
    | none => s
  s1.updNfc fun x => { x.ready with field := false, random := none }
/-- STKY.TORN reports the torn count once the page is powered. -/
def State.tornReport (s : State) : State :=
  if s.nfc.torn = 0 ∨ !s.aon.mainPower then s else (s.updNfc fun x => { x with torn := 0 }).setSticky .nfc 0 7
/-- ISLAND_POWER_UP (R474). -/
def fIslandUp (s : State) : State := (s.updNfc Nfc.repair).tornReport

/-! ### Keystone side (R473, R476-R478) -/

/-- TREC_CTL.READ, .COMMIT and .ACK. -/
def State.trecRead (s : State) : State :=
  (s.putRegBytes .nfc 0 0x68 (s.nfc.record (fld (s.reg .nfc 0 0x60) 0 7))).updNfc fun x => { x with trecDone := true }
def State.trecCommit (s : State) : State :=
  s.updNfc fun x => { x.write (fld (s.reg .nfc 0 0x60) 0 7) (s.regBytes .nfc 0 0x68 8) with trecDone := true }
/-- A write of TREC_CTL: DONE clears by a 1 unless an operation ends with the same write. -/
def fTrec (v : Word) (s : State) : State :=
  let s1 := if bit v 3 then s.updNfc fun x => { x with trecDone := false } else s
  let s2 := if bit v 4 then s1.updNfc fun x => { x with contact := false } else s1
  let s3 := if bit v 1 then s2.trecCommit else s2
  if bit v 0 then s3.trecRead else s3
/-- The statement of a password grant (R473): action 1 set, 2 reset count. -/
def State.pwDigest (s : State) (k action : Nat) : List Byte :=
  sha384 (leBytes 4 0x4E465057 ++ leBytes 4 s.lcs.uid ++ leBytes 1 k ++ leBytes 1 action ++ zeros 6)
/-- PASSWORD_SET: the grant's request was opened while PW_VAL held the value. -/
def fPwSet (v : Word) (s : State) : State :=
  let k := fld (s.reg .nfc 0 0x88) 0 2
  let val := s.reg .nfc 0 0x8C
  if s.dual.req.any fun (e : Nat × Req) => e.2.granted && decide (e.2.kind = 2) && decide (e.2.digest = s.pwDigest k 1) && decide (e.2.pwVal = val) then
    s.updNfc fun x => { x with pw := Sparse.set 0 x.pw k val }
  else s.reject .nfc 0 0x90 v
/-- PASSWORD_RESET_COUNT. -/
def fPwReset (v : Word) (s : State) : State :=
  let k := fld (s.reg .nfc 0 0x88) 0 2
  if s.grantFor (s.pwDigest k 2) then s.updNfc fun x => { x with fail := Sparse.set 0 x.fail k 0 } else s.reject .nfc 0 0x90 v

/-- Records 1 to 33 rewritten in ascending order (R471, R476). -/
def State.tagMirror (s : State) : State :=
  let next := s.tmp.next
  let r1 := leBytes 8 s.lcs.uid ++ leBytes 1 s.lcState ++ [if s.aon.lock then 1 else 0] ++ zeros 2 ++ leBytes 4 next ++ leBytes 8 s.rtcNow ++ zeros 8
  s.updNfc fun x => (List.range 32).foldl (fun y k =>
    let j := next + k / 2
    let e := if j < 16 then zeros 64 else s.elgSlot (j - 16)
    y.write (2 + k) ((e.drop (32 * (k % 2))).take 32)) (x.write 1 r1)
/-- LOG_ENTRY_PROGRAMMED: the entry, and the mirror that firmware rewrites after it, within 100 ms, here at once (R430, R476). -/
def fLogAppended (ok : Bool) (s : State) : State :=
  let t := fLogDone ok s
  if t.tmp.next ≠ s.tmp.next ∧ t.kst.stage = 1 then t.tagMirror else t
/-- One mailbox record, if pending (R477). -/
def State.mailRecord (s : State) (n : Nat) : State :=
  let r := s.nfc.record n
  let code := (r.getD 0 0).toNat
  if r.getD 1 0 ≠ 1 then s
  else
    let st : Byte := if code = 1 ∨ code = 2 ∨ code = 3 then 2 else 3
    let r1 := r.take 1 ++ [st] ++ r.drop 2
    let s1 := s.updNfc fun x => x.write n r1
    let data := if code = 2 then (r.drop 4).take 24 else r1.take 24
    let s2 := if s1.elgFull then s1.setSticky .elg 0 2 else s1.logFirm 0x0C 0 data
    if code = 1 then s2.tagMirror else if code = 3 then s2.updNfc fun x => { x with contact := true } else s2
/-- The mailbox at a power-up (R477). -/
def State.mailbox (s : State) : State := (List.range 8).foldl (fun s k => s.mailRecord (34 + k)) s

/-! ### The rows -/

/-- LOG_ENTRY_PROGRAMMED (R430). -/
def execLogEntryProgrammed (ok : Bool) (s : State) : Host.Outcome State Fault Refusal := .next (fLogAppended ok s)

/-- NFC_POLL (R464). -/
def execNfcPoll (extField : Bool) (badges : Nat) (s : State) : Host.Outcome State Fault Refusal := .next (fNfcPoll extField badges s)

/-- NFC_ACTIVATE (R464). -/
def execNfcActivate (m : Master) (v : Word) (extField : Bool) (badge : BadgeInfo) (s : State) : Host.Outcome State Fault Refusal := .next (s.gated m .nfc 0 0x044 (fNfcActivate v extField badge))

/-- NFC_DEACTIVATE (R478). -/
def execNfcDeactivate (m : Master) (v : Word) (s : State) : Host.Outcome State Fault Refusal := .next (s.gated m .nfc 0 0x044 (fNfcDeactivate v))

/-- NFC_SEND (R466). -/
def execNfcSend (m : Master) (v : Word) (s : State) : Host.Outcome State Fault Refusal := .next (s.gated m .nfc 0 0x044 (fNfcSend v))

/-- NFC_EXCHANGE_DONE (R466). -/
def execNfcExchangeDone (rsp : List Byte) (s : State) : Host.Outcome State Fault Refusal := .next (fNfcDone rsp s)

/-- BADGE_REMOVED (R466). -/
def execBadgeRemoved (s : State) : Host.Outcome State Fault Refusal := .next (fBadgeOut s)

/-- NFC_BUSY_TIMEOUT (R466). -/
def execNfcBusyTimeout (s : State) : Host.Outcome State Fault Refusal := .next (fNfcBusy s)

/-- INVENTORY (R470). -/
def execInventory (slots16 : Bool) (maskLen : Nat) (mask : Nat) (s : State) : Host.Outcome State Fault Refusal := .next (fInventory slots16 maskLen mask s)

/-- STAY_QUIET (R469). -/
def execStayQuiet (a : TagAddr) (s : State) : Host.Outcome State Fault Refusal := .next (fStayQuiet a s)

/-- READ_SINGLE_BLOCK (R472). -/
def execReadSingleBlock (a : TagAddr) (n : Nat) (s : State) : Host.Outcome State Fault Refusal := .next (fTagRead a n s)

/-- WRITE_SINGLE_BLOCK (R474). -/
def execWriteSingleBlock (a : TagAddr) (n : Nat) (data : List Byte) (s : State) : Host.Outcome State Fault Refusal := .next (fTagWrite a n data s)

/-- READ_MULTIPLE_BLOCKS (R468). -/
def execReadMultipleBlocks (a : TagAddr) (first : Nat) (count : Nat) (s : State) : Host.Outcome State Fault Refusal := .next (fTagReads a first count s)

/-- SELECT (R469). -/
def execSelect (uid : Nat) (s : State) : Host.Outcome State Fault Refusal := .next (fTagSelect uid s)

/-- RESET_TO_READY (R469). -/
def execResetToReady (a : TagAddr) (s : State) : Host.Outcome State Fault Refusal := .next (fTagReset a s)

/-- GET_SYSTEM_INFORMATION (R468). -/
def execGetSystemInformation (a : TagAddr) (s : State) : Host.Outcome State Fault Refusal := .next (fTagInfo a s)

/-- GET_RANDOM (R468). -/
def execGetRandom (a : TagAddr) (s : State) : Host.Outcome State Fault Refusal := .next (fTagRandom a s)

/-- PRESENT_PASSWORD (R472). -/
def execPresentPassword (a : TagAddr) (pw : Nat) (masked : Word) (s : State) : Host.Outcome State Fault Refusal := .next (fTagPassword a pw masked s)

/-- GET_PASSWORD_STATUS (R468). -/
def execGetPasswordStatus (a : TagAddr) (s : State) : Host.Outcome State Fault Refusal := .next (fTagStatus a s)

/-- TAG_UNKNOWN_COMMAND (R468). -/
def execTagUnknownCommand (a : TagAddr) (_code : Nat) (s : State) : Host.Outcome State Fault Refusal := .next (fTagUnknown a s)

/-- QUIET_TIMER_EXPIRY (R469). -/
def execQuietTimerExpiry (s : State) : Host.Outcome State Fault Refusal := .next (fQuietEnd s)

/-- TAG_FIELD_LOSS (R475). -/
def execTagFieldLoss (tear : Option TornWrite) (s : State) : Host.Outcome State Fault Refusal := .next (fFieldLoss tear s)

/-- ISLAND_POWER_UP (R474). -/
def execIslandPowerUp (s : State) : Host.Outcome State Fault Refusal := .next (fIslandUp s)

/-- TREC_READ (R478). -/
def execTrecRead (m : Master) (v : Word) (s : State) : Host.Outcome State Fault Refusal := .next (s.gated m .nfc 0 0x064 (fTrec (putBit v 0 true)))

/-- TREC_COMMIT (R474). -/
def execTrecCommit (m : Master) (v : Word) (s : State) : Host.Outcome State Fault Refusal := .next (s.gated m .nfc 0 0x064 (fTrec (putBit v 1 true)))

/-- TREC_ACK (R477). -/
def execTrecAck (m : Master) (v : Word) (s : State) : Host.Outcome State Fault Refusal := .next (s.gated m .nfc 0 0x064 (fTrec (putBit v 4 true)))

/-- PASSWORD_SET (R473). -/
def execPasswordSet (m : Master) (v : Word) (s : State) : Host.Outcome State Fault Refusal := .next (s.gated m .nfc 0 0x090 (fPwSet v))

/-- PASSWORD_RESET_COUNT (R473). -/
def execPasswordResetCount (m : Master) (v : Word) (s : State) : Host.Outcome State Fault Refusal := .next (s.gated m .nfc 0 0x090 (fPwReset v))

end Sys2Proof.Machine
end

