-- ==== Sys2Proof/Machine/Keystone.lean ====
section
/-! DEFINITION. Keystone cores, boot and keys (R385-R396) and the joint (R397-R400). -/

namespace Sys2Proof.Machine

/-- Update of the Keystone record. -/
def State.updKst (s : State) (f : Kst → Kst) : State := { s with kst := f s.kst }
def State.updKs (s : State) (f : Proc → Proc) : State := (s.updProc (.ks 0) f).updProc (.ks 1) f

/-! ### Faults, watchdog, locks and TRNG (R387, R388, R392, R399) -/

/-- A Keystone fault with the number of its cause: the cores stop, a drain starts and the device reset follows after 150 µs (R388). -/
def State.ksFault (s : State) (cause : Nat) : State :=
  let s1 := s.causeSet cause
  if s.kst.resetAt.isSome then s1
  else (fDrain (s1.updKs fun x => { x with stopped := true })).updKst fun k => { k with resetAt := some (s.wall + 150 * usUnits) }
/-- KEYSTONE_FAULT: a lockstep mismatch, or a double trap that has stopped a core. -/
def fKsFault (doubleTrap : Bool) (s : State) : State :=
  if !(s.proc (.ks 0)).running then s
  else if doubleTrap then (if (s.proc (.ks 0)).stopped || (s.proc (.ks 1)).stopped then s.ksFault 6 else s)
  else s.ksFault 5
/-- KST_WATCHDOG_EXPIRY: TIMEOUT ms after the last KICK while EN is 1. -/
def fKsWatchdog (s : State) : State :=
  let w := s.reg .kst 0 0x54
  if bit w 16 ∧ s.kst.kick + fld w 0 16 * msUnits ≤ s.wall ∧ s.kst.resetAt.isNone then s.ksFault 7 else s
def fKsKick (v : Word) (s : State) : State := if bit v 0 then s.updKst fun k => { k with kick := s.wall } else s
/-- A write of KST.CTL: ENABLE; XLOCK and PUF_LOCK set once, and a write that meets XLOCK 1 sets CMD_REJECT (R387, R392). -/
def fKstCtl (v : Word) (s : State) : State :=
  let old := s.reg .kst 0 0x008
  let s1 := s.setReg .kst 0 0x008 ((old &&& 0xC) ||| (v &&& 0xD))
  if bit old 2 then s1.reject .kst 0 0x008 v else s1
/-- TRNG_READ. -/
def fTrng (s : State) : State × Word := if s.kst.trngOk then (s.draw, s.freeW) else (s.setSticky .kst 0 4, 0)
def fTrngHealth (ok : Bool) (s : State) : State := s.updKst fun k => { k with trngOk := ok }

/-! ### Boot images (R389, R390) -/

/-- Fields of a boot image's header. -/
def imgNat (h : List Byte) (o n : Nat) : Nat := leNat ((h.drop o).take n)
/-- Every header field lies in its range. -/
def State.headerOk (h : List Byte) : Bool :=
  let len := imgNat h 8 4
  let e := imgNat h 12 4
  decide (imgNat h 0 4 = 0x4B534254) && decide (imgNat h 4 2 = 1) && decide (imgNat h 6 2 ≤ 128) &&
    decide (len % 4096 = 0) && decide (4096 ≤ len) && decide (len ≤ 1015808) && decide (ksSram ≤ e) && decide (e + 4 ≤ ksSram + len) &&
    decide (imgNat h 16 1 = fld (pageCap .sys 0) 28 4) && ((h.drop 0x11).take 15).all (· == 0)
/-- OTP counters: 1 the firmware floor (R396). -/
def State.otpCount (s : State) (k : Nat) : Nat := Sparse.get 0 s.lcs.counter k
/-- ROM accepts an image: header, digest, both signatures and the floor. -/
def State.imageOk (s : State) (img : List Byte) (sigs : Bool) : Bool :=
  State.headerOk img && decide ((img.drop 0x20).take 48 = sha384 ((img.drop 0x50).take (imgNat img 8 4))) && sigs &&
    decide (s.otpCount 1 ≤ imgNat img 6 2)
/-- The image of a twin in flash. -/
def State.twinImage (s : State) (b : Bool) : List Byte :=
  let h := s.flBytes (twinBase b) 0x50
  h ++ s.flBytes (twinBase b + 0x50) (min (imgNat h 8 4) 1015808)
/-- The body is in SRAM, XSIZE and XLOCK are set and the cores run from ENTRY (R391 step 5). -/
def State.enterImage (s : State) (img : List Byte) (twin : Bool) : State :=
  let len := imgNat img 8 4
  let s1 := (s.putInts ksSram ((img.drop 0x50).take len)).setReg .kst 0 0x40 (w32 len)
  let s2 := s1.updReg .kst 0 0x008 fun w => putBit w 2 true
  let s3 := s2.updKs fun _ => { pc := w32 (imgNat img 12 4), running := true, super := true }
  s3.updKst fun k => { k with stage := 1, twin := twin, version := imgNat img 6 2 }
/-- RECOVERY: the image on the SD card, if there is one and it passes; the host reads only (R390, R458). -/
def State.recovery (s : State) (r : Option (List Byte × Bool)) : State :=
  let s1 := (s.updKst fun k => { k with stage := 2 }).setRegBit .sdh 0 0x40 1 true
  match r with
  | some (img, sigs) => if s.imageOk img sigs then s1.enterImage img s.kst.twin else s1
  | none => s1
/-- Step 5: the twin the swap word selects, then the other one. -/
def State.bootTwin (s : State) (i : BootInputs) : State :=
  let sig (b : Bool) : Bool := if b then i.sigBOk else i.sigAOk
  let t := s.flc.swapSel
  if s.imageOk (s.twinImage t) (sig t) then s.enterImage (s.twinImage t) t
  else if s.imageOk (s.twinImage !t) (sig !t) then (s.setSticky .kst 0 2).enterImage (s.twinImage !t) !t
  else s.recovery i.recovery

/-! ### Restore before service (R233, R234) -/

/-- The HIGH_WATER of a context's image in flash, where its VERSION is the context's (R236). -/
def State.flashHw (s : State) (p : Nat) : Nat :=
  let o := 0x380000 + 2048 * p
  if leNat (s.flBytes (o + 0x2C0) 4) = (s.ctx p).version then leNat (s.flBytes (o + 8) 8) else 0
/-- High-water and fence with which Keystone firmware restores a context (R233, R234). -/
def State.restoreValues (s : State) (p : Nat) : Nat × Nat :=
  if !s.kst.hwLost then (s.bbNat (8 * p) 8, 0)
  else (max (Sparse.get 0 s.flc.ckpt p) (s.flashHw p), match s.aon.shutdown with | some t => t | none => fenceOpen)
/-- Every installed context not yet restored since power-up is restored (R233). -/
def State.restoreAll (s : State) : State :=
  (s.ptn.ctx.filter fun e => decide (e.2.version ≠ 0) && !s.ptn.restored.contains e.1).foldl
    (fun s e => s.restoreCtx e.1 (s.restoreValues e.1).1 (s.restoreValues e.1).2) s
/-- Both channels of a mirror pair are fenced (R303, R308). -/
def State.mirrorLost (s : State) : Bool := (List.range 4).any fun c => decide ((s.sg c).st = 2) && decide ((s.sg (c + 4)).st = 2)
/-- SERVE_WRITE (R56, R231, R233, R360, R381): before it sets SERVE, Keystone firmware writes CLEAN := 0 and restores the contexts; a
standby or demoted device holds SERVE at 0, and so does one whose configuration record failed (R394) or that
has lost both channels of a mirror pair (R303); the boot window closes. -/
def fServe (v : Word) (s : State) : State :=
  if !bit v 8 then s.setServe false
  else if s.lcState ≠ 3 ∧ s.lcState ≠ 4 then s.reject .sys 0 0x040 v
  else
    let s1 : State := { s with dual := { s.dual with boot := false } }
    if s.fieldOff ∨ s.kst.cfgFail ∨ s.mirrorLost then s1 else ((s1.bbPut 0x8000 (zeros 4)).restoreAll).setServe true

/-! ### Keys (R392, R395) -/

/-- Orders of the P-384 and P-256 groups. -/
def orderP384 : Nat := 0xFFFFFFFFFFFFFFFFFFFFFFFFFFFFFFFFFFFFFFFFFFFFFFFFC7634D81F4372DDF581A0DB248B0A77AECEC196ACCC52973
def orderP256 : Nat := 0xFFFFFFFF00000000FFFFFFFFFFFFFFFFBCE6FAADA7179E84F3B9CAC2FC632551
/-- The device root key. -/
def State.drk (s : State) : List Byte :=
  hmac384 ((List.range 32).map fun i => Sparse.get 0 s.lcs.seed i) (fixLen 32 Config.puf)
/-- An integer key of n bytes reduced to 1 .. order - 1. -/
def reduceKey (n order : Nat) (bs : List Byte) : List Byte := leBytes n (leNat bs % (order - 1) + 1)
/-- KEY words at a word of the Keystone key plane. -/
def State.ksKeys (s : State) (k : Nat) (bs : List Byte) : State := s.putWords (ksPlane + 4 * k) ((toWords bs).map fun w => ⟨w, Tag.key⟩)
/-- Every derived key in its place, and PUF_LOCK. -/
def State.deriveKeys (s : State) : State :=
  let d := s.drk
  let share := (List.range 32).map fun i => Sparse.get 0 s.aon.bbram (0x8010 + i)
  let s1 := s.ksKeys 0 (hkdfExpand d (ascii "KS-SEAL" ++ share) 32)
  let s2 := s1.ksKeys 8 (hkdfExpand d (ascii "KS-RECORD") 32)
  let s3 := s2.ksKeys 16 (reduceKey 48 orderP384 (hkdfExpand d (ascii "KS-ATTEST") 48))
  let s4 := s3.ksKeys 28 (hkdfExpand d (ascii "KS-MIGRATE") 64)
  let s5 := s4.ksKeys 44 (reduceKey 32 orderP256 (hkdfExpand d (ascii "KS-TELEM-0") 48))
  let s6 := s5.ksKeys 52 (hkdfExpand d (ascii "KS-TELEM-1") 32)
  s6.updReg .kst 0 0x008 fun w => putBit w 3 true

/-! ### KEYSTONE_RESET_RELEASE (R391, R403, R404, R408, R409, R420, R427) -/

/-- A ring entry of 16 bytes (R427). -/
def RingAlarm.bytes (e : RingAlarm) : List Byte :=
  leBytes 8 e.time ++ leBytes 4 e.cnt ++ leBytes 1 e.mon ++ leBytes 1 (e.level % 4 + if e.cell then 4 else 0) ++ zeros 2
/-- The log entry of a ring entry: TIME is the ring's, the rest as the controller fills it. -/
def State.ringEntry (s : State) (e : RingAlarm) : State :=
  if s.elgFull then s.setSticky .elg 0 2
  else s.updTmp fun x => { x with qFirm := x.qFirm ++ [{ typ := 2, level := e.level, source := e.mon, time := e.time, cnt := s.aonCnt
                                                         valid := s.aon.timeValid, cell := e.cell, data := e.bytes }] }
/-- Step 3: ring, fault cause and reset cause into the log, the Lock after a VBAT power-on, then both records cleared. -/
def State.bootRecords (s : State) : State :=
  let s1 := s.aon.ring.foldl State.ringEntry s
  let s2 := if s.aon.ringOver ≠ 0 then s1.romLog 0x0D 0 (leBytes 2 s.aon.ringOver) else s1
  let s3 := if s.aon.cause &&& 0xE0 ≠ 0 then s2.romLog 4 0 (leBytes 4 (s.aon.cause &&& 0xE0).toNat) else s2
  let s4 := s3.romLog 3 0 (leBytes 4 ((s.aon.cause &&& 0xFFF).toNat + s.aon.boots * 65536))
  let s5 := if s.lcState = 4 ∧ bit s.aon.cause 0 then (s4.lockSerial.lockNow).romLog 0x0E 0 [] else s4
  s5.updAon fun a => { a with ring := [], ringOver := 0, toRing := false, cause := a.cause &&& 0xFFFFF000 }
/-- The RETURN set of R435, erased by ROM where the erase record is absent (R408). -/
def State.returnErase (s : State) : State :=
  let s1 := if s.lcs.returnRecord then s
    else (((s.flErase 0x208000 0xDF8000).flErase 0x1400000 0x200000).flErase 0x1A00000 0x600000).dropRecords
  s1.updLcs fun x => { x with returnRecord := true, erased := true }
/-- The SCRAP wipe (R409). -/
def State.scrapWipe (s : State) : State :=
  let s1 := ((s.flErase 0 0x1200000).flErase 0x1400000 0xC00000).dropRecords
  s1.updLcs fun x => { x with seed := (List.range 32).map fun i => (i, 0xFF), enrolled := false, trim := false, scrapDone := true }
/-- The OTP seed and the enrolment at the first boot in PROVISION (R404). -/
def State.seedOnce (s : State) : State :=
  if s.lcState = 3 ∧ (List.range 32).all fun i => decide (Sparse.get 0 s.lcs.seed i = 0) then
    (s.updLcs fun x => { x with
      seed := (List.range 32).foldl (fun m i => Sparse.set 0 m i (Config.freeByte (s.free + i))) [], enrolled := true }).draw
  else s
/-- A new seal share where BBRAM is reported invalid (R395). -/
def State.newShare (s : State) : State :=
  if s.aon.bbValid then s.updAon fun a => { a with erased := false }
  else
    let t := (s.bbPut 0x8010 (s.freeBs 32)).updAon fun a => { a with bbValid := true }
    ((t.updKst fun k => { k with newSeal := true }).romLog 8 0 []).draw
def State.ksStop (s : State) (stage : Nat) : State := s.updKst fun k => { k with stage := stage }
/-- A plan passes the check of R393: the file in flash is the one admitted, signed under the authority keys in force, and at or above the
floor of its class. -/
def State.planStands (s : State) (p : PlanFile) : Bool :=
  let f := s.flBytes (plansBase + p.flashAt) p.size
  decide (sha384 f = p.digest) && s.planSigned f && decide (s.planFloorOf p.cls ≤ p.version)
/-- The plans are checked; each that fails is not loaded, with an entry in the evidence log (R393). -/
def State.checkPlans (s : State) : State :=
  let bad := s.plans.filter fun p => !s.planStands p
  bad.foldl (fun s p => s.romLog 7 0 (leBytes 2 p.cls ++ leBytes 4 p.version)) { s with plans := s.plans.filter fun p => s.planStands p }
/-- What Keystone firmware does first: the torn slot is logged, the mailbox is processed, the mirror rewritten and the plans checked (R393,
R430, R476, R477). -/
def State.ksFirst (s : State) (torn : Bool) : State :=
  if s.kst.stage ≠ 1 then s
  else (((if torn then s.romLog 0x0D 1 [] else s).mailbox).tagMirror).checkPlans
/-- ROM from the release of the reset to the jump into firmware or a stop; in RECOVERY it goes on when an image is there. -/
def fBoot (i : BootInputs) (s : State) : State :=
  if !s.aon.mainPower ∨ s.kst.resetAt.isSome then s
  else if s.kst.stage = 2 then (if i.recovery.isSome then (s.recovery i.recovery).ksFirst false else s)
  else if s.kst.stage ≠ 0 ∨ (s.proc (.ks 0)).running then s
  else
    let s0 := (s.swapLoad.elgBoot).tornReport.intrReport
    let torn := bit (s0.stky .elg 0) 5
    if s0.lcState = 15 then (s0.setSticky .lcs 0 2).ksStop 4
    else if !i.selfTestOk then s0.ksStop 4
    else
      let s1 := s0.bootRecords
      match s1.lcState with
      | 0 | 1 | 2 => s1.ksStop 4
      | 6 => s1.scrapWipe.ksStop 4
      | st =>
        let s3 := (if st = 5 then s1.returnErase else s1).seedOnce
        let s2 := s3.updKst fun k => { k with recBad := i.recBad, hwLost := !s3.aon.bbValid || decide (s3.bbNat 0x8000 4 = 0) }
        if !i.helperOk then s2.ksStop 3
        else ((s2.newShare.deriveKeys).bootTwin i).ksFirst torn

/-! ### The joint (R397-R400) -/

/-- Update of the joint. -/
def State.updJnt (s : State) (f : Jnt → Jnt) : State := { s with jnt := f s.jnt }
def Jnt.dir (j : Jnt) (toArch : Bool) : JDir := if toArch then j.tx else j.rx
def Jnt.setDir (j : Jnt) (toArch : Bool) (d : JDir) : Jnt := if toArch then { j with tx := d } else { j with rx := d }
/-- JOINT_TRAINED: the Arch die powers on where it was off, a fresh root goes over the key strap, and the Keystone firmware loads
and starts the Cox firmware (R397, R391 steps 6 and 8, log entry 92). -/
def fJointTrained (s : State) : State :=
  if !s.aon.mainPower ∨ s.jnt.up ∨ s.jnt.keyed ∨ s.lcState = 6 then s
  else
    let s1 : State := if s.archOn then s else { s with archOn := true, stroke := 0, ksCopy := none, tim := s.timLoad }
    let s2 := (s1.updJnt fun _ => { up := true, keyed := true, root := s.freeBs 32, lastRx := s.wall }).draw
    (List.range 16).foldl (fun s c => if (s.proc (.cox (Fin.ofNat 16 c))).running then s else s.startCox c) s2
/-- The next frame of a direction: after FCNT 0xFFFF_FFFF, or once after a REKEY, a new epoch begins (R398). -/
def JDir.send (d : JDir) (typ route : Nat) (words : List TWord) (stroke : Nat) : JDir × Kept :=
  let e : JDir := if d.rekey ∨ 2 ^ 32 ≤ d.next then
    { d with epoch := (d.epoch + 1) % 2 ^ 32, next := 0, rekey := false, ended := d.ended ++ [(d.epoch, d.next)] } else d
  let k : Kept := { epoch := e.epoch, fcnt := e.next, typ := typ, route := route, words := words, stroke := stroke }
  ({ e with next := e.next + 1, sent := e.next, kept := (e.kept ++ [k]).drop ((e.kept.length + 1) - 64) }, k)
/-- Header of a link frame, its IV and the key of its epoch (R397). -/
def jointHead (typ n fcnt route epoch : Nat) : List Byte :=
  leBytes 1 typ ++ [0] ++ leBytes 2 n ++ leBytes 4 fcnt ++ leBytes 4 route ++ leBytes 4 epoch
def jointDir (toArch : Bool) : Byte := if toArch then 0 else 1
def jointIv (toArch : Bool) (epoch fcnt : Nat) : List Byte := [jointDir toArch, 0, 0, 0] ++ leBytes 4 epoch ++ leBytes 4 fcnt
def Jnt.epochKey (j : Jnt) (toArch : Bool) (e : Nat) : List Byte :=
  hkdfExpand j.root (ascii "KS-JOINT" ++ [jointDir toArch] ++ leBytes 4 e) 32
/-- The 6 bytes of a payload word: data, tag, their check bits and a pad bit, from the lowest bit up (log entry 107). -/
def jointWord (w : TWord) : List Byte :=
  leBytes 6 (w.data.toNat + 2 ^ 32 * w.tag.toNat + 2 ^ 36 * (Config.checkBits w.data).toNat + 2 ^ 43 * (Config.tagCheck w.tag).toNat)
/-- Its reading: the tag of the frame vouches for every bit, so no check bit is needed. -/
def jointWordIn (bs : List Byte) : TWord := let n := leNat bs; ⟨BitVec.ofNat 32 n, BitVec.ofNat 4 (n / 2 ^ 32)⟩
/-- A frame sealed with AES-256-GCM under the key of its epoch (R14, R397). -/
def Jnt.sealFrame (j : Jnt) (toArch : Bool) (k : Kept) : List Byte :=
  let h := jointHead k.typ k.words.length k.fcnt k.route k.epoch
  let iv := jointIv toArch k.epoch k.fcnt
  let key := j.epochKey toArch k.epoch
  let ct := gcmText key iv (k.words.flatMap jointWord)
  h ++ ct ++ gcmTag key iv h ct
/-- A frame read: its header, and the payload opened under the key of the epoch that the header names (R14, R397). -/
def Jnt.frameIn (j : Jnt) (toArch : Bool) (f : List Byte) : LinkFrame :=
  let n := leNat ((f.drop 2).take 2)
  let fcnt := leNat ((f.drop 4).take 4)
  let epoch := leNat ((f.drop 12).take 4)
  let iv := jointIv toArch epoch fcnt
  let key := j.epochKey toArch epoch
  let ct := (f.drop 16).take (6 * n)
  { typ := leNat (f.take 1), fcnt := fcnt, epoch := epoch, route := leNat ((f.drop 8).take 4)
    words := (chunks 6 n (gcmText key iv ct)).map jointWordIn
    tagOk := decide (n ≤ 64) && decide (f.length = 32 + 6 * n) && decide (gcmTag key iv (f.take 16) ct = f.drop (16 + 6 * n)) }
/-- A frame goes out. -/
def State.jointSend (s : State) (toArch : Bool) (typ route : Nat) (words : List TWord) : State :=
  let (d, k) := (s.jnt.dir toArch).send typ route words s.stroke
  (s.updJnt fun j => j.setDir toArch d).emit (.joint toArch (s.jnt.sealFrame toArch k))
/-- JOINT_FRAME_SEND. -/
def fJointSend (toArch : Bool) (typ route : Nat) (words : List TWord) (s : State) : State :=
  if !s.jnt.up ∨ !s.jnt.keyed ∨ typ = 0 ∨ 5 < typ ∨ 64 < words.length then s else s.jointSend toArch typ route words
/-- Epoch and counter a receiver expects next. -/
def JDir.expect (d : JDir) : Nat × Nat :=
  if d.ended.any fun e => decide (e.1 = d.exEp) && decide (e.2 ≤ d.exFc) then ((d.exEp + 1) % 2 ^ 32, 0) else (d.exEp, d.exFc)
/-- A key channel delivery (R398): destination 0 the context wrap key, 1 to 8 the key sets of SGRAM channels 0 to 7. -/
def State.keyDeliver (s : State) (route : Nat) (words : List TWord) : State :=
  let keys := words.all fun w => decide (w.tag = Tag.key)
  if route = 0 ∧ words.length = 8 ∧ keys then { s with ptn := { s.ptn with wrapKey := some (bytesOf words) } }
  else if 1 ≤ route ∧ route ≤ 8 ∧ words.length = 24 ∧ keys then s.updSg (route - 1) fun x => { x.unkeyed with keyed := true, key := words }
  else s.setSticky .jnt 0 0 0 (route % 256)
/-- Frames from the first missing one are sent again in order under new counters, which the receiver then expects (R398). -/
def State.jointResend (s : State) (toArch : Bool) : State :=
  let d := s.jnt.dir toArch
  let (ee, ef) := d.expect
  let again := d.kept.filter fun k => decide (ee < k.epoch) || (decide (k.epoch = ee) && decide (ef ≤ k.fcnt))
  match again with
  | [] => s
  | k0 :: _ =>
    let (_, first) := d.send k0.typ k0.route k0.words s.stroke
    let t := again.foldl (fun s k => s.jointSend toArch k.typ k.route k.words) s
    (again.foldl (fun (s : State) _ => s.count16 .jnt 0 0x50 16) t).updJnt fun j =>
      j.setDir toArch { j.dir toArch with exEp := first.epoch, exFc := first.fcnt }
/-- A frame that a receiver discards: counted, with its sticky bit; it feeds the joint integrity monitor, which trips on the fourth within
1 ms and on any replay (R14, R398, R416). -/
def State.jointDiscard (s : State) (f : LinkFrame) (ee ef : Nat) : State :=
  let s1 := s.count16 .jnt 0 0x50 0
  let replay := f.tagOk && (decide (f.epoch < ee) || (decide (f.epoch = ee) && decide (f.fcnt < ef)))
  let s2 := if !f.tagOk then s1.setSticky .jnt 0 2 else if replay then s1.setSticky .jnt 0 4 else s1
  let lost := ((s.wall :: s.jnt.lost).filter fun t => decide (s.wall < t + msUnits)).take 4
  let s3 := s2.updJnt fun j => { j with lost := lost }
  if replay || decide (lost.length = 4) then fTrip [126] s3 else s3
/-- JOINT_FRAME_RECEIVED. A data frame's message is delivered by MORTAR_DELIVERY. -/
def fJointReceived (toArch : Bool) (frame : List Byte) (s : State) : State :=
  if !s.jnt.up ∨ !s.jnt.keyed then s
  else
    let f := s.jnt.frameIn toArch frame
    let s0 := if toArch then s else s.updJnt fun j => { j with lastRx := s.wall }
    let d := s0.jnt.dir toArch
    let (ee, ef) := d.expect
    if f.tagOk ∧ f.epoch = ee ∧ f.fcnt = ef then
      let s1 := s0.updJnt fun j => j.setDir toArch { d with exEp := ee, exFc := ef + 1, got := ef }
      let s2 : State := if toArch then s1
        else match d.kept.find? fun k => decide (k.epoch = ee) && decide (k.fcnt = ef) with
          | some k => { s1 with ksCopy := some k.stroke }
          | none => s1
      if toArch ∧ f.typ = 2 then s2.keyDeliver f.route f.words else s2
    else (s0.jointDiscard f ee ef).jointResend toArch
/-- JOINT_IDLE_TIMEOUT and JOINT_RETRAINED. -/
def fJointIdle (s : State) : State :=
  if s.jnt.up ∧ s.jnt.lastRx + msUnits ≤ s.wall then (s.updJnt fun j => { j with up := false }).setSticky .jnt 0 3 else s
def fJointBack (s : State) : State :=
  if s.jnt.keyed ∧ !s.jnt.up then s.updJnt fun j => { j with up := true, lastRx := s.wall } else s
/-- A write of JNT.CTL. -/
def fJntCtl (v : Word) (s : State) : State :=
  let s1 := s.setReg .jnt 0 0x008 (v &&& 1)
  if !bit v 2 then s1
  else if !s.jnt.keyed then s1.reject .jnt 0 0x008 v
  else s1.updJnt fun j => { j with tx := { j.tx with rekey := true }, rx := { j.rx with rekey := true } }

/-! ### The rows -/

/-- KEYSTONE_RESET_RELEASE (R391). -/
def execKeystoneResetRelease (i : BootInputs) (s : State) : Host.Outcome State Fault Refusal := .next (fBoot i s)

/-- TRNG_READ (R399). -/
def execTrngRead (m : Master) (s : State) : Host.Outcome State Fault Refusal := .next (s.gatedRead m .kst 0 0x044 fTrng)

/-- KST_WDOG_KICK (R399). -/
def execKstWdogKick (m : Master) (v : Word) (s : State) : Host.Outcome State Fault Refusal := .next (s.gated m .kst 0 0x058 (fKsKick v))

/-- KST_WATCHDOG_EXPIRY (R388). -/
def execKstWatchdogExpiry (s : State) : Host.Outcome State Fault Refusal := .next (fKsWatchdog s)

/-- KEYSTONE_FAULT (R388). -/
def execKeystoneFault (doubleTrap : Bool) (s : State) : Host.Outcome State Fault Refusal := .next (fKsFault doubleTrap s)

/-- JOINT_TRAINED (R397). -/
def execJointTrained (s : State) : Host.Outcome State Fault Refusal := .next (fJointTrained s)

/-- JOINT_FRAME_SEND (R398). -/
def execJointFrameSend (toArch : Bool) (typ : Nat) (route : Nat) (words : List TWord) (s : State) : Host.Outcome State Fault Refusal := .next (fJointSend toArch typ route words s)

/-- JOINT_FRAME_RECEIVED (R398). -/
def execJointFrameReceived (toArch : Bool) (frame : List Byte) (s : State) : Host.Outcome State Fault Refusal := .next (fJointReceived toArch frame s)

/-- JOINT_IDLE_TIMEOUT (R398). -/
def execJointIdleTimeout (s : State) : Host.Outcome State Fault Refusal := .next (fJointIdle s)

/-- JOINT_RETRAINED (R398). -/
def execJointRetrained (s : State) : Host.Outcome State Fault Refusal := .next (fJointBack s)

/-- SERVE_WRITE (R56). -/
def execServeWrite (m : Master) (v : Word) (s : State) : Host.Outcome State Fault Refusal := .next (s.gated m .sys 0 0x040 (fServe v))

/-- TRNG_HEALTH_CHANGE (R399). -/
def execTrngHealthChange (ok : Bool) (s : State) : Host.Outcome State Fault Refusal := .next (fTrngHealth ok s)

end Sys2Proof.Machine
end

