-- ==== Sys2Proof/Machine/BootLoad.lean ====
section
/-! DEFINITION. What Keystone firmware loads before it writes BOOT_DONE (R391 steps 10 and 11, R393, R394): the tables in force at the
last power-down, and the configuration records. -/

namespace Sys2Proof.Machine

/-! ### Step 10: tables and reservations (R393) -/

/-- The stored table and reservation list of a course stand in its inactive buffers, ready to swap. -/
def State.stageTable (s : State) (c : Nat) (ft rs : List (Nat × TwoWords)) : State :=
  s.updCx c fun x => if x.active then { x with ftA := ft, resA := rs } else { x with ftB := ft, resB := rs }
/-- One course of step 10: its table is loaded where the combined audit of the tables loaded so far still passes with it, and the course is
left without one otherwise. -/
def State.bootTable (s : State) (e : Nat × List (Nat × TwoWords) × List (Nat × TwoWords)) : State :=
  if !(s.cx e.1).table.isEmpty ∨ !(s.cx e.1).idleTable.isEmpty then s
  else
    let t := s.stageTable e.1 e.2.1 e.2.2
    if t.placePolicies.combinedAudit then t else s
/-- Step 10: the tables that pass are in force, with the images, policy sections and telemetry keys of their plans (R393, R395, log
entry 103). -/
def State.bootTables (s : State) : State :=
  let old := s
  let t := s.flc.tabs.foldl State.bootTable s
  let cs := (List.range 16).filter fun c => decide ((old.cx c).idleTable ≠ (t.cx c).idleTable)
  if cs.isEmpty then s
  else
    let p : State := { t.placePolicies with audit := some t.stroke }
    let u := cs.foldl (fun s c => (s.setRegBit .cox c 0x6C 7 (s.courseCover c)).setRegBit .cox c 0x54 0 true) p
    let w := cs.foldl State.swapOne u
    cs.foldl (fun s c => if s.domState (7 + c) = .on then (s.loadCourse c).updCx c fun x => { x with ready := true } else s) w

/-! ### Step 11: configuration records (R394) -/

/-- The shadows of a page take the words of a recorded image, without the two actions that a record cannot repeat: a swap of frame
tables and a step of the clock (log entry 104). -/
def State.imageIn (s : State) (e : PageRef × List Byte) : State :=
  let pg := e.1
  let word (k : Nat) : Word := w32 (leNat ((e.2.drop (4 * k)).take 4))
  if pg.block = .acu then
    (List.range (acuContexts pg.inst * 16)).foldl (fun s n =>
      let key := acuKey pg.inst (n / 16) (n % 16)
      { s with acuBaseSh := Sparse.set 0 s.acuBaseSh key (word (2 * n)), acuAttrSh := Sparse.set 0 s.acuAttrSh key (word (2 * n + 1)) }) s
  else (rwpOffs pg.block pg.inst).zipIdx.foldl (fun s x =>
    if pg.block = .tim ∨ (pg.block = .cox ∧ x.1 = 0x44) then s else s.setReg pg.block pg.inst (0x800 + x.1) (word x.2)) s
/-- One record applied again by a request that commits with the single KEYSTONE approval (R381, R394). -/
def State.reapply (s : State) (e : CfgRec) : State :=
  let pages := e.pages.map (·.1)
  let peer := bit s.freeW 0
  let s1 := e.pages.foldl State.imageIn { s.draw with dual := { s.dual with opens := s.dual.opens + 1 } }
  match s1.refusal pages with
  | some (_, pg, o) => s1.refusePage s1 pg o
  | none => s1.commitPages peer pages
/-- The records that authenticate, from the first one to the first that does not (R394). -/
def State.cfgGood (s : State) : List CfgRec :=
  let l := match s.kst.recBad with | some n => s.flc.cfg.take n | none => s.flc.cfg
  l.takeWhile s.cfgOk
/-- Step 11: the records that authenticate are applied again in order; where one fails it and every later one are skipped, CFG_FAIL sets
and SERVE is held until the configuration is committed again (R394). -/
def State.bootConfig (s : State) : State :=
  let good := s.cfgGood
  let t := good.foldl State.reapply s
  if good.length < s.flc.cfg.length then
    ((t.setSticky .kst 0 5).updFlc fun f => { f with cfg := good }).updKst fun k => { k with cfgFail := true, recBad := none }
  else t
/-- A write of DUAL.CTL: ENABLE, and BOOT_DONE, before which Keystone firmware carries out steps 10 and 11 (R381, R391). -/
def fBootDone (v : Word) (s : State) : State :=
  let s1 := s.setRegBit .dual 0 0x008 0 (bit v 0)
  if !bit v 2 then s1
  else
    let t := if s1.dual.boot ∧ s1.kst.stage = 1 ∧ s1.archOn then s1.bootTables.bootConfig else s1
    { t with dual := { t.dual with boot := false } }

end Sys2Proof.Machine
end

