-- ==== Sys2Proof/Machine/LifeCycle.lean ====
section
/-! DEFINITION. Life-cycle transitions (R401-R409, R414) and the debug master (R410-R415). -/

namespace Sys2Proof.Machine

/-! ### Transitions (R405-R407) -/

/-- The life-cycle word of a state code. -/
def lcWord : Nat → BitVec 64
  | 1 | 2 => 0xFFF
  | 3 => 0xFFFFFF
  | 4 => 0xFFFFFFFFF
  | 5 => 0xFFFFFFFFFFFF
  | 6 => 0xFFFFFFFFFFFFFFF
  | _ => 0
def State.token (s : State) (i : Nat) : BitVec 64 := Sparse.get 0 s.lcs.tokens i
def tokOpen : BitVec 64 := 0xFFFFFFFF
def tokClosed : BitVec 64 := 0xFFFFFFFFFFFFFFFF
/-- The next token that can be opened: UNUSED with every lower-numbered one CLOSED. -/
def State.nextToken (s : State) : Option Nat :=
  (List.range 8).find? fun i => decide (s.token i = 0) && (List.range i).all fun j => decide (s.token j = tokClosed)
/-- A refused request: RESULT 0b010 and CMD_REJECT. -/
def State.lcRefuse (s : State) (v : Word) : State := (s.updLcs fun x => { x with result := 2 }).reject .lcs 0 0x4C v
/-- Programming starts towards a word, with a token to program. -/
def State.lcBegin (s : State) (w : BitVec 64) (tok : Option (Nat × BitVec 64)) : State :=
  s.updLcs fun x => { x with busy := true, result := 0, since := s.wall, resetAt := none, tokTarget := tok
                             target := if x.word ||| w = x.word then none else some (x.word ||| w) }
/-- The statement of a transition under an OPERATION grant. -/
def State.lcDigest (s : State) (target : Nat) : List Byte :=
  sha384 (leBytes 4 0x4C435354 ++ leBytes 4 s.lcs.uid ++ leBytes 1 target ++ zeros 7)
/-- A grant for a target; for RETURN both approvals are OPERATOR. -/
def State.lcGrant (s : State) (target : Nat) : Bool :=
  s.dual.req.any fun (e : Nat × Req) => e.2.granted && decide (e.2.kind = 2) && decide (e.2.digest = s.lcDigest target) &&
    (decide (target ≠ 5) || (decide (2 ≤ e.2.kinds.length) && e.2.kinds.all fun k => decide (k = 2)))
/-- An unlock request in TEST_LOCKED (R406). -/
def State.lcUnlock (s : State) (v : Word) : State :=
  match s.nextToken with
  | none => s.lcRefuse v
  | some i =>
    if 3 ≤ s.lcs.fails then s.lcRefuse v
    else if sha384 (s.regBytes .lcs 0 0x50 4) = Sparse.get [] s.lcs.tokDigest i then s.lcBegin 0 (some (i, tokOpen))
    else ((s.updLcs fun x => { x with fails := x.fails + 1 }).lcRefuse v).setSticky .lcs 0 3
/-- A write of LCS.CMD with START: the table of R405. `ops` tells whether the operator table holds an entry. -/
def fLcCmd (m : Master) (ops : Bool) (v : Word) (s : State) : State :=
  let s1 := s.setReg .lcs 0 0x4C (v &&& 0xF)
  let t := fld v 0 4
  let dbg := decide (m = .debug)
  let right (k : Nat) : Bool := s.dbg.rights.getLsbD k
  let go := s1.lcBegin (lcWord t) none
  let pick (b : Bool) : State := if b then go else s1.lcRefuse v
  if !bit v 4 then s1
  else if s.lcs.busy || s.lcs.resetAt.isSome then s1.lcRefuse v
  else match s.lcState, t with
    | 0, 1 => pick (dbg && decide (s.lcs.uid ≠ 0) && s.lcs.trim && (List.range 8).all fun i => !(Sparse.get [] s.lcs.tokDigest i).isEmpty)
    | 1, 2 => if dbg then s1.lcUnlock v else s1.lcRefuse v
    | 2, 1 =>
      match (List.range 8).find? fun i => decide (s.token i = tokOpen) with
      | some i => if dbg then s1.lcBegin 0 (some (i, tokClosed)) else s1.lcRefuse v
      | none => s1.lcRefuse v
    | 1, 3 => pick (dbg && right 4)
    | 3, 4 => pick (m.isKs && s.lcGrant 4 && decide (s.svc = 0) && ops)
    | 3, 5 | 4, 5 => pick (m.isKs && s.lcGrant 5 && decide (s.svc = 0))
    | 0, 6 | 1, 6 | 2, 6 | 15, 6 => pick dbg
    | 5, 6 => pick ((dbg && right 5) || (m.isKs && s.lcGrant 6))
    | 3, 6 | 4, 6 => pick (m.isKs && s.lcGrant 6)
    | _, _ => s1.lcRefuse v
/-- The access of LC_TARGET rows: in INVALID the debug master reaches LCS.CMD for the transition to SCRAP (R403, R405). -/
def State.lcGated (s : State) (m : Master) (act : State → State) : State :=
  if m = .debug ∧ s.lcState = 15 then act s else s.gated m .lcs 0 0x04C act

/-- A word whose programming failed at one bit: the steps before it complete, and of its own step the other bits as far as a free
value says (R407). -/
def failWord (old new mask : BitVec 64) (r : Nat) : BitVec 64 :=
  let missing := (List.range 64).filter fun k => (new &&& ~~~old).getLsbD k
  let k := missing.getD (r % missing.length) 0
  old ||| (new &&& mask &&& ~~~(1#64 <<< k))
/-- Time that programming takes at least: 10 µs for each bit of the word and of the token not yet set (R407). -/
def State.lcTime (s : State) : Nat :=
  let bits (w : BitVec 64) : Nat := ((List.range 64).filter fun k => w.getLsbD k).length
  let word := match s.lcs.target with | some w => bits (w &&& ~~~s.lcs.word) | none => 0
  let tok := match s.lcs.tokTarget with | some (i, w) => bits (w &&& ~~~s.token i) | none => 0
  (word + tok) * (10 * usUnits)
/-- LC_PROGRAM_DONE: RESULT 0b001 and the reset after 1 ms, or PROG_FAIL; BBRAM is zeroised with the RETURN and SCRAP patterns (R407,
R408), and debug rights end (R411). -/
def fLcDone (ok : Bool) (s : State) : State :=
  let x := s.lcs
  if !x.busy || (ok && decide (s.wall < x.since + s.lcTime)) then s
  else if ok then
    let s1 := s.updLcs fun y => { y with busy := false, result := 1, resetAt := some (s.wall + msUnits) }
    let s2 : State := { s1 with dbg := { s1.dbg with rights := 0 } }
    match x.target with
    | some w => if w = lcWord 5 ∨ w = lcWord 6 then s2.bbZero.sgZero else s2
    | none => s2
  else
    let r := s.freeW.toNat
    let word := match x.target with
      | some w =>
        let steps := lcSteps x.word w
        let n := r % steps.length
        let done := (steps.take n).foldl (fun a m => a ||| (m &&& w)) x.word
        failWord done (done ||| (w &&& steps.getD n 0)) (BitVec.ofNat 64 (r * 2 ^ 32 + r)) (r / 8)
      | none => x.word
    let toks := match x.tokTarget with
      | some (i, w) => Sparse.set 0 x.tokens i (failWord (s.token i) w (BitVec.ofNat 64 (r * 2 ^ 32 + r)) (r / 8))
      | none => x.tokens
    (s.updLcs fun y => { y with busy := false, result := 3, target := none, tokTarget := none, word := word, tokens := toks }).draw.setSticky .lcs 0 4
/-- LC_RESET_DELAY: the device reset of R407 raises its warning (R489). -/
def fLcReset (s : State) : State :=
  match s.lcs.resetAt with
  | some t => if t ≤ s.wall then (s.updLcs fun x => { x with resetAt := none }).warning 8 else s
  | none => s

/-! ### Debug certificates and rights (R410-R413) -/

/-- Update of the debug record. -/
def State.updDbg (s : State) (f : Dbg → Dbg) : State := { s with dbg := f s.dbg }
/-- The greatest rights with a certificate, by state. -/
def State.dbgMax (s : State) : BitVec 6 :=
  match s.lcState with
  | 1 => 0b110000#6
  | 3 => 0b000111#6
  | 4 => 0b000001#6
  | 5 => if s.lcs.erased then 0b101111#6 else 0
  | _ => 0
/-- Bytes of the certificate buffer. -/
def State.certBytes (s : State) (n : Nat) : List Byte := ((List.range ((n + 3) / 4)).flatMap fun i => leBytes 4 (Sparse.get 0 s.dbg.cert i).toNat).take n
/-- What the verifier checks besides the signatures: MAGIC, ISSUER, STATE, UID, CHALLENGE, and in MISSION the grant over the whole
certificate. -/
def State.certOk (s : State) : Bool :=
  let h := s.certBytes 32
  let st := s.lcState
  decide (imgNat h 0 4 = 0x44424743) && decide (imgNat h 4 1 = if st = 3 ∨ st = 4 then 2 else 1) && decide (imgNat h 5 1 = st) &&
    decide (imgNat h 8 8 = s.lcs.uid) && decide ((h.drop 16).take 16 = (s.dbg.chal.flatMap fun w => leBytes 4 w.toNat)) &&
    (decide (st ≠ 4) || (List.range 1529).any fun n => s.grantFor (sha384 (s.certBytes (32 + 4 * n))))
/-- DEBUG_SUBMIT. -/
def fDbgSubmit (v : Word) (s : State) : State :=
  let st := s.lcState
  if !bit v 0 then s
  else if s.dbg.pending ∨ !(st = 1 ∨ st = 3 ∨ st = 4 ∨ st = 5) then s.reject .dbg 0 0x50 v
  else s.updDbg fun d => { d with pending := true }
/-- DEBUG_GRANT: GRANT or DENY of the verifier, and a fresh challenge. -/
def fDbgGrant (v : Word) (s : State) : State :=
  let s1 := s.setReg .dbg 0 0x54 (v &&& 0x13F)
  if !s.dbg.pending then s1.reject .dbg 0 0x54 v
  else
    let s2 := (s1.updDbg fun d => { d with pending := false, chal := s.freshChal })
    let s3 : State := { s2 with free := s.free + 4 }
    let cert : BitVec 6 := BitVec.ofNat 6 (imgNat (s.certBytes 32) 6 2)
    if bit v 8 ∨ !s.certOk then s3.setSticky .dbg 0 2
    else s3.updDbg fun d => { d with rights := BitVec.ofNat 6 (fld v 0 6) &&& cert &&& s.dbgMax }
/-- A write of DBG.CTL: ENABLE, and REVOKE from the debug master or the Keystone cores (R411). -/
def fDbgCtl (m : Master) (v : Word) (s : State) : State :=
  if bit v 2 ∧ !(m = .debug ∨ m.isKs) then s.reject .dbg 0 0x008 v
  else
    let s1 := s.setReg .dbg 0 0x008 (v &&& 1)
    if bit v 2 then s1.updDbg fun d => { d with rights := 0 } else s1
/-- CERT_DATA_WRITE: the word, and the next address. -/
def fCertData (v : Word) (s : State) : State :=
  let a := fld (s.reg .dbg 0 0x60) 0 11
  (s.updDbg fun d => { d with cert := Sparse.set 0 d.cert a v }).setReg .dbg 0 0x60 (w32 (if a + 1 < 1536 then a + 1 else 0))

/-! ### Halting (R410) -/

/-- The processors of a target: a tile with the other tile of its pair, or the Keystone pair. -/
def haltTargets (t : Nat) : List ProcId :=
  if t = 256 then [.ks 0, .ks 1]
  else
    let p : ProcId := .tile (Fin.ofNat 16 (t / 16)) (Fin.ofNat 16 (t % 16))
    [p, p.mate]
/-- A halt of the target is refused: a tile in scheduled mode, or of a course with an active frame table. -/
def State.haltRefused (s : State) (t : Nat) : Bool :=
  decide (t ≠ 256) && ((haltTargets t).any (fun p => (s.proc p).sched) || !(s.cx (t / 16)).table.isEmpty)
def State.updTargets (s : State) (t : Nat) (f : Proc → Proc) : State := (haltTargets t).foldl (fun s p => s.updProc p f) s
/-- A write of DBG.HALT: the right it needs, then HALT, STEP and RESUME in that order. -/
def fDbgHalt (m : Master) (v : Word) (s : State) : State :=
  let t := fld v 0 9
  let act := bit v 9 || bit v 10 || bit v 11
  if act && !s.dbgRights.getLsbD (if t = 256 then 3 else 2) && !(decide (t ≠ 256) && s.dbgRights.getLsbD 3) then
    s.targetRefuse m 1 (pageBase ⟨.dbg, 0⟩ + 0x58)
  else if 256 < t then s.reject .dbg 0 0x58 v
  else
    let s1 := s.setReg .dbg 0 0x58 (v &&& 0x1FF)
    let s2 := if bit v 9 then
        (if s.haltRefused t then s1.setSticky .dbg 0 3 else s1.updTargets t fun x => { x with halted := true })
      else s1
    let s3 := if bit v 10 then s2.updTargets t fun x => { x with stepOne := x.halted } else s2
    if bit v 11 then s3.updTargets t fun x => { x with halted := false, stepOne := false } else s3

/-! ### The rows -/

/-- LC_TARGET_TEST_LOCKED (R405). -/
def execLcTargetTestLocked (m : Master) (s : State) : Host.Outcome State Fault Refusal := .next (s.lcGated m (fLcCmd m false 0x11))

/-- LC_TARGET_TEST_OPEN (R406). -/
def execLcTargetTestOpen (m : Master) (s : State) : Host.Outcome State Fault Refusal := .next (s.lcGated m (fLcCmd m false 0x12))

/-- LC_TARGET_PROVISION (R405). -/
def execLcTargetProvision (m : Master) (s : State) : Host.Outcome State Fault Refusal := .next (s.lcGated m (fLcCmd m false 0x13))

/-- LC_TARGET_MISSION (R405). -/
def execLcTargetMission (m : Master) (opTable : Bool) (s : State) : Host.Outcome State Fault Refusal := .next (s.lcGated m (fLcCmd m opTable 0x14))

/-- LC_TARGET_RETURN (R405). -/
def execLcTargetReturn (m : Master) (s : State) : Host.Outcome State Fault Refusal := .next (s.lcGated m (fLcCmd m false 0x15))

/-- LC_TARGET_SCRAP (R405). -/
def execLcTargetScrap (m : Master) (s : State) : Host.Outcome State Fault Refusal := .next (s.lcGated m (fLcCmd m false 0x16))

/-- LC_PROGRAM_DONE (R407). -/
def execLcProgramDone (ok : Bool) (s : State) : Host.Outcome State Fault Refusal := .next (fLcDone ok s)

/-- LC_RESET_DELAY (R407). -/
def execLcResetDelay (s : State) : Host.Outcome State Fault Refusal := .next (fLcReset s)

/-- DEBUG_SUBMIT (R413). -/
def execDebugSubmit (m : Master) (v : Word) (s : State) : Host.Outcome State Fault Refusal := .next (s.gated m .dbg 0 0x050 (fDbgSubmit (putBit v 0 true)))

/-- DEBUG_GRANT (R413). -/
def execDebugGrant (m : Master) (v : Word) (s : State) : Host.Outcome State Fault Refusal := .next (s.gated m .dbg 0 0x054 fun s => s.ksOnly m .dbg 0 0x054 v (fDbgGrant v))

/-- DEBUG_HALT (R410). -/
def execDebugHalt (m : Master) (v : Word) (s : State) : Host.Outcome State Fault Refusal := .next (s.gated m .dbg 0 0x058 (fDbgHalt m (putFld v 9 3 1)))

/-- DEBUG_STEP (R410). -/
def execDebugStep (m : Master) (v : Word) (s : State) : Host.Outcome State Fault Refusal := .next (s.gated m .dbg 0 0x058 (fDbgHalt m (putFld v 9 3 2)))

/-- DEBUG_RESUME (R410). -/
def execDebugResume (m : Master) (v : Word) (s : State) : Host.Outcome State Fault Refusal := .next (s.gated m .dbg 0 0x058 (fDbgHalt m (putFld v 9 3 4)))

/-- CERT_DATA_WRITE (R415). -/
def execCertDataWrite (m : Master) (v : Word) (s : State) : Host.Outcome State Fault Refusal := .next (s.gated m .dbg 0 0x064 (fCertData v))

end Sys2Proof.Machine
end

