-- ==== Sys2Proof/Machine/Links.lean ====
section
/-! DEFINITION. Faults, fences and tests of mortar link directions (R155-R159). -/

namespace Sys2Proof.Machine

/-- A link direction. -/
def State.link (s : State) (d : Nat) : Link := Sparse.get {} s.mort.link d
/-- Update of a link direction. -/
def State.updLink (s : State) (d : Nat) (f : Link → Link) : State :=
  { s with mort := { s.mort with link := Sparse.upd {} s.mort.link d f } }

/-- A link direction is fenced by hardware, and the routes that used it change (R155, R159). -/
def State.fenceLink (s : State) (d : Nat) : State :=
  let s1 := ((s.setFence .mort 0 (0x50 + 4 * (d / 32)) (d % 32) true).setSticky .mort 0 2).updLink d fun x => { x with testOk := false }
  s.mort.flights.foldl (fun s f => s.reroute d f) s1

/-- The beats of a message or of its response are discarded: a scheduled beat's course is signalled, a free beat's source gets an
error response (R155). -/
def State.loseBeat (s : State) (m : Msg) : State :=
  let s0 : State := { s with mort := { s.mort with
    msgs := s.mort.msgs.erase m
    flights := s.mort.flights.filter fun f => match f.body with | .req o | .resp o _ => decide (o ≠ m) | _ => true } }
  if m.sched then s0.signalCourse m.owner.val m.src.tilePair 9 else s0.respondHere m true m.addr

/-- BEAT_UNCORRECTABLE: the beat is discarded, the error counted, and the second within 1,200,000 strokes fences the direction
(R155). -/
def fBeatUe (m : Msg) (d : Nat) (s : State) : State :=
  let s2 := ((s.loseBeat m).setSticky .mort 0 1).updLink d fun x => { x with uncorr := satInc x.uncorr 0xFF, lastUe := some s.stroke }
  match (s.link d).lastUe with
  | some t => if s.stroke < t + 1200000 && !s.linkFenced d then s2.fenceLink d else s2
  | none => s2

/-- LINK_IDLE_LOSS (R155). -/
def fLinkIdle (d : Nat) (s : State) : State := if s.linkFenced d then s else s.fenceLink d

/-- LINK_TEST_START (R159). A start while another test runs is rejected, which the spec leaves open (DESIGN CHOICE, log entry 90). -/
def fLinkTest (v : Word) (s : State) : State :=
  let d := fld (s.reg .mort 0 0x40) 0 7
  if !bit v 0 then s
  else if !s.linkFenced d || s.mort.test.isSome then s.reject .mort 0 0x48 v
  else { s with mort := { s.mort with test := some d } }

/-- LINK_TEST_DONE (R156, R159). -/
def fLinkTested (ok : Bool) (s : State) : State :=
  match s.mort.test with
  | none => s
  | some d => ({ s with mort := { s.mort with test := none } }).updLink d fun x => { x with testOk := ok, testFail := !ok, testAt := if ok then some s.stroke else x.testAt }

/-! ### The rows -/

/-- BEAT_UNCORRECTABLE (R155). -/
def execBeatUncorrectable (msg : Msg) (dir : Fin 120) (s : State) : Host.Outcome State Fault Refusal := .next (fBeatUe msg dir s)

/-- LINK_IDLE_LOSS (R155). -/
def execLinkIdleLoss (dir : Fin 120) (s : State) : Host.Outcome State Fault Refusal := .next (fLinkIdle dir s)

/-- LINK_TEST_START (R159). -/
def execLinkTestStart (m : Master) (v : Word) (s : State) : Host.Outcome State Fault Refusal := .next (s.gated m .mort 0 0x48 (fLinkTest v))

/-- LINK_TEST_DONE (R159). -/
def execLinkTestDone (ok : Bool) (s : State) : Host.Outcome State Fault Refusal := .next (fLinkTested ok s)

end Sys2Proof.Machine
end

