-- ==== Sys2Proof/Machine/RegRead.lean ====
section
/-! DEFINITION. What a read of every register of every page returns (R27, R30 and the register tables), and the level of every event source
(R34-R37). -/

namespace Sys2Proof.Machine

/-! ### Shared fields -/

/-- Word of flags, bit k from the function. -/
def flags (n : Nat) (f : Nat → Bool) : Word := w32 ((List.range n).foldl (fun a k => a + if f k then 2 ^ k else 0) 0)
/-- Word of w-bit fields, field k from the function. -/
def fields (n w : Nat) (f : Nat → Nat) : Word := w32 ((List.range n).foldl (fun a k => a + f k % 2 ^ w * 2 ^ (w * k)) 0)
/-- Half of a 64-bit value that a LO/HI pair shows. -/
def half (v : Nat) (hi : Bool) : Word := w32 (if hi then v / 2 ^ 32 else v)
/-- Code of a domain state in PWR.DOM_STS (R491). -/
def DomState.code : DomState → Nat
  | .off => 0 | .waking => 1 | .on => 2 | .selfRefresh => 3
/-- Code of a function state in VFM.FN_STS (R335). -/
def FnState.code : FnState → Nat
  | .quiet => 0 | .active => 1 | .draining => 2 | .frozen => 3
/-- What a cell reads where no register is computed: write-only and self-clearing bits read 0 (R9), the shadow window shows the shadows of
RWP registers (R32), and an undefined offset reads 0 (R26). -/
def State.plain (s : State) (b : Block) (i off : Nat) : Word :=
  match regRow b off with
  | some r => s.reg b i off &&& ~~~(r.wo ||| r.sc)
  | none => if 0x800 ≤ off ∧ rwpMask b (off - 0x800) ≠ 0 then s.reg b i off else 0

/-! ### Live status by page -/

/-- The rate waits for a frame boundary (R487). -/
def State.ratePending (s : State) : Bool := s.archOn && (s.wantPaddle != s.pwr.paddle)
/-- A clock domain runs: those of an OFF power domain are stopped, test clocks run in three life-cycle states (R486). -/
def State.clockRuns (s : State) (k : Nat) : Bool :=
  let dom (d : Nat) : Bool := decide (s.domState d ≠ .off)
  if k < 72 then dom 32
  else if k < 128 then dom 33
  else if k < 140 then dom 34
  else if k < 156 then dom (7 + (k - 140))
  else if k < 160 then dom 28
  else if k < 172 then dom (23 + (k - 160) / 3)
  else if k < 176 then dom 27
  else if k < 192 then dom 29
  else if k < 208 then dom (30 + (k - 192) / 8)
  else if k < 217 then dom 35
  else if k < 239 then dom 2
  else if k < 241 then dom 6
  else if k < 243 then dom 28
  else if k < 253 then dom 5
  else if k < 256 then true
  else decide (s.lcState ≤ 2)
/-- A tile of the course is stopped on a double trap (R100, R143). -/
def State.tileStopped (s : State) (c t : Nat) : Bool := (s.proc (.tile (Fin.ofNat 16 c) (Fin.ofNat 16 t))).dbl
/-- A class queue of the course is full (R42). -/
def State.queueFull (s : State) (c : Nat) : Bool :=
  s.plans.any fun p => decide (0 < p.qdepth) && decide (p.qdepth ≤ (s.queueUsed c p.cls).length)
/-- 2^24 draws since the last reseed (R179). -/
def State.reseedReq (s : State) (k : Nat) : Bool := decide (2 ^ 24 ≤ (s.clu k).draws)
/-- The engine is stopped by a full ring or by a failing flush (R313, R314). -/
def State.jnlHalted (s : State) : Bool := s.jnlStopped || s.jnl.retry.isSome
/-- Every slot of a course ring is in use (R310). -/
def State.courseRingFull (s : State) (c : Nat) : Bool := (s.freeSlots c).isEmpty
/-- A pair port whose partner or itself has no link (R289). -/
def State.pairOk (s : State) (n : Nat) : Bool := decide (s.ethPair n ≠ 0) && (s.ethOuts n).all fun k => (s.ethP k).link
/-- 90 % of the general area used: slot 29,261 has been written (R431). -/
def State.elgNear (s : State) : Bool := decide (29261 < s.tmp.next)
/-- A halt target of DBG is stopped. -/
def State.dbgHalted (s : State) : Bool := (haltTargets (fld (s.reg .dbg 0 0x58) 0 9)).all fun p => (s.proc p).halted
/-- Highest effective level among latched alarms (R432). -/
def State.levelMax (s : State) : Nat := (List.range 128).foldl (fun a m => if s.alarm m then max a (s.effLevel m) else a) 0

/-- STS of a page. -/
def State.stsOf (s : State) (b : Block) (i : Nat) : Word :=
  match b with
  | .pwr => flag s.pwr.warn.isSome 0
  | .clk => flag s.pwr.paddle 0 ||| flag s.ratePending 1 ||| flag s.thermal 2 ||| flag s.pwr.refOk 3 ||| flag s.pwr.strokeLock 4 |||
      flag s.pwr.ksLock 5
  | .tim => flag s.tim.valid 0 ||| flag s.tim.slewing 1 ||| flag s.tim.rtcCont 2
  | .dual => flags 4 (fun r => decide ((s.req r).st ≠ 0)) ||| flag s.dual.boot 4 ||| (flags 4 fun r => (s.req r).granted) <<< 8
  | .mort =>
    let n := ((List.range 120).filter fun d => s.linkFenced d).length
    let pairs := (List.range 36).flatMap fun a => (List.range 36).map fun b => (a, b)
    let open_ (r : List Nat) : Bool := r.all fun d => !s.linkFenced d
    if n = 0 then 0
    else
      w32 n ||| flag (pairs.any fun p => !open_ (routeXY p.1 p.2) && (s.route? p.1 p.2).isSome) 7 |||
        flag (pairs.any fun p => !open_ (routeXY p.1 p.2) && !open_ (routeYX p.1 p.2) && (s.route? p.1 p.2).isSome) 8
  | .cox =>
    let x := s.cx i
    flag x.active 0 ||| flag x.swap.isSome 1 ||| flag x.ready 2 ||| w32 ((if s.pfence i 8 then 3 else x.role % 4) * 2 ^ 3) |||
      w32 ((x.heats.filter fun h => !h.ended).length % 256 * 2 ^ 8)
  | .pke =>
    let c := s.clu i
    flag c.ucValid 0 ||| flag c.loading 1 ||| flag (!c.exhausted) 2 ||| flag (s.reseedReq i) 3 |||
      flag ((clusterPairs i).any fun q => decide ((s.pkeU q).st = .test)) 4
  | .hsh | .cip =>
    let b' := decide (b = .cip)
    flags 16 (fun k => decide ((s.hc b' k).st ≠ .idle)) ||| (flags 16 fun k =>
      let x := s.hc b' k
      x.key.isSome || x.hash.isSome || decide (x.handle ≠ 0) || (List.range 16).any fun j => decide (s.word (unitBase b' k + 4 * j) ≠ TWord.none)) <<< 16
  | .ptn => flag s.ptn.wrapKey.isSome 0 ||| flag (!s.ptn.bbPend.isEmpty) 1 ||| flag s.ptn.drained 2
  | .jnl => flag (s.enabled .jnl 0 && !s.jnlHalted) 0 ||| flag s.jnlStopped 1 ||| flag s.jnl.retry.isSome 2
  | .sgm =>
    let x := s.sg i
    flag x.trained 0 ||| w32 (x.st % 4 * 2) ||| flag x.selfRef 3 ||| flag x.keyed 4 ||| flag x.survivor 5
  | .eth =>
    let x := s.ethP i
    flag x.link 0 ||| w32 (x.speed % 4 * 2) ||| flag (s.pairOk i) 3 ||| flag (s.sisterPort i) 4 ||| w32 (x.rasm.length % 32 * 2 ^ 8)
  | .pci =>
    let p := s.pci
    w32 (if p.dlUp then p.gen % 8 + p.width % 16 * 8 + 2 ^ 7 else 0) ||| w32 (p.numVfs % 128 * 2 ^ 8) ||| flag p.vfEnable 15 ||| flag p.ari 16
  | .vfm => w32 (1024 - s.qpGranted) ||| w32 ((2048 - s.vecOwned) * 2 ^ 11)
  | .kst => w32 (s.kst.stage % 8) ||| flag s.kst.twin 3 ||| flag s.kst.trngOk 4 ||| flag s.kst.newSeal 5
  | .lcs =>
    let unused := ((List.range 8).filter fun k => decide (Sparse.get (0 : BitVec 64) s.lcs.tokens k = 0)).length
    w32 s.lcState ||| flag s.lcs.busy 4 ||| flag s.lcs.erased 5 ||| w32 (unused * 2 ^ 6) ||| w32 (s.lcs.result % 8 * 2 ^ 10)
  | .tmp => flag s.aon.hold 0 ||| flag s.aon.lock 1 ||| flag s.aon.erased 2 ||| flag (!s.tmp.testing.isEmpty) 3 ||| w32 (s.levelMax * 2 ^ 4)
  | .elg =>
    let q := s.tmp.qTamper.length + s.tmp.qFirm.length
    flag s.elgNear 0 ||| flag s.elgFull 1 ||| flag s.elgReserveFull 2 ||| flag s.logBusy 3 ||| w32 (min q 136 * 2 ^ 8)
  | .flc => s.flcSts
  | .jnt => flag s.jnt.up 0 ||| flag s.jnt.keyed 1
  | .sdh =>
    let x := s.sdh
    flag x.present 0 ||| flag x.wp 1 ||| flag x.v18 2 ||| w32 (x.mode % 16 * 2 ^ 3) ||| flag x.busy 7 ||| flag x.retain 8 ||| flag x.done 9 |||
      flag x.change 10
  | .nfc => flag s.nfc.ext 0 ||| flag s.nfc.rfOn 1 ||| flag s.nfc.quiet.isSome 2
  | .dbg => w32 (s.dbgRights.toNat % 16) ||| flag s.dbg.pending 4 ||| flag s.dbg.port 5
  | _ => 0

/-! ### Event levels (R34-R37) -/

/-- Level of event k of a page: 0 is the sticky event. -/
def State.pageLevel (s : State) (b : Block) (i k : Nat) : Bool :=
  if k = 0 then decide (s.stky b i &&& s.reg b i 0x014 ≠ 0)
  else match b, k with
    | .sys, 1 => decide (s.svc = 2) || decide (s.svc = 3)
    | .sys, _ => decide (s.pairM.role = 3) || (bit (s.reg .sys 0 0x48) 0 && !s.pairM.link)
    | .pwr, 1 => s.pwr.warn.isSome
    | .pwr, _ => (List.range 36).any fun d => decide (s.domState d = .waking)
    | .clk, 1 => s.ratePending
    | .clk, _ => s.thermal
    | .tim, _ => !s.tim.valid
    | .dual, _ => (List.range 4).any fun r => decide ((s.req r).st ≠ 0)
    | .mort, _ => (List.range 120).any fun d => s.linkFenced d
    | .dbg, 1 => decide (s.dbgRights ≠ 0)
    | .dbg, _ => s.dbg.pending
    | .cox, 1 => (List.range 16).any fun t => s.tileStopped i t
    | .cox, 2 => (s.cx i).swap.isSome
    | .cox, _ => s.queueFull i
    | .pke, 13 => s.reseedReq i
    | .pke, 14 => !(s.clu i).ucValid
    | .pke, j => (s.pkeU (12 * i + (j - 1))).result
    | .hsh, j => (s.hc false (j - 1)).result
    | .cip, j => (s.hc true (j - 1)).result
    | .ptn, 1 => !s.ptn.ckpt.isEmpty
    | .ptn, 2 => bit (s.reg .ptn 0 0x44) 1
    | .ptn, _ => s.ptn.bbPend.any fun e => decide (1200000 < s.stroke - e.2)
    | .sgn, _ => bit (s.reg .sgn 0 0x44) 1
    | .jnl, 1 => decide (3774874 ≤ s.jnl.next - s.jnl.exported)
    | .jnl, 2 => s.jnlHalted
    | .jnl, _ => (List.range 16).any fun c => s.courseRingFull c
    | .sgm, 1 => s.regBit .sgm i 0x40 0
    | .sgm, 2 => (s.sg i).selfRef
    | .sgm, 3 => decide ((s.sg i).st = 3)
    | .sgm, _ => bit (s.reg .sgm i 0xB4) 1
    | .eth, 1 => s.enabled .eth i && !(s.ethP i).link
    | .eth, 2 => decide (0 < (s.ethP i).count)
    | .eth, 3 => (s.ethP i).tsValid
    | .eth, 4 => (s.ethP i).sess.any fun e => e.2.en && decide (e.2.st ≠ 3)
    | .eth, _ => decide (s.ethPair i ≠ 0) && !s.pairOk i
    | .fsp, j =>
      let p := 16 * i + (j - 1)
      decide (s.fsR p 0x1C &&& s.fsR p 0x20 ≠ 0)
    | .pci, 1 => !s.pci.dlUp
    | .pci, _ => s.pci.busy
    | .vfm, 1 => s.pci.fn.any fun e => e.2.settled && !e.2.ack
    | .vfm, _ => s.pci.commit
    | .kst, 1 => decide (s.kst.stage = 2) || decide (s.kst.stage = 3)
    | .kst, _ => !s.kst.trngOk
    | .jnt, 1 => !s.jnt.up
    | .jnt, _ => !s.jnt.keyed
    | .lcs, 1 => s.lcs.busy
    | .lcs, _ => (List.range 8).any fun t => decide (Sparse.get (0 : BitVec 64) s.lcs.tokens t = tokOpen)
    | .tmp, 1 => s.aon.hold || s.aon.lock
    | .tmp, _ => (List.range 128).any fun m => s.alarm m
    | .elg, 1 => s.elgNear
    | .elg, _ => s.elgFull
    | .flc, 1 => s.flc.done
    | .flc, _ => bit (s.reg .flc 0 0x80) 31
    | .crd, j => if j ≤ 4 then (s.slot (j - 1)).done else (s.slot (j - 5)).change
    | .sdh, 1 => s.sdh.done
    | .sdh, 2 => s.sdh.change
    | .sdh, _ => s.sdh.retain
    | .nfc, 1 => s.nfc.done
    | .nfc, 2 => s.nfc.change
    | .nfc, 3 => s.nfc.trecDone
    | .nfc, _ => s.nfc.contact
    | _, _ => false

/-- Level of an event source: a software event in the stroke of its pulse, a monitor's alarm, or a page's event; reserved events read 0
(R35, R37, R418). -/
def State.evtLevel (s : State) (ev : Nat) : Bool :=
  if evtSoftware ev then s.swNow.contains ev
  else if 64 ≤ ev ∧ ev ≤ 191 then s.alarm (ev - 64)
  else evtHasSource ev && (match evtOwner ev with | some (pg, k) => s.pageLevel pg.block pg.inst k | none => false)

/-! ### Registers by page -/

/-- Computed registers of the system pages. -/
def State.readSystem (s : State) (b : Block) (off : Nat) : Option Word :=
  match b with
  | .sys =>
    match off with
    | 0x40 => some (w32 s.svc ||| flag s.aon.hold 2 ||| flag s.aon.lock 3 ||| (s.reg .sys 0 0x40 &&& 0x100))
    | 0x4C =>
      let p := s.pairM
      some (w32 (p.role % 4) ||| flag p.peer 2 ||| flag p.link 3 ||| flag p.eligible 4 ||| flag p.alone 5 ||| flag p.resync 6)
    | _ => none
  | .evt =>
    if off = 0x44 then some (s.route (fld (s.reg .evt 0 0x40) 0 11))
    else if 0x300 ≤ off ∧ off < 0x400 then some (flags 32 fun j => s.evtLevel ((off - 0x300) / 4 * 32 + j))
    else none
  | .pwr =>
    if 0x40 ≤ off ∧ off < 0x4C then
      some (fields 16 2 fun j => let d := (off - 0x40) / 4 * 16 + j; if d < 36 then (s.domState d).code else 0)
    else if off = 0x4C ∨ off = 0x50 then some (flags 32 fun j => let d := (off - 0x4C) / 4 * 32 + j; decide (d < 36) && s.domNeed d)
    else none
  | .clk =>
    if 0x50 ≤ off ∧ off < 0x74 then some (flags 32 fun j => let k := (off - 0x50) / 4 * 32 + j; decide (k < 264) && s.clockRuns k) else none
  | .rst => if off = 0x40 then some ((s.aon.cause &&& 0xFFF) ||| w32 (s.aon.boots * 2 ^ 16)) else none
  | .tim =>
    match off with
    | 0x40 => some (half s.secNow false)
    | 0x44 => some (half s.secNow true)
    | 0x64 => some (half (s.aon.shutdown.getD (2 ^ 64 - 1)) false)
    | 0x68 => some (half (s.aon.shutdown.getD (2 ^ 64 - 1)) true)
    | _ => none
  | .mort =>
    match off with
    | 0x44 =>
      let d := fld (s.reg .mort 0 0x40) 0 7
      let l := s.link d
      some (w32 (l.corr % 2 ^ 16) ||| w32 (l.uncorr % 2 ^ 8 * 2 ^ 16) ||| flag (s.linkFenced d) 24 ||| flag l.testOk 25 ||| flag l.testFail 26)
    | 0x60 => some (w32 (min s.mort.freeWait (2 ^ 32 - 1)))
    | 0x74 => some s.resEntry.w0
    | 0x78 => some s.resEntry.w1
    | _ => none
  | .dbg =>
    if 0x40 ≤ off ∧ off < 0x50 then some (s.dbg.chal.getD ((off - 0x40) / 4) 0)
    else if off = 0x58 then some ((s.reg .dbg 0 0x58 &&& 0x1FF) ||| flag s.dbgHalted 12)
    else none
  | _ => none

/-- Computed registers of DUAL and of an ACU page (R383, R384). -/
def State.readControl (s : State) (b : Block) (i off : Nat) : Option Word :=
  match b with
  | .dual =>
    let x := s.req (fld (s.reg .dual 0 0x4C) 0 2)
    let app (j : Nat) : Option App := match x.apps.find? fun e => decide (e.1 = j) with | some e => some e.2 | none => none
    if off = 0x54 then
      some (w32 (x.st % 4) ||| flag x.stale 2 ||| flag x.granted 3 ||| w32 (x.result % 8 * 2 ^ 4) ||| w32 (x.page % 16 * 2 ^ 7))
    else if 0x80 ≤ off ∧ off < 0x90 then some (((toWords (leBytes 8 x.epoch ++ leBytes 8 x.serial))).getD ((off - 0x80) / 4) 0)
    else if 0x90 ≤ off ∧ off < 0xC0 then some ((toWords x.digest).getD ((off - 0x90) / 4) 0)
    else if 0x100 ≤ off ∧ off < 0x110 then
      match app ((off - 0x100) / 4) with
      | some a => some (w32 a.kind ||| flag (s.appLive a) 2 ||| w32 ((a.atMs + 60000 - s.wallMs) % 2 ^ 16 * 2 ^ 3))
      | none => some 0
    else if 0x110 ≤ off ∧ off < 0x120 then
      match app ((off - 0x110) / 4) with
      | some a => some (w32 a.ident)
      | none => some 0
    else none
  | .acu =>
    let key (o : Nat) : Nat := acuKey i (fld (s.reg .acu i 0x40) 0 7) ((o - 0x100) / 8)
    let pick (o : Nat) (base attr : List (Nat × Word)) : Option Word := some (Sparse.get 0 (if o % 8 = 0 then base else attr) (key o))
    if 0x100 ≤ off ∧ off < 0x180 then pick off s.acuBase s.acuAttr
    else if 0x900 ≤ off ∧ off < 0x980 then pick (off - 0x800) s.acuBaseSh s.acuAttrSh
    else none
  | _ => none

/-- Computed registers of the course and unit pages. FT_DATA0 reads the stored word of the selected entry, also while a word written to
it waits for FT_DATA1: R141 does not say which (DESIGN CHOICE, log entry 89). -/
def State.readUnits (s : State) (b : Block) (i off : Nat) : Option Word :=
  match b with
  | .cox =>
    match off with
    | 0x4C => some (s.ftEntry i).w0
    | 0x50 => some (s.ftEntry i).w1
    | 0x60 => some (flags 16 fun t => s.tileStopped i t)
    | 0x70 => some ((s.reg .cox i 0x70 &&& 0xFFFFFF00) ||| w32 (min (s.cx i).waiting.length 255))
    | _ => none
  | .pke =>
    let sel := 12 * i + fld (s.reg .pke i 0x54) 0 4
    match off with
    | 0x40 => some (fields 8 4 fun j => (s.pkeU (12 * i + j)).st.code)
    | 0x44 => some (fields 4 4 fun j => (s.pkeU (12 * i + 8 + j)).st.code)
    | 0x54 => some ((s.reg .pke i 0x54 &&& 0xF) ||| flag (s.pkeU sel).passed 5 ||| flag (s.pkeU sel).failed 6)
    | 0x68 => some ((s.reg .pke i 0x68 &&& 0x7F) ||| flag (s.clu i).ucValid 7 ||| w32 (s.ucFloor % 128 * 2 ^ 8))
    | 0x70 => some (w32 (min ((s.clu i).draws - (s.clu i).uncounted) (2 ^ 32 - 1)))
    | _ => none
  | .hsh | .cip =>
    let c := decide (b = .cip)
    let x := s.hc c (fld (s.reg b 0 0x54) 0 4)
    match off with
    | 0x40 => some (fields 8 4 fun j => (s.hc c j).st.code)
    | 0x44 => some (fields 8 4 fun j => (s.hc c (8 + j)).st.code)
    | 0x54 => some ((s.reg b 0 0x54 &&& 0xF) ||| flag x.passed 5 ||| flag x.failed 6)
    | _ => none
  | .ptn =>
    let hw := match s.ptn.ckpt with | e :: _ => e.2 | [] => 0
    match off with
    | 0x44 => some ((s.reg .ptn 0 0x44 &&& 0xE) ||| flag s.ptn.load.isSome 0)
    | 0x58 => match s.ptn.ckpt with | e :: _ => some (w32 e.1 ||| flag true 31) | [] => some 0
    | 0x5C => some (half hw false)
    | 0x60 => some (half hw true)
    | _ => none
  | .sgn => if off = 0x44 then some ((s.reg .sgn 0 0x44 &&& 0xE) ||| flag s.ptn.sgnLoad.isSome 0) else none
  | .jnl =>
    match off with
    | 0x80 => some (half s.jnl.next false)
    | 0x84 => some (half s.jnl.next true)
    | 0x88 => some (half s.jnl.exported false)
    | 0x8C => some (half s.jnl.exported true)
    | 0xC0 => some (flags 16 (fun c => s.jnl.slots.any fun e => decide (e.1 / 256 = c) && decide (e.2.st = 2)) |||
        (flags 16 fun c => s.courseRingFull c) <<< 16)
    | _ => none
  | .sgm =>
    if off = 0x58 then some (w32 (s.sg i).resilver)
    else if (0x80 ≤ off ∧ off < 0xA0 ∧ i ≠ 0) ∨ (0x880 ≤ off ∧ off < 0x8A0 ∧ i ≠ 0) ∨ (0xA0 ≤ off ∧ off < 0xB8 ∧ i ≠ 0 ∧ i ≠ 4) then some 0
    else none
  | _ => none

/-- Computed registers of the link and host pages. -/
def State.readLinks (s : State) (b : Block) (i off : Nat) : Option Word :=
  match b with
  | .eth =>
    let x := s.ethP i
    let e := x.ses (fld (s.reg .eth i 0xD0) 0 8)
    match off with
    | 0xD4 => some e.data0
    | 0xD8 => some e.data1
    | 0xDC => some e.data2
    | 0xE0 => some ((e.data3 &&& 0xFFFF) ||| w32 (e.st % 8 * 2 ^ 16))
    | 0x100 => some (w32 (x.head % 4) ||| w32 (x.count % 8 * 4))
    | 0x108 => some ((s.reg .eth i 0x108 &&& 0xFF) ||| flag x.tsValid 9)
    | 0x10C => some (half x.tsStamp false)
    | 0x110 => some (half x.tsStamp true)
    | _ => none
  | .fsp =>
    if off = 0x40 then some (flag (s.pwr.vioHigh.contains i) 0 ||| flag (!s.pwr.vioBad.contains i) 1)
    else if 0x100 ≤ off ∧ off < 0x500 ∧ off % 64 = 0x18 then
      let k := 16 * i + (off - 0x100) / 64
      let x := s.fsP k
      some (flag (decide (x.phase = .sending)) 0 ||| flag x.de 1 ||| flag (!x.rx.isEmpty) 2 ||| flag x.brk 3 |||
        w32 (min (s.egq (64 + k)).length 8 * 2 ^ 4))
    else none
  | .pci =>
    match off with
    | 0x40 => some (w32 (Config.vendorId.toNat + 0x9016 * 2 ^ 16))
    | 0x44 => some (flag s.pci.busy 0)
    | _ => none
  | .vfm =>
    let f := fld (s.reg .vfm 0 0x40) 0 7
    let x := s.fn f
    match off with
    | 0x44 => some (w32 x.st.code ||| flag x.settled 2 ||| flag x.exported 3 ||| flag x.ack 4 ||| w32 (x.inflight * 2 ^ 16))
    | 0x4C => some (w32 x.qp)
    | 0x50 => some (w32 (x.share % 2 ^ 16 + x.jquota % 2 ^ 13 * 2 ^ 16))
    | 0x54 => some (w32 (x.vecBase % 2 ^ 11 + x.vecCount % 2 ^ 8 * 2 ^ 11))
    | 0x60 => some (fPsetRead s).2
    | 0x64 => some (w32 (s.jheld f))
    | _ => none
  | _ => none

/-- Computed registers of the Keystone pages. -/
def State.readKeystone (s : State) (b : Block) (off : Nat) : Option Word :=
  match b with
  | .kst =>
    match off with
    | 0x44 => some (fTrng s).2
    | 0x48 => some (half s.lcs.uid false)
    | 0x4C => some (half s.lcs.uid true)
    | 0x50 => some (w32 (s.kst.version % 2 ^ 16 + s.otpCount 1 % 2 ^ 16 * 2 ^ 16))
    | _ => none
  | .lcs =>
    match off with
    | 0x40 => some (half s.lcs.word.toNat false)
    | 0x44 => some (half s.lcs.word.toNat true)
    | 0x48 => some (fields 8 2 fun k =>
        let t := Sparse.get (0 : BitVec 64) s.lcs.tokens k
        if t = 0 then 0 else if t = tokOpen then 1 else if t = tokClosed then 2 else 3)
    | _ => none
  | .tmp =>
    if 0x50 ≤ off ∧ off < 0x60 then some (w32 (s.tmp.live.toNat / 2 ^ (8 * (off - 0x50))))
    else if off = 0x90 then some ((s.reg .tmp 0 0x90 &&& 0x7F) ||| flag (!s.tmp.testing.isEmpty) 9)
    else if off = 0xB0 then some (w32 (s.aon.ring.length % 128 + s.aon.ringOver * 2 ^ 16))
    else if 0x400 ≤ off ∧ off < 0x800 then
      match s.aon.ring[(off - 0x400) / 16]? with
      | some e => some ((toWords e.bytes).getD ((off - 0x400) % 16 / 4) 0)
      | none => some 0
    else none
  | .elg =>
    if off = 0x40 then some (w32 s.tmp.next)
    else if 0x70 ≤ off ∧ off < 0x80 then some ((toWords (s.elgChain s.tmp.next)).getD ((off - 0x70) / 4) 0)
    else none
  | .flc =>
    match off with
    | 0x74 => some (flag s.flc.swapSel 0 ||| flag s.flc.swapValid 1)
    | 0x78 => some (w32 s.flc.swapSeq)
    | 0x7C => some (w32 (s.flc.spares0 % 32 + s.flc.spares1 % 32 * 2 ^ 8))
    | _ => none
  | .jnt =>
    match off with
    | 0x40 => some (w32 s.jnt.tx.epoch)
    | 0x44 => some (w32 s.jnt.rx.exEp)
    | 0x48 => some (w32 s.jnt.tx.sent)
    | 0x4C => some (w32 s.jnt.rx.got)
    | _ => none
  | .crd =>
    if 0x100 ≤ off ∧ off < 0x200 then
      let x := s.slot ((off - 0x100) / 64)
      match off % 64 with
      | 0x08 => some (w32 (x.st % 8 + x.cls % 4 * 2 ^ 3) ||| flag x.proto 5 ||| flag x.clkStop 6 ||| flag x.done 7 ||| w32 (x.result % 16 * 2 ^ 8) |||
          flag x.change 12 ||| w32 (x.rxlen % 2 ^ 9 * 2 ^ 13 + x.atrlen % 2 ^ 6 * 2 ^ 22))
      | 0x0C => some (w32 (x.fidi % 256 + x.div % 64 * 2 ^ 8))
      | _ => none
    else if 0x400 ≤ off ∧ 0x2A4 ≤ (off - 0x400) % 0x300 then some 0
    else none
  | .nfc =>
    let x := s.nfc
    match off with
    | 0x48 => some (w32 (x.st % 8) ||| flag x.typ 3 ||| w32 (x.rate % 4 * 2 ^ 4) ||| flag x.done 6 ||| w32 (x.result % 16 * 2 ^ 7) |||
        flag x.change 11 ||| w32 (x.rxlen % 2 ^ 9 * 2 ^ 12))
    | 0x64 => some (flag x.trecDone 3)
    | 0x94 => some (w32 (x.failOf 0 % 16 + x.failOf 1 % 16 * 2 ^ 4 + x.failOf 2 % 16 * 2 ^ 8))
    | 0x98 => some (w32 x.qtime)
    | _ => none
  | _ => none

/-- SC bits that read 1: their action runs (R9). An action that is over within its own stroke never reads 1. -/
def State.scBits (s : State) (b : Block) (i off : Nat) : Word :=
  match b, off with
  | .jnt, 0x08 => flag s.jnt.tx.rekey 2
  | .rst, 0x48 => flag (s.pwr.courseRst.any fun e => decide (e.1 = fld (s.reg .rst 0 0x48) 8 4)) 2
  | .dual, 0x50 => flag (decide ((s.req (fld (s.reg .dual 0 0x4C) 0 2)).st = 1)) 0
  | .mort, 0x48 => flag s.mort.test.isSome 0
  | .cox, 0x6C => flag (s.cx i).ptest.isSome 4
  | .pke, 0x54 => flag (decide ((s.pkeU (12 * i + fld (s.reg .pke i 0x54) 0 4)).st = .test)) 4
  | .hsh, 0x54 | .cip, 0x54 => flag (decide ((s.hc (decide (b = .cip)) (fld (s.reg b 0 0x54) 0 4)).st = .test)) 4
  | .ptn, 0x40 => flag s.ptn.load.isSome 16
  | .ptn, 0x64 => flag (s.ptn.draining && !s.ptn.drained) 0
  | .sgn, 0x40 => flag s.ptn.sgnLoad.isSome 16
  | .sgm, 0x44 => flag (s.sg i).training 0
  | .sgm, 0xB4 => flag ((decide (i = 0) && s.moverW) || (decide (i = 4) && s.moverE)) 0
  | .eth, 0x108 => flag (s.ethP i).ptpBusy 8
  | .vfm, 0x58 => flag s.pci.commit 0
  | .lcs, 0x4C => flag s.lcs.busy 4
  | .tmp, 0x90 => flag (!s.tmp.testing.isEmpty && !s.tmp.sweep) 7 ||| flag (!s.tmp.testing.isEmpty && s.tmp.sweep) 8
  | .sdh, 0x48 => flag (s.sdh.busy && !s.sdh.rewrite) 31
  | .sdh, 0x6C => flag (s.sdh.busy && s.sdh.rewrite) 0
  | .nfc, 0x44 => flag (decide (s.nfc.st = 2)) 0 ||| flag (decide (s.nfc.st = 4)) 2
  | .crd, _ =>
    if 0x100 ≤ off ∧ off < 0x200 ∧ off % 64 = 4 then
      let x := s.slot ((off - 0x100) / 64)
      flag (decide (x.st = 2)) 0 ||| flag (decide (x.st = 4)) 2
    else 0
  | _, _ => 0

/-- A register's value: header first (R27), then a page's computed registers, then the stored cell; with the SC bits whose action runs. -/
def State.live (s : State) (pg : PageRef) (off : Nat) : Word :=
  let b := pg.block
  let i := pg.inst
  match off with
  | 0x000 => w32 (b.code * 2 ^ 24 + i * 2 ^ 16 + 0xB1)
  | 0x004 => pageCap b i
  | 0x008 => s.reg b i 0x008 ||| s.scBits b i 0x008
  | 0x00C => s.stsOf b i
  | 0x018 => w32 (evtBase b i + evtCount b * 2 ^ 16)
  | _ =>
    if off < 0x028 then s.reg b i off
    else if off < 0x040 then 0
    else s.scBits b i off |||
      ((((s.readSystem b off).or (s.readControl b i off)).or (s.readUnits b i off)).or ((s.readLinks b i off).or (s.readKeystone b off))).getD
        (s.plain b i off)

/-! ### Reads with an effect (R30, R141, R160, R276, R343, R399) -/

/-- LO registers of the pairs that are read LO first, by page (R30 and the tables that name it). -/
def loRegs (b : Block) (off : Nat) : Bool :=
  decide (off = 0x020) ||
    match b with
    | .tim => [0x40, 0x54, 0x64].contains off
    | .acu => [0x48, 0x50].contains off
    | .ptn => decide (off = 0x5C)
    | .jnl => decide (off = 0x80)
    | .sgm => decide (off = 0x50)
    | .eth => decide (off = 0xE4) || decide (off = 0x10C)
    | .fsp => decide (0x100 ≤ off) && decide (off < 0x500) && decide (off % 64 = 0x24)
    | .kst => decide (off = 0x48)
    | .lcs => decide (off = 0x40)
    | _ => false
/-- HI registers of those pairs. -/
def hiRegs (b : Block) (off : Nat) : Bool := decide (4 ≤ off) && loRegs b (off - 4)

/-- A read of a register: its word and what the read does. A LO register copies its HI register into the holding register, a HI register
returns that copy (R30). -/
def State.regRead (s : State) (pg : PageRef) (off : Nat) : State × Word :=
  let b := pg.block
  let i := pg.inst
  if b = .cox ∧ off = 0x50 then fFtRead i s
  else if b = .mort ∧ off = 0x78 then fResRead s
  else if b = .ptn ∧ off = 0x60 then fCkptPop s
  else if b = .eth ∧ off = 0x110 then fPtpTsHi i s
  else if b = .vfm ∧ off = 0x60 then fPsetRead s
  else if b = .kst ∧ off = 0x44 then fTrng s
  else if loRegs b off then (s.holdHi b i (off + 4) (s.live pg (off + 4)), s.live pg off)
  else if hiRegs b off then (s, Sparse.get 0 s.held (regKey b i off))
  else (s, s.live pg off)

end Sys2Proof.Machine
end

