-- ==== Sys2Proof/Machine/RegWrite.lean ====
section
/-! DEFINITION. What a write of every register of every page does (R9, R29, R32 and the register tables), CTL.SOFT_RESET (R510), and the
general register rows. -/

namespace Sys2Proof.Machine

/-! ### CTL -/

/-- A write of CTL without SOFT_RESET: ENABLE and the block's own bits. -/
def State.ctlWrite (s : State) (m : Master) (pg : PageRef) (v : Word) : State :=
  match pg.block with
  | .eth => fEthEnable pg.inst v s
  | .jnl => fJnlEnable v s
  | .kst => fKstCtl v s
  | .jnt => fJntCtl v s
  | .dbg => fDbgCtl m v s
  | .dual => fBootDone v s
  | b => s.setReg b pg.inst 0x008 (v &&& ctlMask b)

/-! ### SOFT_RESET (R510) -/

/-- A session closes with FIN and its entry returns to reset. -/
def State.sesClear (s : State) (g n : Nat) : State :=
  let s1 := if ((s.ethP g).ses n).st = 0 then s else (s.sesLeave g n 0).emit (.session g n 2)
  s1.setSes g n {}
/-- What a SOFT_RESET does besides returning register cells: effects of the values that change, and records outside the cells. -/
def State.softEffects (s : State) (pg : PageRef) : State :=
  let i := pg.inst
  match pg.block with
  | .sys => fServe 0 s
  | .evt =>
    { s with routes := [], sent := [] }
  | .dual => { s with dual := { s.dual with req := [] } }
  | .mort =>
    { s with mort := { s.mort with resHold := 0, freeWait := 0, link := s.mort.link.filterMap fun (e : Nat × Link) =>
        if e.2.lastUe.isSome then some (e.1, ({ lastUe := e.2.lastUe } : Link)) else none } }
  | .cox => s.updCx i fun x => { x with ftHold := 0 }
  | .pke =>
    let s1 := (clusterPairs i).foldl (fun s q => s.updPke q fun x => { x with passed := false, failed := false }) (fPkeOwned i 0 s)
    s1.updClu i fun c => { c with seedSet := [], uncounted := c.draws }
  | .hsh => (List.range 16).foldl (fun s k => s.updHc false k fun x => { x with passed := false, failed := false }) (fUnitOwned false 0 s)
  | .cip => (List.range 16).foldl (fun s k => s.updHc true k fun x => { x with passed := false, failed := false }) (fUnitOwned true 0 s)
  | .jnl => { s with jnl := { s.jnl with genesis := [] } }
  | .eth =>
    let s1 := fEthEnable i 0 s
    let s2 := (s1.ethP i).sess.foldl (fun s e => s.sesClear i e.1) s1
    s2.updEth i fun x => { x with head := 0, count := 0, tsValid := false, tsStamp := 0 }
  | .fsp => (List.range 16).foldl (fun s j => if s.fsEn (16 * i + j) then fFsCfg (16 * i + j) 0 s else s) s
  | .vfm =>
    (List.range 128).foldl (fun s f => s.updFn f fun x =>
      { x with qpNext := 0, shareNext := 0xFFFF, jquotaNext := 256, psetNext := []
               vecBase := if x.st = .quiet then 0 else x.vecBase, vecCount := if x.st = .quiet then 0 else x.vecCount }) s
  | .crd => (List.range 4).foldl (fun s n => s.updSlot n fun x => { x with done := false, change := false, result := 0, rxlen := 0 }) s
  | .flc => s.updFlc fun x => { x with done := false, error := false, code := 0 }
  | .sdh => s.updSdh fun x => { x with done := false, change := false }
  | .nfc => s.updNfc fun x => { x.off 0 with done := false, change := false, result := 0, rxlen := 0, badges := 0, trecDone := false, qtime := 10 }
  | .dbg => s.updDbg fun d => { d with cert := [] }
  | _ => s
/-- A register cell that SOFT_RESET keeps: sticky and first-fault records, committed RWP values, and what a block's own rule keeps. -/
def State.softKeeps (s : State) (pg : PageRef) (off : Nat) : Bool :=
  let b := pg.block
  [0x010, 0x01C, 0x020, 0x024].contains off || (rwpOffs b pg.inst).contains off ||
    match b with
    | .fsp => decide (0x100 ≤ off) && decide (off < 0x500) && decide (off % 64 = 0x1C)
    | .crd => decide (0x100 ≤ off) && decide (off < 0x200) && decide (off % 64 = 0x10)
    | .tmp => (decide (0x40 ≤ off) && decide (off < 0x50)) || (decide (0x94 ≤ off) && decide (off < 0xA4)) || decide (off = 0xA8)
    | .flc => decide (off = 0x80)
    | .kst => (decide (off = 0x40) && bit (s.reg .kst 0 0x008) 2) || (decide (off = 0x54) && bit (s.reg .kst 0 0x54) 16)
    | .pke => decide (off = 0xBC)
    | .hsh | .cip => decide (off = 0x70)
    | .jnl => decide (0x80 ≤ off) && decide (off < 0xC0)
    | _ => false
/-- Cells of a page returned to reset, but for those kept. -/
def State.softCells (s : State) (pg : PageRef) : State :=
  let page := pg.block.code * 64 + pg.inst
  { s with regs := s.regs.filter fun e => decide (e.1 / 2 ^ 12 ≠ page) || s.softKeeps pg (e.1 % 2 ^ 12) }
/-- Every shadow returns to its committed value, and open requests that list the page become stale (R377, R510). -/
def State.softShadows (s : State) (pg : PageRef) : State :=
  let i := pg.inst
  if pg.block = .acu then
    let mine (e : Nat × Word) : Bool := decide (e.1 / 2048 = i)
    let back (sh com : List (Nat × Word)) : List (Nat × Word) :=
      (com.filter mine).foldl (fun l e => Sparse.set 0 l e.1 e.2) (sh.filter fun e => !mine e)
    ({ s with acuBaseSh := back s.acuBaseSh s.acuBase, acuAttrSh := back s.acuAttrSh s.acuAttr }).staleMark pg
  else ((rwpOffs pg.block i).foldl (fun s o => s.setReg pg.block i (0x800 + o) (s.reg pg.block i o)) s).staleMark pg
/-- SOFT_RESET: the reset, then ENABLE and the block's own bits of the same write (R510). -/
def State.softResetPage (s : State) (m : Master) (pg : PageRef) (v : Word) : State :=
  let lock := s.reg .kst 0 0x008 &&& 0xC
  let s1 := ((s.softEffects pg).softCells pg).softShadows pg
  let s2 := match pg.block with
    | .tim => s1.setReg .tim 0 0x48 (w32 s1.aon.holdover)
    | .kst => s1.setReg .kst 0 0x008 lock
    | _ => s1
  s2.ctlWrite m pg v

/-! ### Register writes by page: `none` where the general rule of R9 applies -/

/-- Refusal of a reserved code or of a write in the wrong state. -/
def State.orReject (s : State) (ok : Bool) (b : Block) (i off : Nat) (v : Word) (t : State) : State :=
  if ok then t else s.reject b i off v
/-- A plain write by R9: RW and WO fields take the value, RW1C fields clear where it is 1, the rest stays. -/
def State.plainWrite (s : State) (b : Block) (i off : Nat) (v : Word) : State :=
  match regRow b off with
  | none => s
  | some r => s.updReg b i off fun w => ((w &&& ~~~(r.rw ||| r.wo)) ||| (v &&& (r.rw ||| r.wo))) &&& ~~~(v &&& r.w1c)

/-- System pages. -/
def State.writeSystem (s : State) (m : Master) (b : Block) (off : Nat) (v : Word) : Option State :=
  let range (lo hi x : Nat) : Option State := some (s.orReject (decide (lo ≤ x) && decide (x ≤ hi)) b 0 off v (s.plainWrite b 0 off v))
  match b, off with
  | .sys, 0x40 => some (fServe v s)
  | .sys, 0x50 => some (fPairKick v s)
  | .evt, 0x44 => some (fEvtRdata v s)
  | .evt, 0x48 => some (fEvtSwset v s)
  | .evt, _ =>
    if 0x100 ≤ off ∧ off < 0x200 then some (fEvtPend ((off - 0x100) / 4) v s)
    else if 0x200 ≤ off ∧ off < 0x300 then some (fEvtMask ((off - 0x200) / 4) v s)
    else none
  | .pwr, 0x64 => some (fOffReq v s)
  | .pwr, 0x68 => range 10 60000 (fld v 0 16)
  | .clk, 0x44 =>
    some (s.orReject (decide (60 ≤ fld v 8 8) && decide (fld v 8 8 ≤ 110) && decide (fld v 16 8 < fld v 8 8)) b 0 off v (s.plainWrite b 0 off v))
  | .rst, 0x44 => some (fCauseClear v s)
  | .rst, 0x48 => some (fRstReq v s)
  | .tim, 0x48 => range 60 86400 (fld v 0 17)
  | .tim, 0x4C => range 1 1000000 (fld v 0 20)
  | .tim, 0x50 => some (fTimAdj v s)
  | .mort, 0x40 => range 0 119 (fld v 0 7)
  | .mort, 0x48 => some (fLinkTest v s)
  | .mort, 0x74 => some { s with mort := { s.mort with resHold := v } }
  | .mort, 0x78 => some (fResData1 v s)
  | .dbg, 0x50 => some (fDbgSubmit v s)
  | .dbg, 0x54 => some (s.ksOnly m .dbg 0 0x54 v (fDbgGrant v))
  | .dbg, 0x58 => some (fDbgHalt m v s)
  | .dbg, 0x60 => range 0 1535 (fld v 0 11)
  | .dbg, 0x64 => some (fCertData v s)
  | _, _ => none

/-- DUAL and ACU pages (R383, R384). -/
def State.writeControl (s : State) (b : Block) (i off : Nat) (v : Word) : Option State :=
  match b, off with
  | .dual, 0x48 =>
    some (s.orReject (!s.dual.epochSet) .dual 0 off v { s.plainWrite .dual 0 off v with dual := { s.dual with epochSet := true } })
  | .dual, 0x50 => some (fReqCtl v s)
  | .dual, 0xF8 => some (fAppCtl v s)
  | .dual, 0xFC => some (fCommit v s.pairM.peer none s)
  | .acu, 0x40 => some (s.orReject (decide (fld v 0 7 < acuContexts i)) .acu i off v (s.plainWrite .acu i off v))
  | .acu, 0x5C => some (fViolClear i v false s)
  | _, _ => none

/-- A write of FT_AUDIT (R123, R142): Keystone firmware places the policy sections, sets PASS only where the combined audit passes, and
writes COVER with it (R351, log entry 98). A course whose domain is ON is ready then (R137, R481). -/
def State.ftAudit (s : State) (c : Nat) (v : Word) : State :=
  let s0 := s.placePolicies
  let pass := bit v 0 && s0.combinedAudit
  let s1 := s0.setReg .cox c 0x54 (putBit (v &&& 0xFFFF0001) 0 pass)
  if pass then
    let s2 := ({ s1 with audit := some s.stroke } : State).setRegBit .cox c 0x6C 7 (s1.courseCover c)
    if s.domState (7 + c) = .on then (s2.loadCourse c).updCx c fun x => { x with ready := true } else s2
  else s1
/-- Course, engine, hash and cipher pages. -/
def State.writeUnits (s : State) (m : Master) (b : Block) (i off : Nat) (v : Word) : Option State :=
  match b, off with
  | .cox, 0x4C => some (s.updCx i fun x => { x with ftHold := v })
  | .cox, 0x50 => some (fFtData1 i v s)
  | .cox, 0x54 => some (s.ftAudit i v)
  | .cox, 0x6C => some (fPtestStart i v s)
  | .cox, 0x74 => some (fShadowBase i v s)
  | .pke, 0x48 => some (fPkeOwned i v s)
  | .pke, 0x50 => some (fPkeAbort i v s)
  | .pke, 0x54 => some (fPkeSelftest i v s)
  | .pke, 0x58 => some (fPkeFreeAck i v s)
  | .pke, 0x5C => some (s.ksOnly m .pke i off v (fUcCtl i v))
  | .pke, 0x60 => some (s.ksOnly m .pke i off v fun s => s.plainWrite .pke i off v)
  | .pke, 0x64 => some (s.ksOnly m .pke i off v (fUcData i v))
  | .pke, 0x6C => some (s.ksOnly m .pke i off v (fDrbgReseed i v))
  | .pke, _ =>
    if 0x80 ≤ off ∧ off < 0xB0 then some (s.ksOnly m .pke i off v (fDrbgSeed i ((off - 0x80) / 4) v)) else none
  | .hsh, 0x48 => some (fUnitOwned false v s)
  | .hsh, 0x50 => some (fUnitAbort false v s)
  | .hsh, 0x54 => some (fUnitSelftest false v s)
  | .hsh, 0x58 => some (fUnitFreeAck false v s)
  | .hsh, 0x68 => some (s.ksOnly m .hsh 0 off v (fCover false false v))
  | .hsh, 0x6C => some (s.ksOnly m .hsh 0 off v (fCover false true v))
  | .cip, 0x48 => some (fUnitOwned true v s)
  | .cip, 0x50 => some (fUnitAbort true v s)
  | .cip, 0x54 => some (fUnitSelftest true v s)
  | .cip, 0x58 => some (fUnitFreeAck true v s)
  | .cip, 0x68 => some (s.ksOnly m .cip 0 off v (fCover true false v))
  | .cip, 0x6C => some (s.ksOnly m .cip 0 off v (fCover true true v))
  | .ptn, 0x40 => some (fPtnLoadCmd v s)
  | .ptn, 0x64 => some (if bit v 0 then fDrain s else s)
  | .sgn, 0x40 => some (fSgnLoadCmd v s)
  | _, _ => none

/-- A mover's page and its flag. -/
def State.moverOn (s : State) (east : Bool) : Bool := if east then s.moverE else s.moverW
def moverPage (east : Bool) : Nat := if east then 4 else 0
def State.setMover (s : State) (east on : Bool) : State := if east then { s with moverE := on } else { s with moverW := on }
/-- A write of MOV_CTL (R316): DONE clears, then START of a copy of whole lines, one end of it sealed. -/
def fMoverCtl (east : Bool) (v : Word) (s : State) : State :=
  let i := moverPage east
  let s1 := if bit v 1 then s.setRegBit .sgm i 0xB4 1 false else s
  let src := s.reg64 .sgm i 0xA0
  let dst := s.reg64 .sgm i 0xA8
  if !bit v 0 then s1
  else if s.moverOn east || decide (src % 64 ≠ 0) || decide (dst % 64 ≠ 0) || (decide (src < sealedBase) && decide (dst < sealedBase)) then
    s1.reject .sgm i 0xB4 v
  else (s1.setRegBit .sgm i 0xB4 2 false).setMover east true
/-- Journal and SGRAM pages (R315-R317). -/
def State.writeStore (s : State) (m : Master) (b : Block) (i off : Nat) (v : Word) : Option State :=
  match b with
  | .jnl =>
    if off = 0x8C then some (fExported v s)
    else if off < 0x80 ∧ (regRow .jnl off).isSome then
      some (s.orReject (!s.enabled .jnl 0) .jnl 0 off v
        (if off < 0x50 then s.plainWrite .jnl 0 off v
         else { s with jnl := { s.jnl with genesis := Sparse.set 0 s.jnl.genesis ((off - 0x50) / 4) v } }))
    else none
  | .sgm =>
    if off = 0x44 then some (fSgramRetrain i v s)
    else if 0xA0 ≤ off ∧ off < 0xB8 then
      if i = 0 ∨ i = 4 then
        some (s.ksOnly m .sgm i off v fun s => if off = 0xB4 then fMoverCtl (decide (i = 4)) v s else s.plainWrite .sgm i off v)
      else some (s.reject .sgm i off v)
    else none
  | _ => none

/-- A MODE that the port's kind allows (R269, R274, R289). -/
def State.ethModeOk (s : State) (n : Nat) (v : Word) : Bool :=
  let speed := fld v 0 2
  let fec := fld v 2 2
  let pair := fld v 4 2
  let e := decide (n < 8)
  (if e then decide (2 ≤ speed) else decide (speed < 2)) && (if e then decide (fec < 3) && !(decide (fec = 2) && decide (speed = 2)) else decide (fec = 0)) &&
    (e || decide (n % 2 = 1) || (decide (pair < 3) && (decide (pair = s.ethPair n) || !(s.enabled .eth n || s.enabled .eth (n + 1)))))
/-- MODE without the bits that are reserved on the port: PAIR of an E port and of an odd G port, whose write has no effect (R3, R274). -/
def ethModeBits (n : Nat) (v : Word) : Word := if n < 8 ∨ n % 2 = 1 then v &&& ~~~0x30 else v
/-- Settings of an Ethernet page that cannot be written while it is enabled (R286). -/
def ethLocked (off : Nat) : Bool :=
  (decide (0x40 ≤ off) && decide (off < 0x78)) || (decide (0x90 ≤ off) && decide (off < 0xD0))
/-- Ethernet and field serial pages (R286, R289, R290). -/
def State.writePorts (s : State) (b : Block) (i off : Nat) (v : Word) : Option State :=
  match b with
  | .eth =>
    if ethLocked off then
      let ok := !s.enabled .eth i && (decide (off ≠ 0x40) || (!s.sisterPort i && s.ethModeOk i v))
      some (s.orReject ok .eth i off v (s.plainWrite .eth i off (if off = 0x40 then ethModeBits i v else v)))
    else match off with
      | 0xD4 => some (fSessData i 0 v s)
      | 0xD8 => some (fSessData i 1 v s)
      | 0xDC => some (fSessData i 2 v s)
      | 0xE0 => some (fSessData i 3 v s)
      | 0x104 => some (fPtpAck i v s)
      | 0x108 => some (fPtpGo i v s)
      | _ => none
  | .fsp =>
    if 0x100 ≤ off ∧ off < 0x500 then
      let k := 16 * i + (off - 0x100) / 64
      let o := off % 64
      if o = 0 then some (fFsCfg k v s)
      else if o = 4 ∨ o = 8 ∨ o = 0xC ∨ o = 0x10 then
        let ok := !s.fsEn k && (decide (o ≠ 4) || (decide (20 ≤ fld v 0 23) && decide (fld v 0 23 ≤ 4800000)))
        some (s.orReject ok .fsp i off v (s.plainWrite .fsp i off v))
      else none
    else none
  | _ => none

/-- PCI and VFM pages (R342, R343). -/
def State.writeHost (s : State) (b : Block) (off : Nat) (v : Word) : Option State :=
  let f := fld (s.reg .vfm 0 0x40) 0 7
  match b, off with
  | .pci, 0x44 => some (fMbxRespond v s)
  | .pci, 0x48 => some (s.orReject (decide (1 ≤ fld v 0 3) && decide (fld v 0 3 ≤ 5)) .pci 0 off v (s.plainWrite .pci 0 off v))
  | .vfm, 0x44 => some (fFnAck v s)
  | .vfm, 0x48 => some (fFnCmd (fld v 0 3) s)
  | .vfm, 0x4C => some (s.orReject (decide (fld v 0 7 ≤ 64)) .vfm 0 off v (s.updFn f fun x => { x with qpNext := fld v 0 7 }))
  | .vfm, 0x50 =>
    let q := fld v 16 13
    some (s.orReject (decide (1 ≤ q) && decide (q ≤ 4096)) .vfm 0 off v (s.updFn f fun x => { x with shareNext := fld v 0 16, jquotaNext := q }))
  | .vfm, 0x54 => some (fFnVec v s)
  | .vfm, 0x58 => some (fVfmCommit v s)
  | .vfm, 0x60 => some (fPsetWrite v s)
  | _, _ => none

/-- A write of KST.XSIZE (R386, R387). -/
def State.xsizeWrite (s : State) (v : Word) : State :=
  let n := fld v 0 21
  s.orReject (!bit (s.reg .kst 0 0x008) 2 && decide (n % 4096 = 0) && decide (n ≤ 0xF8000)) .kst 0 0x40 v (s.setReg .kst 0 0x40 (w32 n))
/-- A write of KST.WDOG (R388, R399): enabling starts the count. -/
def State.wdogWrite (s : State) (v : Word) : State :=
  let n := fld v 0 16
  if bit (s.reg .kst 0 0x54) 16 ∨ n = 0 ∨ 10000 < n then s.reject .kst 0 0x54 v
  else
    let s1 := s.setReg .kst 0 0x54 (v &&& 0x1FFFF)
    if bit v 16 then fKsKick 1 s1 else s1
/-- Bits of an alarm register whose condition still trips. -/
def State.liveWord (s : State) (k : Nat) : Word := w32 (s.tmp.live.toNat / 2 ^ (32 * k))
/-- A write of RCMD (R464-R466) without a badge's answer: DEACTIVATE, SEND, or an activation that no badge answers. -/
def State.rcmdWrite (s : State) (v : Word) : State :=
  if bit v 1 then fNfcDeactivate v s
  else if bit v 0 then
    if !s.nfcEn ∨ s.nfc.st ≠ 1 ∨ s.nfc.badges = 0 then (s.rcmd v).reject .nfc 0 0x44 v
    else ((s.rcmd v).updNfc fun x => { x.off 5 with done := true, result := 4, badges := 0 }).setSticky .nfc 0 3
  else if bit v 2 then fNfcSend v s
  else s.rcmd v
/-- A write of RCFG (R463, R464): clearing EN switches the reader off. -/
def State.rcfgWrite (s : State) (v : Word) : State :=
  let ok := decide (5 ≤ fld v 8 8) && decide (100 ≤ fld v 16 16) && decide (fld v 16 16 ≤ 60000)
  let s1 := s.plainWrite .nfc 0 0x40 v
  s.orReject ok .nfc 0 0x40 v (if bit v 0 then s1 else s1.updNfc fun x => { x.off 0 with badges := 0 })
/-- Keystone pages. -/
def State.writeKeystone (s : State) (m : Master) (b : Block) (off : Nat) (v : Word) : Option State :=
  match b, off with
  | .kst, 0x40 => some (s.xsizeWrite v)
  | .kst, 0x54 => some (s.wdogWrite v)
  | .kst, 0x58 => some (fKsKick v s)
  | .lcs, 0x4C => some (fLcCmd m false v s)
  | .tmp, 0x40 => some (fAlarmClear 0 v (s.liveWord 0) s)
  | .tmp, 0x44 => some (fAlarmClear 1 v (s.liveWord 1) s)
  | .tmp, 0x48 => some (fAlarmClear 2 v (s.liveWord 2) s)
  | .tmp, 0x4C => some (fAlarmClear 3 v (s.liveWord 3) s)
  | .tmp, 0x90 => some (fTmpTest v s)
  | .tmp, 0xA4 => some (fHoldRelease v s)
  | .tmp, 0xB4 => some (fRingClear v s)
  | .elg, 0x68 => some (fLogAppend m v s)
  | .flc, 0x40 => some (fFlcKey v s)
  | .flc, 0x44 => some (fFlcCmd v s)
  | .flc, 0x48 => some (fFlcAddr v s)
  | .flc, 0x6C => some (s.orReject (decide (fld v 0 6 ≠ 0)) .flc 0 off v (s.plainWrite .flc 0 off v))
  | .flc, _ => if 0x4C ≤ off ∧ off < 0x6C then some (fFlcData ((off - 0x4C) / 4) v s) else none
  | .sdh, 0x40 => some (s.orReject (decide (fld v 4 3 ≠ 7)) .sdh 0 off v (s.plainWrite .sdh 0 off v))
  | .sdh, 0x48 => some (if bit v 31 then fSdGo v s else s.plainWrite .sdh 0 off v)
  | .sdh, 0x6C =>
    let s1 := if bit v 0 then fSdRewrite v s else s
    some (if bit v 1 then fSdDiscard v s1 else s1)
  | .sdh, 0x70 =>
    let s1 := if bit v 0 then fSdVswitch false s else s
    some (if bit v 1 then fSdTune false s1 else s1)
  | .nfc, 0x40 => some (s.rcfgWrite v)
  | .nfc, 0x44 => some (s.rcmdWrite v)
  | .nfc, 0x48 => some (s.updNfc fun x => { x with done := x.done && !bit v 6, change := x.change && !bit v 11 })
  | .nfc, 0x60 => some (s.orReject (decide (fld v 0 7 < 120)) .nfc 0 off v (s.plainWrite .nfc 0 off v))
  | .nfc, 0x64 => some (fTrec v s)
  | .nfc, 0x88 => some (s.orReject (decide (fld v 0 2 ≠ 3)) .nfc 0 off v (s.plainWrite .nfc 0 off v))
  | .nfc, 0x90 =>
    let s1 := if bit v 0 then fPwSet v s else s
    some (if bit v 1 then fPwReset v s1 else s1)
  | .nfc, 0x98 =>
    some (s.orReject (decide (2 ≤ fld v 0 6) && decide (fld v 0 6 ≤ 60)) .nfc 0 off v (s.updNfc fun x => { x with qtime := fld v 0 6 }))
  | _, _ => none

/-- Card slots (R461): SCFG limits, SCMD, SSTS and the TX buffer; the other buffers are written by the slot alone. -/
def State.writeCards (s : State) (off : Nat) (v : Word) : Option State :=
  if 0x100 ≤ off ∧ off < 0x200 then
    let n := (off - 0x100) / 64
    match off % 64 with
    | 0x00 =>
      let ok := decide (fld v 0 2 ≠ 0) && decide (3 ≤ fld v 3 6) && decide (fld v 3 6 ≤ 60) && decide (100 ≤ fld v 16 16) && decide (fld v 16 16 ≤ 60000)
      some (s.orReject ok .crd 0 off v (s.plainWrite .crd 0 off v))
    | 0x04 =>
      some (if bit v 1 then fCardDeactivate n v s else if bit v 0 then fCardActivate n v s else if bit v 2 then fCardSend n v s else s.scmd n v)
    | 0x08 => some (s.updSlot n fun x => { x with done := x.done && !bit v 7, change := x.change && !bit v 12 })
    | _ => none
  else if 0x400 ≤ off then
    some (if (off - 0x400) % 0x300 < 0x140 then s.plainWrite .crd 0 off v else s)
  else none

/-- A write of an RWP register goes to its shadow, unless it holds a reserved code, and makes open requests stale (R3, R32, R33, R377). -/
def State.shadowWrite (s : State) (pg : PageRef) (off : Nat) (v : Word) : State :=
  let b := pg.block
  let i := pg.inst
  if b = .acu then
    let key := acuKey i (fld (s.reg .acu i 0x40) 0 7) ((off - 0x100) / 8)
    let x := v &&& rwpMask .acu off
    (if off % 8 = 0 then { s with acuBaseSh := Sparse.set 0 s.acuBaseSh key x } else { s with acuAttrSh := Sparse.set 0 s.acuAttrSh key x }).staleMark pg
  else if (b = .cox ∧ off = 0x40 ∧ fld v 0 2 = 3) ∨ (b = .sys ∧ off = 0x48 ∧ (fld v 2 10 < 100 ∨ 900 < fld v 2 10)) then s.reject b i off v
  else (s.setReg b i (0x800 + off) (v &&& rwpMask b off)).staleMark pg

/-- A write of a register at an offset of a page, by a master the gate has let through. -/
def State.regWrite (s : State) (m : Master) (pg : PageRef) (off : Nat) (v : Word) : State :=
  let b := pg.block
  let i := pg.inst
  if off = 0x008 then (if bit v 1 then s.softResetPage m pg v else s.ctlWrite m pg v)
  else if off = 0x00C then
    (if b = .sdh then s.updSdh fun x => { x with done := x.done && !bit v 9, change := x.change && !bit v 10 } else s)
  else if off = 0x010 then s.clearSticky b i v 0
  else if off = 0x014 then s.setReg b i 0x014 v
  else if off < 0x040 then s
  else if hasRwp pg && decide (0x800 ≤ off) then s.reject b i off v
  else if b = .sgm ∧ i ≠ 0 ∧ 0x80 ≤ off ∧ off < 0xA0 then s.reject b i off v
  else if rwpMask b off ≠ 0 then s.shadowWrite pg off v
  else ((((s.writeSystem m b off v).or (s.writeControl b i off v)).or ((s.writeUnits m b i off v).or (s.writeStore m b i off v))).or
      (((s.writePorts b i off v).or (s.writeHost b off v)).or ((s.writeKeystone m b off v).or
        (if b = .crd then s.writeCards off v else none)))).getD (s.plainWrite b i off v)

/-! ### The general register rows -/

/-- A write at an address: the checks of the access, then the register's act (R10, R26, R72, R513). -/
def State.busWrite (s : State) (m : Master) (a size : Nat) (v : Word) : State :=
  match s.gate m 1 a size with
  | .page pg off => s.regWrite m pg off v
  | g => s.gateMiss m 1 g
/-- RWP_SHADOW_WRITE: a write of an RWP register, or into the shadow window; another address is no such command. -/
def fShadow (m : Master) (a : Nat) (v : Word) (s : State) : State :=
  match s.gate m 1 a 4 with
  | .page pg off =>
    if hasRwp pg && decide (0x800 ≤ off) then s.reject pg.block pg.inst off v
    else if rwpMask pg.block off ≠ 0 && !(decide (pg.block = .sgm) && decide (pg.inst ≠ 0) && decide (0x80 ≤ off)) then s.shadowWrite pg off v
    else s
  | g => s.gateMiss m 1 g
/-- A read at an address: the word and the read's own effect; a refused read returns 0 (R10, R30). -/
def State.busRead (s : State) (m : Master) (a : Nat) : State :=
  match s.gate m 0 a 4 with
  | .waits => s
  | .refused low r k mt => (s.acuRecord m 0 low r k mt).emit (.readData m [TWord.int 0])
  | .noRoute => (s.gateMiss m 0 .noRoute).emit (.readData m [TWord.int 0])
  | .page pg off =>
    let r := s.regRead pg off
    r.1.emit (.readData m [TWord.int r.2])
/-- The level of a source is 1 and the router saw it at 0 before. The one edge of a software event is its raise (R35). -/
def State.evtEdge (s : State) (ev : Nat) : Bool :=
  evtHasSource ev && !evtSoftware ev && s.evtLevel ev && !s.evtHigh.contains ev
/-- EVENT_RISING_EDGE: the router looks at the level of a source. A level of 1 that it saw at 0 before is a rising edge; a level of 0 lets
the next one be an edge (R34, R37, log entry 14). -/
def fRisingEdge (ev : Nat) (s : State) : State :=
  if s.evtEdge ev then ({ s with evtHigh := ev :: s.evtHigh } : State).raiseEvent ev
  else if s.evtLevel ev || evtSoftware ev then s
  else { s with evtHigh := s.evtHigh.filter (· ≠ ev) }
/-- EVT_PEND_CLEAR with the sources of the register that rise in its cycle: a pending bit whose edge comes in that cycle stays at 1 (R34). -/
def fEvtPendRising (k : Nat) (v rising : Word) (s : State) : State :=
  let edges := (evtBits k rising).filter s.evtEdge
  let soft := (evtBits k rising).filter evtSoftware
  let s1 := fEvtPend k v s
  soft.foldl State.raiseSoftware (edges.foldl (fun s ev => ({ s with evtHigh := ev :: s.evtHigh } : State).raiseEvent ev) s1)

/-! ### The rows -/

/-- REGISTER_WRITE (R9). -/
def execRegisterWrite (m : Master) (addr : Nat) (size : Nat) (v : Word) (s : State) : Host.Outcome State Fault Refusal := .next (s.busWrite m addr size v)

/-- STKY_CLEAR (R29). -/
def execStkyClear (m : Master) (pg : PageRef) (v : Word) (hw : Word) (s : State) : Host.Outcome State Fault Refusal := .next (s.gated m pg.block pg.inst 0x010 fun s => s.clearSticky pg.block pg.inst v hw)

/-- FAULT_TIME_LO_READ (R30). -/
def execFaultTimeLoRead (m : Master) (addr : Nat) (s : State) : Host.Outcome State Fault Refusal := .next (s.busRead m addr)

/-- SOFT_RESET (R510). -/
def execSoftReset (m : Master) (pg : PageRef) (v : Word) (s : State) : Host.Outcome State Fault Refusal := .next (s.gated m pg.block pg.inst 0x008 fun s => s.softResetPage m pg v)

/-- RWP_SHADOW_WRITE (R32). -/
def execRwpShadowWrite (m : Master) (addr : Nat) (v : Word) (s : State) : Host.Outcome State Fault Refusal := .next (fShadow m addr v s)

/-- EVENT_RISING_EDGE (R34). -/
def execEventRisingEdge (ev : Fin 2048) (s : State) : Host.Outcome State Fault Refusal := .next (fRisingEdge ev.val s)

/-- EVT_PEND_CLEAR (R34). -/
def execEvtPendClear (m : Master) (k : Fin 64) (v rising : Word) (s : State) : Host.Outcome State Fault Refusal :=
  .next (s.gated m .evt 0 (0x100 + 4 * k.val) (fEvtPendRising k v rising))

/-- The rows that are a write of CTL: SOFT_RESET of the same write comes first (R510). -/
def State.ctlRow (s : State) (m : Master) (pg : PageRef) (v : Word) : State :=
  s.gated m pg.block pg.inst 0x008 fun s => if bit v 1 then s.softResetPage m pg v else s.ctlWrite m pg v

/-- ETH_ENABLE_WRITE (R286). -/
def execEthEnableWrite (m : Master) (port : Fin 64) (v : Word) (s : State) : Host.Outcome State Fault Refusal := .next (s.ctlRow m ⟨.eth, port⟩ v)

/-- JNL_ENABLE_WRITE (R317). -/
def execJnlEnableWrite (m : Master) (v : Word) (s : State) : Host.Outcome State Fault Refusal := .next (s.ctlRow m ⟨.jnl, 0⟩ v)

/-- BOOT_DONE (R381). -/
def execBootDone (m : Master) (v : Word) (s : State) : Host.Outcome State Fault Refusal := .next (s.ctlRow m ⟨.dual, 0⟩ (putBit v 2 true))

/-- XLOCK_WRITE (R387). -/
def execXlockWrite (m : Master) (v : Word) (s : State) : Host.Outcome State Fault Refusal := .next (s.ctlRow m ⟨.kst, 0⟩ (putBit v 2 true))

/-- PUF_LOCK_WRITE (R392). -/
def execPufLockWrite (m : Master) (v : Word) (s : State) : Host.Outcome State Fault Refusal := .next (s.ctlRow m ⟨.kst, 0⟩ (putBit v 3 true))

/-- DEBUG_REVOKE (R411). -/
def execDebugRevoke (m : Master) (v : Word) (s : State) : Host.Outcome State Fault Refusal := .next (s.ctlRow m ⟨.dbg, 0⟩ (putBit v 2 true))

/-- JOINT_REKEY (R398). -/
def execJointRekey (m : Master) (v : Word) (s : State) : Host.Outcome State Fault Refusal := .next (s.ctlRow m ⟨.jnt, 0⟩ (putBit v 2 true))

/-- MOVER_START (R316). -/
def execMoverStart (m : Master) (east : Bool) (v : Word) (s : State) : Host.Outcome State Fault Refusal := .next (s.gated m .sgm (moverPage east) 0x0B4 fun s => s.ksOnly m .sgm (moverPage east) 0x0B4 v (fMoverCtl east (putBit v 0 true)))

end Sys2Proof.Machine
end

