-- ==== Sys2Proof/Machine/Delivery.lean ====
section
/-! DEFINITION. Delivery of mortar beats to every target of the physical map (R70-R73, R144-R155, R162-R173, R184, R197-R201, R218,
R222, R223, R235-R238, R296, R386, R480), and the sealed-memory movers (R316). -/

namespace Sys2Proof

/-- Access kind of a message: 0 read, 1 write, 2 KEY write. -/
def Msg.access (m : Msg) : Nat := match m.kind with | .read => 0 | .write => 1 | .keyWrite => 2
/-- The word of a write. -/
def Msg.word (m : Msg) : TWord := m.data.headD TWord.none
/-- The requester of a unit command that a message carries (R171, R172). -/
def Msg.requester (m : Msg) : Requester :=
  { sched := m.sched, master := m.src, course := m.owner
    pair := match m.src with | .proc (.tile _ t) => Fin.ofNat 8 (t.val / 2) | _ => 0 }
/-- Masters whose KEY writes a key plane takes: Keystone cores and crypto units (R71). -/
def Master.keyIssuer : Master → Bool
  | .proc p => p.isKs
  | .cluster _ | .hash _ | .cipher _ => true
  | _ => false
end Sys2Proof

namespace Sys2Proof.Machine

/-! ### Answers of targets -/

/-- Answer of a target: data of a read or the acknowledge of a write, an uncorrectable word, a refusal by the target's own rule
(recorded by the issuing ACU, R72), or an error response. -/
inductive Answer where
  | ok (w : TWord)
  | lost
  | refused
  | failed
  deriving DecidableEq, Repr

/-- A write of an access's bytes into a memory word. -/
def mergeWrite (m : Msg) (old : TWord) : TWord :=
  if m.size = 4 then m.word else mergeSub m.size (m.addr % 4) old m.word.data

/-! ### Memories -/

/-- A plain memory word at a model key: a KEY word is not delivered, an uncorrectable one is lost (R72). -/
def State.readCell (s : State) (k : Nat) : State × Answer :=
  if s.isBad k then (s, .lost) else if (s.word k).tag = Tag.key then (s, .refused) else (s, .ok (s.word k))
/-- Plain memory: reads and ordinary writes; no KEY write (R71, R72). -/
def State.memTarget (s : State) (m : Msg) (k : Nat) : State × Answer :=
  match m.kind with
  | .read => s.readCell k
  | .write => (s.putWord k (mergeWrite m (s.word k)), .ok TWord.none)
  | .keyWrite => (s, .refused)
/-- A key plane: KEY writes of Keystone cores and crypto units alone (R71, R72). -/
def State.planeTarget (s : State) (m : Msg) (k : Nat) : State × Answer :=
  if m.kind = .keyWrite ∧ m.src.keyIssuer then (s.putWord k m.word, .ok TWord.none) else (s, .refused)
/-- A staging buffer of a load command: written by the Keystone cores (R235, R238). -/
def State.stagingTarget (s : State) (m : Msg) (k : Nat) : State × Answer :=
  if m.kind = .write ∧ !m.src.isKs then (s, .refused) else s.memTarget m k
/-- Keystone die memories (R386, R387, R434): ROM and the flash window take no write, the code area none while XLOCK is 1. -/
def State.keystoneTarget (s : State) (m : Msg) (k : Nat) : State × Answer :=
  if k < 0x40000 then (if m.kind = .read then s.readCell k else (s, .refused))
  else if 0x01000000 ≤ k ∧ k < ksPlane then
    (if m.kind = .write ∧ s.inKsCode k ∧ bit (s.reg .kst 0 0x008) 2 then (s.setSticky .kst 0 3, .refused) else s.memTarget m k)
  else if ksPlane ≤ k ∧ k < ksPlane + 0x10000 then s.planeTarget m k
  else if flashWindow ≤ k ∧ k < flashWindow + 2 ^ 25 then
    (if m.kind = .read then
      match s.flashWord (k - flashWindow) with
      | (s1, some w) => (s1, .ok (TWord.int w))
      | (s1, none) => (s1, .lost)
    else (s, .refused))
  else (s, .refused)

/-! ### Partner cache and signer store (R218, R222, R223, R235, R237, R238, R358) -/

/-- Key of a staged port word of the message's course and pair. -/
def portKey (m : Msg) (n : Nat) : Nat := (m.owner.val * 8 + m.requester.pair.val) * 16 + n
/-- A staged port word. -/
def State.portWord (s : State) (m : Msg) (n : Nat) : Word := Sparse.get 0 s.ptn.portW (portKey m n)
/-- Write of a staged port word. -/
def State.setPortWord (s : State) (m : Msg) (n : Nat) : State :=
  { s with ptn := { s.ptn with portW := Sparse.set 0 s.ptn.portW (portKey m n) m.word.data } }
/-- Beats that a port sends back to the course, so that the last of them is there in the stroke before its figure ends (R115, R222,
R223); with no route back there is no request, and NO_ROUTE sets (R155). -/
def State.portReply (s : State) (m : Msg) (figure beats : Nat) (b : Body) : Option State :=
  (s.route? (nodeOf m.addr) (masterNode m.src)).map fun back =>
    let t := m.stroke + figure - 2 - 2 * back.length - beats
    s.fly { body := b, sched := true, owner := m.owner.val, route := back, start := t, head := t + 1, beats := beats }
/-- A heat sends a MARK = 1 request only where its verdict would otherwise be ACCEPT: with a journal slot, in SERVING, in no telemetry
class, from its verdict stroke on, with no refusal of its own (R46, R48, R49, R51, R58). A program that stored one all the same starts no request. -/
def State.mayMark (s : State) (c p : Nat) : Bool :=
  match (s.cx c).heats.find? fun h => decide (h.pair = p) && !h.ended with
  | some h => h.slot.isSome && decide (s.svc ≠ 2) && decide (s.svc ≠ 3) && !h.plan.telemetry &&
      (match h.verdict with | some v => decide (v.1 = 0) | none => false)
  | none => true
/-- The two ports take scheduled INT word writes only; the last word starts the request. -/
def State.portTarget (s : State) (m : Msg) (o : Nat) : State × Answer :=
  let v := m.word.data
  let w (n : Nat) : Word := s.portWord m n
  if !m.sched ∨ m.kind ≠ .write ∨ m.size ≠ 4 ∨ m.word.tag ≠ Tag.int then (s, .refused)
  else if o = 0x80000 then (s.setPortWord m 0, .ok TWord.none)
  else if o = 0x80004 then
    let q : CtxRead := { course := m.owner.val, pair := m.requester.pair.val, dest := fld (w 0) 0 19, partner := fld v 0 12, stateOnly := bit v 12, stroke := m.stroke
                         img := (s.ctxBefore (fld v 0 12)).readBytes (bit v 12) }
    match s.portReply m (if bit v 12 then 40 else 180) (if bit v 12 then 2 else 65) (.ctx q) with
    | some t => ({ t with ptn := { t.ptn with reads := t.ptn.reads ++ [q] } }, .ok TWord.none)
    | none => (s.setSticky .mort 0 4, .ok TWord.none)
  else if 0x90000 ≤ o ∧ o < 0x9001C then (s.setPortWord m (1 + (o - 0x90000) / 4), .ok TWord.none)
  else if o = 0x9001C then
    let q : MarkReq := { course := m.owner.val, pair := m.requester.pair.val, seq := (w 1).toNat + 2 ^ 32 * (w 2).toNat
                         tag := (w 3).toNat + 2 ^ 32 * (w 4).toNat, partner := fld (w 5) 0 12, mark := bit (w 5) 12
                         rates := BitVec.ofNat 4 (fld (w 5) 13 4), set := w 6, clear := w 7, dest := fld v 0 19, stroke := m.stroke
                         arrive := s.stroke }
    if q.mark && !s.mayMark q.course q.pair then (s, .ok TWord.none)
    else match s.portReply m 40 1 (.mark q none) with
      | some t => ({ t with ptn := { t.ptn with marks := t.ptn.marks ++ [q] } }, .ok TWord.none)
      | none => (s.setSticky .mort 0 4, .ok TWord.none)
  else (s, .refused)
/-- The partner cache: the context window is read only, then the staging buffer and the ports. -/
def State.partnerTarget (s : State) (m : Msg) (k : Nat) : State × Answer :=
  let o := k - 0x10000000
  if o < 0x800000 then
    (if m.kind = .read then (s, .ok (TWord.int (leWord (((s.ctx (o / 2048)).image.drop (o % 2048)).take 4)))) else (s, .refused))
  else if o < 0x800800 then s.stagingTarget m k
  else s.portTarget m (o - 0x800000)
/-- The signer store: slots are read only, a withdrawn slot reads zeros; then the staging buffer. -/
def State.signerTarget (s : State) (m : Msg) (k : Nat) : State × Answer :=
  let o := k - 0x11000000
  if o < 0x200000 then
    (if m.kind ≠ .read then (s, .refused)
     else if s.isBad (slotBase (o / 2048)) then (s, .ok (TWord.int 0))
     else (s, .ok (TWord.int (s.word k).data)))
  else if 0x800000 ≤ o ∧ o < 0x801000 then s.stagingTarget m k
  else (s, .refused)

/-! ### Unit windows (R162-R171, R184, R197-R201) -/

/-- A W0 delivered to a unit: a scheduled one is held until the stroke in which the unit treats it as arrived, 22 after its issue (R172,
R212); a free one arrives now. -/
def State.takeW0 (s : State) (kind num : Nat) (m : Msg) : State :=
  let h : HeldW0 := { at_ := m.stroke + 22, kind := kind, num := num, req := m.requester, w := m.word.data }
  if m.sched && decide (s.stroke < m.stroke + 22) then { s with heldW0 := s.heldW0 ++ [h] } else s.startW0 h

/-- An engine's stride. A beat of the wrong kind for the pair's OWNED bit is refused, but for W0, which is answered REFUSED (R164). -/
def State.engineTarget (s : State) (m : Msg) (k : Nat) : State × Answer :=
  let e := (k - 0x50000000) / 2 ^ 16
  let o := k % 2 ^ 16
  let q := s.pkeRoute (e / 2)
  let at_ := operandBase q + o
  let isW0 := decide (o = 0x8000)
  let cmdWrite := decide (m.kind = .write) && decide (m.size = 4) && decide (m.word.tag = Tag.int)
  let free := match (s.pkeU q).st with | .sched | .free | .wipe => false | _ => true
  if isW0 && cmdWrite then (s.takeW0 0 (e / 2) m, .ok TWord.none)
  else if s.pkeOwned q ≠ m.sched then (s, .refused)
  else if 0x8000 < o ∧ o < 0x8014 then
    (if cmdWrite then (s.pkeStage (e / 2) ((o - 0x8000) / 4) m.word.data, .ok TWord.none) else (s, .refused))
  else if 0x4000 ≤ o then (s, .refused)
  else match m.kind with
    | .read => if o < 0x800 then (s, .refused) else s.readCell at_
    | .write =>
      if o < 0x800 ∨ !free then (s, .refused)
      else if 0x3F18 ≤ o then (s, .ok TWord.none)
      else (s.putWord at_ (mergeWrite m (s.word at_)), .ok TWord.none)
    | .keyWrite =>
      if o < 0x800 ∧ free ∧ m.src.isProc then (s.putWord at_ m.word, .ok TWord.none) else (s, .refused)
/-- The window of a hash or cipher pair (R197). What is written into BUF or OUT during a wipe is zeroised with the rest (R213). -/
def State.unitTarget (s : State) (cipher : Bool) (m : Msg) (k : Nat) : State × Answer :=
  let j := k / 2 ^ 12 % 16
  let o := k % 2 ^ 12
  let n := s.hcRoute cipher j
  let at_ := unitBase cipher n + o
  let idle := decide ((s.hc cipher n).st = .idle)
  let wordWrite := decide (m.kind = .write) && decide (m.size = 4)
  let cmdWrite := wordWrite && decide (m.word.tag = Tag.int)
  if decide (o = 0x100) && cmdWrite then (s.takeW0 (if cipher then 2 else 1) j m, .ok TWord.none)
  else if s.hcOwned cipher n ≠ m.sched then (s, .refused)
  else if o < 0x40 then
    (if m.kind = .keyWrite ∧ m.word.tag = Tag.key ∧ idle ∧ m.src.isProc then
      (s.hcKeyin cipher j (o / 4) m.word m.src, .ok TWord.none) else (s, .refused))
  else if m.kind = .keyWrite then (s, .refused)
  else if o / 4 * 4 = 0x40 then
    (if m.kind = .read then (s, .ok (TWord.int 0))
     else if wordWrite && decide (m.word.tag = Tag.handle) && idle then (s.hcHandle cipher j m.word m.src, .ok TWord.none)
     else (s, .refused))
  else if 0x100 < o ∧ o < 0x118 then
    (if cmdWrite then (s.hcStage cipher j ((o - 0x100) / 4) m.word.data, .ok TWord.none) else (s, .refused))
  else if o / 4 * 4 = 0x200 ∨ 0x400 ≤ o then
    (if m.kind = .write ∧ (s.hc cipher n).st = .wipe then (s, .ok TWord.none) else s.memTarget m at_)
  else (s, .refused)

/-! ### Sealed window and pages -/

/-- The sealed window (R296-R298): a KEY write or a word other than INT or NONE is refused; R301 and a failing line give an error
response. -/
def State.sealedTarget (s : State) (m : Msg) (k : Nat) : State × Answer :=
  let one (r : State × Option (List TWord)) : State × Answer :=
    match r.2 with | some ws => (r.1, .ok (ws.headD TWord.none)) | none => (r.1, .failed)
  match m.kind with
  | .keyWrite => (s, .refused)
  | .read => one (s.sealedRead k 4 false)
  | .write =>
    if !sealedWordOk m.word then (s, .refused)
    else
      let r := if m.size = 4 then (s, some [m.word]) else s.sealedRead k 4 false
      match r.2 with
      | none => (r.1, .failed)
      | some ws =>
        let t := r.1.sealedWrite k [mergeWrite m (ws.headD TWord.none)]
        (t.1, if t.2 then .ok TWord.none else .failed)
/-- A register page (R10, R26, R72, R513). -/
def State.pageTarget (s : State) (m : Msg) : State × Answer :=
  if m.size ≠ 4 ∨ m.kind = .keyWrite then (s, .refused)
  else match pageOf m.addr with
    | none => (s, .refused)
    | some (pg, off) =>
      if m.kind = .read then
        let r := s.regRead pg off
        (r.1, .ok (TWord.int r.2))
      else if s.pageWriter m.src pg.block then (s.regWrite m.src pg off m.word.data, .ok TWord.none)
      else (s, .refused)

/-- Power domain that holds a target (R479); register pages lie in the mortar spine. -/
def targetDomain (a : Nat) : Nat :=
  if 0x10000000 ≤ a ∧ a < 0x12000000 then 29
  else if 0x30000000 ≤ a ∧ a < 0x31000000 then 7 + a / 2 ^ 20 % 16
  else if 0x50000000 ≤ a ∧ a < 0x50600000 then 23 + (a - 0x50000000) / 2 ^ 16 / 24
  else if 0x51000000 ≤ a ∧ a < 0x53000000 then 27
  else if sealedBase ≤ a then (if sealedCh (a - sealedBase) < 4 then 30 else 31)
  else 28
/-- A target that gives no service: OFF or waking; SGRAM in self-refresh waits instead (R305, R480). -/
def State.targetAsleep (s : State) (a : Nat) : Bool :=
  match s.domState (targetDomain a) with
  | .off | .waking => decide (a ≥ 0x04000000)
  | _ => false

/-- The target of a physical address; an address that no target holds is refused. -/
def State.targetAct (s : State) (m : Msg) : State × Answer :=
  let a := m.addr
  let k := a / 4 * 4
  if a % m.size ≠ 0 ∨ inAlias a ∨ s.targetAsleep a then (s, .refused)
  else if a < 0x04000000 then s.keystoneTarget m k
  else if 0x10000000 ≤ a ∧ a < 0x11000000 then s.partnerTarget m k
  else if 0x11000000 ≤ a ∧ a < 0x12000000 then s.signerTarget m k
  else if 0x30000000 ≤ a ∧ a < 0x31000000 then (if inPlane a then s.planeTarget m k else s.memTarget m k)
  else if 0x40000000 ≤ a ∧ a < 0x44000000 then s.pageTarget m
  else if 0x50000000 ≤ a ∧ a < 0x50600000 then s.engineTarget m k
  else if 0x51000000 ≤ a ∧ a < 0x51010000 then s.unitTarget false m k
  else if 0x52000000 ≤ a ∧ a < 0x52010000 then s.unitTarget true m k
  else if sealedBase ≤ a ∧ a < sealedBase + 0x140000000 then s.sealedTarget m k
  else match Config.sharedWindow k with
    | some (c, o) => if c < 16 ∧ o < 0x80000 then s.memTarget m (sharedBase c + o / 4 * 4) else (s, .refused)
    | none => (s, .refused)

/-! ### Delivery -/

/-- The acknowledge of a write goes back to the processor that stored (R147, R153). -/
def State.acknowledge (s : State) (m : Msg) : State :=
  match m.src with
  | .proc p => s.flyBack m { respOf p m false false m.addr TWord.none with ack := true }
  | _ => s
/-- The answer goes back. A scheduled access's response is a scheduled beat on the plan's own return path (R153). -/
def State.giveBack (s : State) (m : Msg) (ans : Answer) : State :=
  match ans with
  | .refused => (s.targetRefuse m.src m.access m.addr).respond m true false m.addr TWord.none
  | .failed => (s.emit (.errorResponse m.src)).respond m true false m.addr TWord.none
  | .lost => s.respond m false true m.addr TWord.none
  | .ok w => if m.kind = .read then s.respond m false false m.addr w else s.acknowledge m
/-- Corrected single-bit errors counted on the link directions where they came (R155, R159). -/
def State.countCorr (s : State) (ds : List (Fin 120)) : State :=
  ds.foldl (fun s d => { s with mort := { s.mort with
    link := Sparse.upd {} s.mort.link d.val fun x => { x with corr := satInc x.corr 0xFFFF } } }) s
/-- MORTAR_DELIVERY of a message under way, once its beats have crossed the mesh (R146, R152, R153): the target serves it. Link
directions on which a router corrected a bit of it count that (R155). -/
def fDelivery (m : Msg) (corr : List (Fin 120)) (s : State) : State :=
  if !s.mort.msgs.contains m || !s.arrived m then s
  else
    let s0 : State := { s with mort := { s.mort with msgs := s.mort.msgs.erase m
                                                     flights := s.mort.flights.filter fun f => decide (f.body ≠ .req m) } }
    let t := (s0.countCorr corr).targetAct m
    t.1.giveBack m t.2

/-! ### Movers (R316) -/

/-- A mover's access of one word outside the sealed window. -/
def moverMsg (east : Bool) (kind : MsgKind) (a : Nat) (ws : List TWord) (t : Nat) : Msg :=
  { src := .mover east, sched := false, owner := 0, kind := kind, addr := a, size := 4, data := ws, stroke := t, dest := 0, pc := 0 }
/-- A line read by a mover: its 16 words, or `none` on an error response. -/
def State.moverRead (s : State) (east : Bool) (a : Nat) : State × Option (List TWord) :=
  match s.barred (.mover east) 0 a 64 with
  | some t => (t.1, none)
  | none =>
    if sealedBase ≤ a then s.sealedRead a 64 false
    else (List.range 16).foldl (fun (acc : State × Option (List TWord)) j =>
      match acc with
      | (s, none) => (s, none)
      | (s, some ws) =>
        match s.targetAct (moverMsg east .read (a + 4 * j) [] s.stroke) with
        | (s1, .ok w) => (s1, some (ws ++ [w]))
        | (s1, .refused) => (s1.targetRefuse (.mover east) 0 (a + 4 * j), none)
        | (s1, _) => (s1, none)) (s, some [])
/-- A line written by a mover; `false` on an error response. -/
def State.moverWrite (s : State) (east : Bool) (a : Nat) (ws : List TWord) : State × Bool :=
  match s.barred (.mover east) 1 a 64 with
  | some t => (t.1, false)
  | none =>
    if sealedBase ≤ a then
      (if ws.all sealedWordOk then s.sealedWrite a ws else (s.targetRefuse (.mover east) 1 a, false))
    else (List.range 16).foldl (fun (acc : State × Bool) j =>
      match acc with
      | (s, false) => (s, false)
      | (s, true) =>
        match s.targetAct (moverMsg east .write (a + 4 * j) [ws.getD j TWord.none] s.stroke) with
        | (s1, .ok _) => (s1, true)
        | (s1, .refused) => (s1.targetRefuse (.mover east) 1 (a + 4 * j), false)
        | (s1, _) => (s1, false)) (s, true)
/-- Lines copied one after another until one meets an error; the flag tells of an error. -/
def State.moverLines (s : State) (east : Bool) (src dst : Nat) : Nat → State × Bool
  | 0 => (s, false)
  | n + 1 =>
    match s.moverRead east src with
    | (s1, none) => (s1, true)
    | (s1, some ws) =>
      match s1.moverWrite east dst ws with
      | (s2, false) => (s2, true)
      | (s2, true) => s2.moverLines east (src + 64) (dst + 64) n
/-- MOVER_DONE: the copy, DONE, and ERR where an error stopped it. -/
def fMoverDone (east : Bool) (s : State) : State :=
  let i := moverPage east
  if !s.moverOn east then s
  else
    let t := s.moverLines east (s.reg64 .sgm i 0xA0) (s.reg64 .sgm i 0xA8) (fld (s.reg .sgm i 0xB0) 0 24)
    ((t.1.setRegBit .sgm i 0xB4 1 true).setRegBit .sgm i 0xB4 2 t.2).setMover east false

/-! ### The rows -/

/-- MORTAR_DELIVERY (R146, R151). An address outside the 40-bit space names no target (R144). -/
def execMortarDelivery (msg : Arrival) (s : State) : Host.Outcome State Fault Refusal :=
  if 2 ^ 40 ≤ msg.msg.addr then .fault .outsideAddressSpace else .next (fDelivery msg.msg msg.corr s)

/-- MOVER_DONE (R316). -/
def execMoverDone (east : Bool) (s : State) : Host.Outcome State Fault Refusal := .next (fMoverDone east s)

end Sys2Proof.Machine
end

