-- ==== Sys2Proof/Machine/Adapter.lean ====
section
/-! DEFINITION. The protocol adapters (R260-R263, R511): what a native frame must look like, its addresses, and the operation items that policy
judges. Sizes of objects and information elements, and the tags of a goosePdu, are those of the protocols' own standards, which the spec
cites and does not restate (PRESUMED, log entry 100). -/

namespace Sys2Proof.Machine

/-- An operation item (R247). -/
structure Item where
  func  : Nat
  value : Nat := 0
  obj   : Nat := 0
  lo    : Nat := 0
  hi    : Nat := 0
  deriving DecidableEq, Repr

/-- What an adapter makes of a frame: the field device's address, the second address where the frame carries one, and the items (R260). -/
structure Parsed where
  addr  : Nat
  addr2 : Option Nat
  items : List Item
  deriving DecidableEq, Repr

/-- Byte i of a frame as a number. -/
def byteN (b : List Byte) (i : Nat) : Nat := (b.getD i 0).toNat
/-- A big-endian number of n bytes at an offset. -/
def beAt (b : List Byte) (o n : Nat) : Nat := leNat (slice b o n).reverse
/-- The item of a frame that yields none of its own (R260). -/
def orOwn (func : Nat) (l : List Item) : List Item := if l.isEmpty then [{ func := func }] else l

/-! ### IEEE 1815 (R261, R262, R511) -/

/-- User data of a link frame: blocks of at most 16 bytes, each with its check; none where a check fails. -/
def dnpBlocks : Nat → List Byte → Option (List Byte)
  | 0, _ => none
  | n + 1, b =>
    if b.isEmpty then some []
    else
      let k := min 16 (b.length - 2)
      if b.length < 3 ∨ crcDnp (b.take k) ≠ natAt b k 2 then none
      else (dnpBlocks n (b.drop (k + 2))).map fun r => b.take k ++ r
/-- Bits of one object of a group and variation, and whether objects are packed into bits (log entry 100). -/
def dnpSizes1 : List (Nat × Nat × Nat) :=
  [(1, 1, 1), (1, 2, 8), (2, 1, 8), (2, 2, 56), (2, 3, 24), (3, 1, 2), (3, 2, 8), (4, 1, 8), (4, 2, 56), (4, 3, 24), (10, 1, 1), (10, 2, 8),
   (11, 1, 8), (11, 2, 56), (12, 1, 88), (12, 2, 88), (12, 3, 1), (13, 1, 8), (13, 2, 56)]
def dnpSizes2 : List (Nat × Nat × Nat) :=
  [(20, 1, 40), (20, 2, 24), (20, 5, 32), (20, 6, 16), (21, 1, 40), (21, 2, 24), (21, 5, 88), (21, 6, 72), (21, 9, 32), (21, 10, 16),
   (22, 1, 40), (22, 2, 24), (22, 5, 88), (22, 6, 72), (23, 1, 40), (23, 2, 24), (23, 5, 88), (23, 6, 72)]
def dnpSizes3 : List (Nat × Nat × Nat) :=
  [(30, 1, 40), (30, 2, 24), (30, 3, 32), (30, 4, 16), (30, 5, 40), (30, 6, 72), (31, 1, 40), (31, 2, 24), (31, 3, 88), (31, 4, 72),
   (31, 5, 32), (31, 6, 16), (31, 7, 40), (31, 8, 72), (32, 1, 40), (32, 2, 24), (32, 3, 88), (32, 4, 72), (32, 5, 40), (32, 6, 72),
   (32, 7, 88), (32, 8, 120), (33, 1, 40), (33, 2, 24), (33, 3, 88), (33, 4, 72), (33, 5, 40), (33, 6, 72), (33, 7, 88), (33, 8, 120)]
def dnpSizes4 : List (Nat × Nat × Nat) :=
  [(34, 1, 16), (34, 2, 32), (34, 3, 32), (40, 1, 40), (40, 2, 24), (40, 3, 40), (40, 4, 72), (41, 1, 40), (41, 2, 24), (41, 3, 40),
   (41, 4, 72), (42, 1, 40), (42, 2, 24), (42, 3, 88), (42, 4, 72), (42, 5, 40), (42, 6, 72), (42, 7, 88), (42, 8, 120), (43, 1, 40),
   (43, 2, 24), (43, 3, 88), (43, 4, 72), (43, 5, 40), (43, 6, 72), (43, 7, 88), (43, 8, 120), (50, 1, 48), (50, 2, 80), (50, 3, 48),
   (50, 4, 88), (51, 1, 48), (51, 2, 48), (52, 1, 16), (52, 2, 16), (60, 1, 0), (60, 2, 0), (60, 3, 0), (60, 4, 0), (80, 1, 1)]
/-- The size of an object in bits; none for a group and variation the device does not carry. -/
def dnpBits (g v : Nat) : Option Nat :=
  ((dnpSizes1 ++ dnpSizes2 ++ dnpSizes3 ++ dnpSizes4).find? fun e => decide (e.1 = g) && decide (e.2.1 = v)).map (·.2.2)
/-- Functions whose object headers are followed by objects. -/
def dnpCarries (func : Nat) : Bool := decide (2 ≤ func) && decide (func ≤ 6) || decide (func = 0x81) || decide (func = 0x82)
/-- VALUE of an object (R261, R511): downward that of group 12 by its control code, upward the state of a binary point, otherwise 0. -/
def dnpValue (up : Bool) (g v : Nat) (d : List Byte) (bitAt : Nat) : Nat :=
  let c := byteN d 0
  if !up ∧ g = 12 ∧ !d.isEmpty ∧ v ≠ 3 then (if c / 64 = 1 ∨ (c / 64 = 0 ∧ (c % 16 = 1 ∨ c % 16 = 3)) then 1 else 0)
  else if up ∧ (g = 1 ∨ g = 2 ∨ g = 10) ∧ !d.isEmpty then (if v = 1 ∧ g ≠ 2 then c / 2 ^ bitAt % 2 else c / 128)
  else 0
/-- Objects of one header: count, first index, bytes of the index before each object, and the object data. The items and the bytes taken;
none where the data is too short or a packed object carries an index. -/
def dnpObjects (up : Bool) (func g v n first pre bits : Nat) (perObj : Bool) (whole : Item) (b : List Byte) : Option (List Item × Nat) :=
  if bits % 8 ≠ 0 ∧ 0 < pre then none
  else
    let step := pre + bits / 8
    let used := if bits % 8 = 0 then n * step else (n * bits + 7) / 8
    if b.length < used then none
    else
      let obj (i : Nat) : Item :=
        let o := if bits % 8 = 0 then i * step else i * bits / 8
        let ix := if 0 < pre then natAt b o pre else first + i
        { func := func, value := dnpValue up g v (slice b (o + pre) (if bits % 8 = 0 then bits / 8 else 1)) (i * bits % 8), obj := g * 256 + v
          lo := ix, hi := ix }
      some (if perObj then (List.range n).map obj else [whole], used)
/-- The object headers of a fragment (R261, R262); none where one is not in form. -/
def dnpHeaders (up : Bool) (func : Nat) : Nat → List Byte → Option (List Item)
  | 0, _ => none
  | k + 1, b =>
    if b.isEmpty then some []
    else
      let g := byteN b 0
      let v := byteN b 1
      let q := byteN b 2
      let each := decide (q = 0x17) || decide (q = 0x28) || decide (g = 12) || (up && (decide (g = 1) || decide (g = 2) || decide (g = 10)))
      let bits := if dnpCarries func then dnpBits g v else some 0
      let item (lo hi : Nat) : Item := { func := func, obj := g * 256 + v, lo := lo, hi := hi }
      let go (head n first pre : Nat) (whole : Item) (data : Bool) : Option (List Item) :=
        match (if data then bits else some 0) with
        | none => none
        | some w =>
          match dnpObjects up func g v n first pre w (each && data) whole (b.drop head) with
          | none => none
          | some (l, used) => (dnpHeaders up func k (b.drop (head + used))).map fun r => l ++ r
      if b.length < 3 ∨ g = 120 ∨ g = 121 then none
      else match q with
        | 0x00 => if b.length < 5 ∨ byteN b 4 < byteN b 3 then none
          else go 5 (byteN b 4 - byteN b 3 + 1) (byteN b 3) 0 (item (byteN b 3) (byteN b 4)) true
        | 0x01 => if b.length < 7 ∨ natAt b 5 2 < natAt b 3 2 then none
          else go 7 (natAt b 5 2 - natAt b 3 2 + 1) (natAt b 3 2) 0 (item (natAt b 3 2) (natAt b 5 2)) true
        | 0x06 => go 3 0 0 0 (item 0 0xFFFFFFFF) false
        | 0x07 => if b.length < 4 ∨ byteN b 3 = 0 then none else go 4 (byteN b 3) 0 0 (item 0 (byteN b 3 - 1)) true
        | 0x08 => if b.length < 5 ∨ natAt b 3 2 = 0 then none else go 5 (natAt b 3 2) 0 0 (item 0 (natAt b 3 2 - 1)) true
        | 0x17 => if b.length < 4 ∨ byteN b 3 = 0 then none else go 4 (byteN b 3) 0 1 (item 0 0) true
        | 0x28 => if b.length < 5 ∨ natAt b 3 2 = 0 then none else go 5 (natAt b 3 2) 0 2 (item 0 0) true
        | _ => none
/-- Functions accepted downward (R262). -/
def dnpFuncs : List Nat := [0x01, 0x02, 0x03, 0x04, 0x05, 0x06, 0x0D, 0x0E, 0x14, 0x15, 0x17]
/-- An IEEE 1815 link frame (R261, R262, R511). -/
def adaptDnp (up : Bool) (b : List Byte) : Option Parsed :=
  let len := byteN b 2
  let c := byteN b 3
  let size := 10 + (len - 5) + 2 * ((len - 5 + 15) / 16)
  let linkOk := if up then decide (c / 64 = 1) && (decide (c % 16 = 3) || decide (c % 16 = 4))
    else decide (c / 64 = 3) && decide (c / 16 % 2 = 0) && decide (c % 16 = 4)
  if b.length < 10 ∨ natAt b 0 2 ≠ 0x6405 ∨ len < 5 ∨ b.length ≠ size ∨ 292 < b.length ∨ crcDnp (b.take 8) ≠ natAt b 8 2 ∨ !linkOk then none
  else match dnpBlocks b.length (b.drop 10) with
    | none => none
    | some d =>
      let t := byteN d 0
      let a := byteN d 1
      let f := byteN d 2
      let okFunc := if up then decide (f = 0x81) || decide (f = 0x82) else dnpFuncs.contains f
      if d.length < (if up then 5 else 3) ∨ t / 64 ≠ 3 ∨ a / 64 ≠ 3 ∨ (!up ∧ a / 16 % 4 ≠ 0) ∨ !okFunc then none
      else (dnpHeaders up f d.length (d.drop (if up then 5 else 3))).map fun l =>
        { addr := if up then natAt b 6 2 else natAt b 4 2, addr2 := some (if up then natAt b 4 2 else natAt b 6 2), items := orOwn f l }

/-! ### IEC 60870-5-101 and -104 (R261, R262, R511) -/

/-- Bytes of the information element of a type (log entry 100). -/
def iecLen (t : Nat) : Option Nat :=
  match t with
  | 1 | 3 | 70 | 45 | 46 | 47 | 100 | 101 | 105 => some 1
  | 2 | 4 | 51 => some 4
  | 5 | 21 => some 2
  | 6 | 7 | 13 | 15 | 20 | 50 => some 5
  | 9 | 11 | 48 | 49 => some 3
  | 10 | 12 | 17 => some 6
  | 8 | 14 | 16 | 30 | 31 | 59 | 60 | 58 => some 8
  | 18 | 19 | 103 => some 7
  | 32 | 107 => some 9
  | 33 | 36 | 37 | 63 => some 12
  | 34 | 35 | 38 | 61 | 62 => some 10
  | 39 | 40 | 64 => some 11
  | 102 => some 0
  | _ => none
/-- Command types, accepted downward and, as confirmations, upward (R262). -/
def iecCommand (t : Nat) : Bool :=
  (decide (45 ≤ t) && decide (t ≤ 51)) || (decide (58 ≤ t) && decide (t ≤ 64)) || [100, 101, 102, 103, 105, 107].contains t
/-- The form of a CP56Time2a tag (R262). -/
def cp56Ok (d : List Byte) : Bool :=
  let m := byteN d 2
  decide (natAt d 0 2 < 60000) && decide (m % 64 < 60) && decide (m / 128 = 0) && decide (byteN d 3 % 32 < 24) && decide (1 ≤ byteN d 4 % 32) &&
    decide (1 ≤ byteN d 5 % 16) && decide (byteN d 5 % 16 ≤ 12)
/-- VALUE of an information element (R261, R511). -/
def iecValue (up : Bool) (t : Nat) (d : List Byte) : Nat :=
  let c := byteN d 0
  match t with
  | 45 => c % 2
  | 46 | 47 => if c % 4 = 2 then 1 else 0
  | 1 | 2 | 30 => if up then c % 2 else 0
  | 3 | 4 | 31 => if up ∧ c % 4 = 2 then 1 else 0
  | _ => 0
/-- OBJECT of an item (R261): the cause, S/E in bit 7, and QU or QL from bit 8 (log entry 100). -/
def iecObject (t cause : Nat) (d : List Byte) : Nat :=
  let q := match t with
    | 45 | 46 | 47 | 58 | 59 | 60 => let c := byteN d 0; c / 128 * 128 + c / 4 % 32 * 256
    | 48 | 49 | 61 | 62 => let c := byteN d 2; c / 128 * 128 + c % 128 * 256
    | 50 | 63 => let c := byteN d 4; c / 128 * 128 + c % 128 * 256
    | _ => 0
  cause + q
/-- An ASDU: `cotLen`, `caLen` and `ioaLen` are the sizes of its cause, common address and object address. -/
def adaptAsdu (up : Bool) (maxItem cotLen caLen ioaLen : Nat) (a : List Byte) : Option (Nat × List Item) :=
  let t := byteN a 0
  let n := byteN a 1
  let cot := byteN a 2
  let cause := cot % 64
  let h := 2 + cotLen + caLen
  let typeOk := iecCommand t || (up && ((decide (1 ≤ t) && decide (t ≤ 40)) || decide (t = 70)))
  let cotOk := up || (decide (cot / 64 = 0) && (if t = 102 then decide (cause = 5) else decide (cause = 6) || decide (cause = 8)) &&
    (decide (cotLen = 1) || decide (byteN a 3 = 0)))
  match iecLen t with
  | none => none
  | some w =>
    if !typeOk ∨ !cotOk ∨ n = 0 ∨ maxItem < n ∨ a.length ≠ h + n * (ioaLen + w) then none
    else
      let el (i : Nat) : List Byte := slice a (h + i * (ioaLen + w) + ioaLen) w
      let timed := (decide (58 ≤ t) && decide (t ≤ 64)) || decide (t = 107)
      if timed && (List.range n).any (fun i => !cp56Ok ((el i).drop (w - 7))) then none
      else some (natAt a (2 + cotLen) caLen, (List.range n).map fun i =>
        let ioa := natAt a (h + i * (ioaLen + w)) ioaLen
        { func := t, value := iecValue up t (el i), obj := iecObject t cause (el i), lo := ioa, hi := ioa })
/-- An FT1.2 frame of variable length. -/
def adapt101 (up : Bool) (maxItem : Nat) (b : List Byte) : Option Parsed :=
  let l := byteN b 1
  let body := slice b 4 l
  if b.length < 8 ∨ byteN b 0 ≠ 0x68 ∨ byteN b 2 ≠ l ∨ byteN b 3 ≠ 0x68 ∨ b.length ≠ l + 6 ∨ byteN b (l + 5) ≠ 0x16 ∨
      (body.foldl (fun n x => n + x.toNat) 0) % 256 ≠ byteN b (l + 4) ∨ (!up ∧ ¬(byteN b 4 / 64 % 2 = 1 ∧ byteN b 4 % 16 = 3)) then none
  else (adaptAsdu up maxItem 1 1 2 (body.drop 2)).map fun r => { addr := r.1, addr2 := some (byteN b 5), items := r.2 }
/-- An APDU in I-format. -/
def adapt104 (up : Bool) (maxItem : Nat) (b : List Byte) : Option Parsed :=
  if b.length < 6 ∨ byteN b 0 ≠ 0x68 ∨ byteN b 1 + 2 ≠ b.length ∨ byteN b 2 % 2 ≠ 0 then none
  else (adaptAsdu up maxItem 2 2 3 (b.drop 6)).map fun r => { addr := r.1, addr2 := some 0, items := r.2 }

/-! ### Modbus (R261, R262) -/

/-- A request PDU: its item; none where it is not accepted. -/
def modbusDown (p : List Byte) : Option Item :=
  let f := byteN p 0
  let start := beAt p 1 2
  let n := beAt p 3 2
  let range (lim : Nat) (len : Nat) : Option Item :=
    if n = 0 ∨ lim < n ∨ p.length ≠ len ∨ 65536 < start + n then none else some { func := f, lo := start, hi := start + n - 1 }
  match f with
  | 0x01 | 0x02 => range 2000 5
  | 0x03 | 0x04 => range 125 5
  | 0x05 => if p.length ≠ 5 ∨ ¬(n = 0xFF00 ∨ n = 0) then none else some { func := f, value := if n = 0xFF00 then 1 else 0, lo := start, hi := start }
  | 0x06 => if p.length ≠ 5 then none else some { func := f, value := n % 2, lo := start, hi := start }
  | 0x0F => if byteN p 5 ≠ (n + 7) / 8 then none else range 1968 (6 + byteN p 5)
  | 0x10 => if byteN p 5 ≠ 2 * n then none else range 123 (6 + byteN p 5)
  | _ => none
/-- A response PDU, exception responses included. -/
def modbusUp (p : List Byte) : Option Item :=
  let f := byteN p 0
  let known := [0x01, 0x02, 0x03, 0x04, 0x05, 0x06, 0x0F, 0x10].contains (f % 128)
  if !known then none
  else if 128 ≤ f then (if p.length = 2 then some { func := f } else none)
  else if f ≤ 4 then (if p.length = 2 + byteN p 1 then some { func := f } else none)
  else if p.length = 5 then some { func := f, lo := beAt p 1 2, hi := beAt p 1 2 } else none
/-- Modbus RTU and Modbus/TCP frames. -/
def adaptRtu (up : Bool) (b : List Byte) : Option Parsed :=
  let k := b.length - 2
  let pdu := slice b 1 (b.length - 3)
  if b.length < 4 ∨ crcModbus (b.take k) ≠ natAt b k 2 ∨ (!up ∧ ¬(1 ≤ byteN b 0 ∧ byteN b 0 ≤ 247)) then none
  else (if up then modbusUp pdu else modbusDown pdu).map fun i => { addr := byteN b 0, addr2 := none, items := [i] }
def adaptMbap (up : Bool) (b : List Byte) : Option Parsed :=
  if b.length < 8 ∨ beAt b 2 2 ≠ 0 ∨ beAt b 4 2 + 6 ≠ b.length then none
  else (if up then modbusUp (b.drop 7) else modbusDown (b.drop 7)).map fun i => { addr := byteN b 6, addr2 := some 0, items := [i] }

/-! ### GOOSE (R263) -/

/-- A BER element: tag, contents and what follows. -/
def tlv (b : List Byte) : Option (Nat × List Byte × List Byte) :=
  let n := byteN b 1
  let (h, len) := if n < 128 then (2, n) else if n = 0x81 then (3, byteN b 2) else if n = 0x82 then (4, beAt b 2 2) else (0, 0)
  if b.length < 2 ∨ h = 0 ∨ b.length < h + len then none else some (byteN b 0, slice b h len, b.drop (h + len))
/-- Elements one after another. -/
def tlvs : Nat → List Byte → Option (List (Nat × List Byte))
  | 0, _ => none
  | n + 1, b =>
    if b.isEmpty then some []
    else match tlv b with
      | some (t, v, r) => (tlvs n r).map fun l => (t, v) :: l
      | none => none
/-- The fields of a goosePdu in their order, with goID optional. -/
def gooseTags : List Nat := [0x80, 0x81, 0x82, 0x84, 0x85, 0x86, 0x87, 0x88, 0x89, 0x8A, 0xAB]
/-- The items of a goosePdu. -/
def goosePdu (b : List Byte) : Option (List Item) :=
  match tlv b with
  | some (0x61, v, []) =>
    match tlvs v.length v with
    | none => none
    | some fs =>
      let val (t : Nat) : List Byte := match fs.find? fun e => decide (e.1 = t) with | some e => e.2 | none => []
      let tags := fs.map (·.1)
      let order := decide (tags = gooseTags) || decide (tags = [0x80, 0x81, 0x82, 0x83] ++ gooseTags.drop 3)
      if !order ∨ leNat (val 0x87) ≠ 0 ∨ leNat (val 0x89) ≠ 0 then none
      else match tlvs (val 0xAB).length.succ (val 0xAB) with
        | none => none
        | some ms =>
          if beAt (val 0x8A) 0 (val 0x8A).length ≠ ms.length ∨ !(ms.all fun m => decide (0x83 ≤ m.1) && decide (m.1 ≤ 0x86)) then none
          else some (ms.zipIdx.map fun m =>
            { func := m.1.1, value := if m.1.1 = 0x83 then (if leNat m.1.2 = 0 then 0 else 1) else byteN m.1.2.reverse 0 % 2, lo := m.2, hi := m.2 })
  | _ => none
/-- A GOOSE APDU: downward Reserved1 is 0; upward it is the length of the extension that follows the goosePdu. -/
def adaptGoose (up : Bool) (b : List Byte) : Option Parsed :=
  let ext := beAt b 4 2
  if b.length < 8 ∨ 0x3FFF < beAt b 0 2 ∨ (!up ∧ ext ≠ 0) ∨ beAt b 2 2 + (if up then ext else 0) ≠ b.length then none
  else (goosePdu (slice b 8 (b.length - 8 - if up then ext else 0))).map fun l =>
    { addr := beAt b 0 2, addr2 := none, items := if l.isEmpty then [{ func := 0x61 }] else l }

/-! ### The adapter (R260) -/

/-- The adapter of a protocol on a payload; none is reason 0x14: a frame not in the subset, more items than the class budgets, or an egress
frame above 292 bytes. -/
def adapt (proto : Nat) (up : Bool) (maxItem : Nat) (b : List Byte) : Option Parsed :=
  let r := match proto with
    | 1 => adaptDnp up b
    | 2 => adapt101 up maxItem b
    | 3 => adapt104 up maxItem b
    | 4 => adaptRtu up b
    | 5 => adaptMbap up b
    | 6 => adaptGoose up b
    | _ => none
  r.filter fun p => decide (p.items.length ≤ maxItem) && (up || decide (b.length ≤ 292))

end Sys2Proof.Machine
end

