-- ==== Sys2Proof/Machine/Envelope.lean ====
section
/-! DEFINITION. The Ikivos envelope (R256-R259): header and signature blocks, the header checks of a heat, and the judgement of its
signature blocks (R45, R250, R257, R258). -/

namespace Sys2Proof.Machine

/-! ### Header and signature blocks (R256, R257) -/

/-- A signature block: its ALG field, the signer slot it names, and the signature. -/
structure SigBlock where
  alg  : Nat
  slot : Nat
  sig  : List Byte
  deriving DecidableEq, Repr

/-- Header fields. -/
def envLength (e : List Byte) : Nat := natAt e 0x04 2
def envNsig (e : List Byte) : Nat := natAt e 0x0A 1
def envPlen (e : List Byte) : Nat := natAt e 0x0C 2
def envSeq (e : List Byte) : Nat := natAt e 0x10 8
def envTime (e : List Byte) : Nat := natAt e 0x18 8
/-- The native frame. -/
def envPayload (e : List Byte) : List Byte := slice e 0x20 (envPlen e)
/-- Number of the signed bytes: up to the end of the padded payload (R258). -/
def envSigned (e : List Byte) : Nat := 0x20 + pad4 (envPlen e)
/-- Offset of signature block i, by the SLEN of those before it; with i = NSIG the length that the header's fields give (R259). -/
def blockOff (e : List Byte) : Nat → Nat
  | 0 => envSigned e
  | i + 1 => blockOff e i + 8 + pad4 (natAt e (blockOff e i + 4) 2)
/-- Signature block i. -/
def envBlock (e : List Byte) (i : Nat) : SigBlock :=
  let o := blockOff e i
  { alg := natAt e o 2, slot := natAt e (o + 2) 2 % 1024, sig := slice e (o + 8) (natAt e (o + 4) 2) }
/-- The signature blocks of an envelope that has at most two. -/
def envBlocks (e : List Byte) : List SigBlock := (List.range (min 2 (envNsig e))).map (envBlock e)

/-! ### Header checks (R259) -/

/-- Reserved fields and padding of a signature block. -/
def blockPadOk (e : List Byte) (i : Nat) : Bool :=
  let o := blockOff e i
  let n := natAt e (o + 4) 2
  zeroAt e (o + 1) 1 && decide (natAt e (o + 2) 2 < 1024) && zeroAt e (o + 6) 2 && zeroAt e (o + 8 + n) (pad4 n - n)
/-- No condition of reason 0x11 holds. -/
def envHeadOk (e : List Byte) : Bool :=
  decide (natAt e 0 2 = 0x4B49) && decide (natAt e 2 1 = 1) && zeroAt e 3 1 && decide (natAt e 6 2 < 4096) && decide (natAt e 8 2 < 1024) &&
    zeroAt e 0x0B 1 && zeroAt e 0x0E 2 && decide (1 ≤ envNsig e) && decide (envNsig e ≤ 2) && decide (envPlen e ≠ 0) &&
    decide (64 ≤ envLength e) && decide (envLength e ≤ 16384) && decide (envLength e = blockOff e (envNsig e)) &&
    decide (envLength e = e.length) && zeroAt e (0x20 + envPlen e) (pad4 (envPlen e) - envPlen e) &&
    (List.range (envNsig e)).all (blockPadOk e)
/-- Reason 0x12: longer than MAX_ENV, or more signed bytes than MAX_SIGNED (R44). -/
def PlanFile.envLong (p : PlanFile) (e : List Byte) : Bool := decide (p.maxEnv < envLength e) || decide (p.maxSigned < envSigned e)
/-- No condition of reason 0x13 holds: the blocks are those of the class. -/
def PlanFile.blocksOk (p : PlanFile) (e : List Byte) : Bool :=
  decide (envNsig e = p.sigs) && (List.range p.sigs).all fun i =>
    let b := envBlock e i
    decide (p.prog.algs[i]? = some b.alg) && decide (natAt e (blockOff e i + 4) 2 = algSlen b.alg) && decide (b.alg ≠ 0xF0) && decide (algSlen b.alg ≠ 0)

/-! ### Signatures (R45, R206, R257, R258) -/

/-- The prefix that RFC 8032 puts before an Ed25519ph prehash: its string, phflag 1 and an empty context (R167). -/
def dom2 : List Byte :=
  [0x53, 0x69, 0x67, 0x45, 0x64, 0x32, 0x35, 0x35, 0x31, 0x39, 0x20, 0x6E, 0x6F, 0x20, 0x45, 0x64, 0x32, 0x35, 0x35, 0x31, 0x39, 0x20, 0x63,
   0x6F, 0x6C, 0x6C, 0x69, 0x73, 0x69, 0x6F, 0x6E, 0x73, 0x01, 0x00]
/-- What a hash pair makes of the signed bytes for an algorithm: the digest, or μ under the tr of the named slot; none where it ends
DONE_FAIL (R206, R257). -/
def State.sigDigest (s : State) (maxSigned alg slot : Nat) (m : List Byte) : Option (List Byte) :=
  match alg with
  | 0x01 | 0x10 => some (sha256 m)
  | 0x04 | 0x11 => some (sha384 m)
  | 0x12 => some (sha512 m)
  | 0x08 => some (if maxSigned ≤ 256 then m else sha512 m)
  | 0x20 | 0x22 => (s.slotTr slot).map fun tr => shake256 64 (tr ++ [0, 0] ++ m)
  | _ => none
/-- The engine's input: for Ed25519ph the prehash behind its prefix (R167). -/
def engineInput (maxSigned alg : Nat) (d : List Byte) : List Byte := if alg = 0x08 ∧ 256 < maxSigned then dom2 ++ d else d
/-- Outcome of an engine's verification with the key of a slot (R176). -/
def State.slotVerify (s : State) (alg slot : Nat) (input sig : List Byte) : Bool :=
  match s.slotKey slot alg with
  | none => false
  | some key =>
    (if alg = 0x08 then pkOp alg 0 [] key sig input [] else pkOp alg (alg % 16) [] key input sig []).isSome
/-- A signature block is valid: its hash ended DONE_OK and its engine ended DONE_OK (R45). -/
def State.blockValid (s : State) (maxSigned : Nat) (e : List Byte) (i : Nat) : Bool :=
  let b := envBlock e i
  match s.sigDigest maxSigned b.alg b.slot (e.take (envSigned e)) with
  | some d => s.slotVerify b.alg b.slot (engineInput maxSigned b.alg d) b.sig
  | none => false
/-- The record's digest: that of the first block, zero-extended to 64 bytes (R311). -/
def State.envDigest (s : State) (maxSigned : Nat) (e : List Byte) : List Byte :=
  let b := envBlock e 0
  (((s.sigDigest maxSigned b.alg b.slot (e.take (envSigned e))).getD []) ++ zeros 64).take 64
/-- IDENTITY of a signer slot (R237). -/
def State.slotIdentity (s : State) (n : Nat) : Nat := leNat (s.bytes (slotBase n + 4) 4)
/-- Two signature blocks whose slots differ in IDENTITY (R250). -/
def State.twoSigners (s : State) (e : List Byte) : Bool :=
  decide (envNsig e = 2) && decide (s.slotIdentity (envBlock e 0).slot ≠ s.slotIdentity (envBlock e 1).slot)

end Sys2Proof.Machine
end

