-- ==== Sys2Proof/Machine/Policy.lean ====
section
/-! DEFINITION. Command policy (R247-R254): the allow-list, the combined fields of the entries that items match, rate limits, time
windows and interlocks. -/

namespace Sys2Proof.Machine

/-! ### The allow-list (R247-R249) -/

/-- The entry of a partner class in a POLICY section; none for an index of NCLASS or above (R245). -/
def polEntry (b : List Byte) (index : Nat) : Option Nat := if index < polNClass b then some (polClassAt index) else none
/-- An item matches the allow entry at an offset (R247). -/
def Item.matches (i : Item) (b : List Byte) (o : Nat) : Bool :=
  let lo := natAt b (o + 8) 4
  let hi := natAt b (o + 12) 4
  decide (i.func = natAt b o 1) && decide (i.obj &&& natAt b (o + 4) 2 = natAt b (o + 2) 2 &&& natAt b (o + 4) 2) &&
    decide (lo ≤ i.lo) && decide (i.lo ≤ hi) && decide (lo ≤ i.hi) && decide (i.hi ≤ hi) &&
    (match natAt b (o + 6) 1 with | 0 => true | 1 => decide (i.value % 2 = 1) | 2 => decide (i.value % 2 = 0) | _ => false)
/-- An item's entry: the first of the partner class that it matches, as an offset (R247). -/
def allowOf (b : List Byte) (cls : Nat) (i : Item) : Option Nat :=
  ((List.range (pcAllowCount b cls)).map fun k => polAllowAt b (pcAllowFirst b cls + k)).find? (i.matches b)
/-- Fields of the items' entries, each combined by OR (R248). -/
structure Combined where
  two   : Bool := false
  rates : Nat := 0
  il    : Nat := 0
  set   : Nat := 0
  clear : Nat := 0
  deriving DecidableEq, Repr
def combine (b : List Byte) (l : List Nat) : Combined :=
  l.foldl (fun c o =>
    let f := natAt b (o + 1) 1
    { two := c.two || decide (f % 2 = 1), rates := c.rates ||| f / 2 % 16, il := c.il ||| natAt b (o + 7) 1, set := c.set ||| natAt b (o + 0x10) 4
      clear := c.clear ||| natAt b (o + 0x14) 4 }) {}
/-- POLICY_LOCAL.DENY_ALL of a context (R249). -/
def Ctx.denyAll (x : Ctx) : Bool := decide (x.cfgNat 0x590 1 % 2 = 1)

/-! ### Rates, windows and interlocks (R251-R253) -/

/-- The effective limit of counter k: the lower non-zero value, 0 for none (R251). -/
def rateLimit (b : List Byte) (cls : Nat) (x : Ctx) (k : Nat) : Nat :=
  let l := natAt b (cls + 8 + 4 * k) 4
  let o := x.cfgNat (0x580 + 4 * k) 4
  if l = 0 then o else if o = 0 then l else min l o
/-- A counter named in the combined RATE is at its limit in the image, at the ingress time ti in µs (R251). -/
def rateHit (b : List Byte) (cls : Nat) (x : Ctx) (rates ti : Nat) : Bool :=
  (List.range 4).any fun k =>
    let l := rateLimit b cls x k
    let r := Sparse.get {} x.rate k
    rates.testBit k && decide (l ≠ 0) && decide (r.epoch = rateEpoch k ti) && decide (l ≤ r.count)
/-- A time window admits a local time, given as weekday and minute (R252). -/
def windowAdmits (w day m : Nat) : Bool :=
  let start := w / 2 ^ 8 % 2 ^ 11
  let stop := w / 2 ^ 19 % 2 ^ 11
  if start < stop then w.testBit day && decide (start ≤ m) && decide (m < stop)
  else decide (stop < start) && ((decide (start ≤ m) && w.testBit day) || (decide (m < stop) && w.testBit ((day + 6) % 7)))
/-- Time windows are in use and none admits the ingress time (R252). -/
def windowsMiss (b : List Byte) (cls ti : Nat) : Bool :=
  let u : Int := (ti / 1000000 : Nat) + polOffset b
  let day := ((u / 86400 + 3) % 7).toNat
  let m := (u % 86400 / 60).toNat
  decide (pcTwCount b cls ≠ 0) && !((List.range (pcTwCount b cls)).any fun k => windowAdmits (natAt b (cls + 0x18 + 4 * k) 4) day m)
/-- The partner whose state word read i of a heat names: that of the class's interlock entry i, or the heat's own (R253). -/
def stateReadOf (b : List Byte) (x : Ctx) (own i : Nat) : Nat :=
  match polEntry b (x.cfgNat 0x2D4 2) with
  | some c => if i < pcIlCount b c then natAt b (polIlAt b (pcIlFirst b c + i)) 2 % 4096 else own
  | none => own
/-- An interlock whose bit is in the combined IL_MASK holds against the command, by the state words as read (R253). -/
def interlocked (b : List Byte) (cls il : Nat) (states : List Word) : Bool :=
  (List.range (pcIlCount b cls)).any fun i =>
    let o := polIlAt b (pcIlFirst b cls + i)
    let v := bit (states.getD i 0) (natAt b (o + 2) 1)
    il.testBit i && (if natAt b (o + 3) 1 = 0 then v else !v)

/-! ### The policy step (R254) -/

/-- Entries of the items under a partner's class; none where an item has no entry or the class is not there (R245, R247). -/
def allowAll (b : List Byte) (x : Ctx) (items : List Item) : Option (List Nat) :=
  (polEntry b (x.cfgNat 0x2D4 2)).bind fun c => items.mapM (allowOf b c)
/-- The tests of the policy step with their reasons, in order (R254): `two` says whether the two-signer rule is met, `resv` whether an
egress entry is reserved. -/
def policyTests (b : List Byte) (x : Ctx) (items : List Item) (ti : Nat) (states : List Word) (two resv : Bool) : List (Bool × Nat) :=
  let entries := allowAll b x items
  let c := combine b (entries.getD [])
  let cls := polClassAt (x.cfgNat 0x2D4 2)
  [(entries.isNone || x.denyAll, 0x60), (c.two && !two, 0x61), (rateHit b cls x c.rates ti, 0x62), (windowsMiss b cls ti, 0x63),
   (interlocked b cls c.il states, 0x64), (!resv, 0x65)]

end Sys2Proof.Machine
end

