-- ==== Sys2Proof/Machine/Heat.lean ====
section
/-! DEFINITION. What the program of a heat does at the strokes that its occupancy records fix (R43-R53, R58, R59, R247-R254, R259-R266,
R311; log entry 99): it reads the partner context and the state words, judges its signature blocks, takes the policy step, fixes its
verdict, marks, writes its record, stages its frame or builds its upward envelope, and ends; the release and the uplink follow. -/

namespace Sys2Proof.Machine

/-- Change of the heat in progress on a pair. -/
def State.updHeat (s : State) (c p : Nat) (f : Heat → Heat) : State :=
  s.updCx c fun x => { x with heats := x.heats.map fun h => if h.pair = p ∧ !h.ended then f h else h }
/-- The context image of a heat; zeros before its partner read and for a context that is not there (R43, R220). -/
def Heat.image (h : Heat) : Ctx := h.img.getD {}
/-- Operation items the class budgets for (R244); a class without tables budgets for the greatest number (log entry 99). -/
def PlanFile.maxItem (p : PlanFile) : Nat := if p.policy.isEmpty then 8 else polMaxItem p.policy

/-! ### Reads, signatures and the reservation (R43, R45, R50, R222, R253) -/

/-- The partner read and the state word reads: the first record of the partner cache port is the context read, the next MAXIL are the state
words, in the contexts as they were before the stroke (R222, R253). -/
def State.heatRead (s : State) (c p : Nat) (h : Heat) (t : Nat) : State :=
  match h.plan.starts 6 t with
  | some 0 => s.updHeat c p fun h => { h with img := some (s.ctxBefore h.entry.partner) }
  | some (i + 1) =>
    if i < polMaxIl h.plan.policy then
      s.updHeat c p fun h => { h with states := h.states ++ [(s.ctxBefore (stateReadOf h.plan.policy h.image h.entry.partner i)).state] }
    else s
  | none => s
/-- Signature block i is verified by the engine of the i-th engine record (R43, R45). -/
def State.heatVerify (s : State) (c p : Nat) (h : Heat) (t : Nat) : State :=
  match h.plan.starts 3 t with
  | some i =>
    if h.plan.telemetry then s
    else s.updHeat c p fun h => { h with sigOk := h.sigOk ++ [decide (i < envNsig h.entry.env) && s.blockValid h.plan.maxSigned h.entry.env i] }
  | none => s
/-- The policy step reserves an egress entry of the port bound to the partner, where one is free (R50, R254). -/
def State.heatReserve (s : State) (c p : Nat) (h : Heat) (t : Nat) : State :=
  let x := h.image
  let port := x.cfgNat 0x2C4 1
  if (h.plan.starts 8 t).isNone || h.plan.telemetry || decide (x.version = 0) || decide (8 ≤ (s.egq port).length) then s
  else (s.setEgq port (s.egq port ++ [{ tag := h.entry.tag, course := c, pair := p, partner := h.entry.partner }])).updHeat c p
    fun h => { h with resv := true }

/-! ### The verdict of a command heat (R46, R58) -/

/-- The sender's source is permitted for the partner (R220). -/
def Ctx.permits (x : Ctx) (src : Nat) : Bool :=
  if src < 64 then (x.cfgByte (0x2E0 + src / 8)).getLsbD (src % 8)
  else decide (256 ≤ src) && (x.cfgByte (0x2F0 + (src - 256) / 8)).getLsbD ((src - 256) % 8)
/-- The adapter's result on a command's payload: a GOOSE frame must leave room for its extension (R260, R263). -/
def Heat.parsed (h : Heat) : Option Parsed :=
  let pay := envPayload h.entry.env
  (adapt h.plan.prog.proto false h.plan.maxItem pay).filter fun _ => decide (h.plan.prog.proto ≠ 6) || decide (pay.length + Config.gooseExtLen ≤ 292)
/-- The frame's addresses are those of the context's binding (R220). -/
def Ctx.bound (x : Ctx) (r : Parsed) : Bool :=
  decide (r.addr = x.addr) && (match r.addr2 with | some a => decide (a = x.addr2) | none => true)
/-- A named signer slot is in the partner's bitmap (R220). -/
def Ctx.signs (x : Ctx) (b : SigBlock) : Bool := (x.cfgByte (0x380 + b.slot / 8)).getLsbD (b.slot % 8)
/-- Every signature block is valid and names an allowed slot (R45, R46). -/
def Heat.signed (h : Heat) : Bool :=
  (envBlocks h.entry.env).all h.image.signs && (List.range (envNsig h.entry.env)).all fun i => h.sigOk.getD i false
/-- Reasons of R46 in the order of its rows and, within REFUSE_STALE, of R229; the lack of a journal slot overrides them all (R51). -/
def State.heatTests (s : State) (h : Heat) : List (Bool × Nat) :=
  let e := h.entry.env
  let x := h.image
  let q := envSeq e
  let te := envTime e
  let ti := h.entry.time
  [(h.slot.isNone, 0x75), (decide (s.svc = 3), 0x90), (decide (s.svc = 2), 0x80), (decide (h.cls = 0), 0x10), (!envHeadOk e, 0x11),
   (h.plan.envLong e, 0x12), (!h.plan.blocksOk e, 0x13), (h.parsed.isNone, 0x14), (!x.enabled || decide (x.version = 0), 0x20),
   (!x.permits h.entry.src, 0x21),
   (!(x.cfgByte (0x300 + h.cls / 8)).getLsbD (h.cls % 8) || decide (x.cfgNat 0x2C6 1 ≠ h.plan.prog.proto), 0x22),
   (match h.parsed with | some r => !x.bound r | none => true, 0x23), (!h.signed, 0x30), (x.tooOld q, 0x40),
   (x.known q && !x.inRing q h.entry.tag, 0x41), (!h.entry.valid, 0x52), (decide (x.fence ≠ 0) && decide (te < x.fence), 0x51),
   (decide (te + 1000 * x.cfgNat 0x2D0 4 < ti) || decide (ti + 50000 ≤ te), 0x50)] ++
  policyTests h.plan.policy x ((h.parsed.map (·.items)).getD []) ti h.states (s.twoSigners e) h.resv
/-- The verdict that goes with a reason: the reason codes of R46 carry it in their upper half. -/
def reasonVerdict (reason : Nat) : Nat := reason / 16
/-- Verdict and reason at the verdict stroke; ACCEPT where no condition holds. -/
def State.heatReason (s : State) (h : Heat) : Nat × Nat :=
  let r := (firstReason (s.heatTests h)).getD 0
  (reasonVerdict r, r)
/-- The check-and-mark of a heat, which reaches the port in the verdict stroke (R48, R223, R248). -/
def State.heatMark (s : State) (c p : Nat) (h : Heat) (mark : Bool) (k : Combined) : State :=
  { s with ptn := { s.ptn with marks := s.ptn.marks ++
      [{ course := c, pair := p, seq := envSeq h.entry.env, tag := h.entry.tag, partner := h.entry.partner, mark := mark
         rates := BitVec.ofNat 4 (if mark then k.rates else 0), set := w32 k.set, clear := w32 k.clear, dest := 0, stroke := s.stroke
         arrive := s.stroke, heat := mark }] } }
/-- The verdict stroke of a command heat: an ACCEPT is marked, any other verdict frees the reservation (R48, R50, R58). -/
def State.commandVerdict (s : State) (c p : Nat) (h : Heat) : State :=
  let v := s.heatReason h
  let s1 := s.updHeat c p fun h => { h with verdict := some v }
  if v.1 = 0 then
    s1.heatMark c p h true (combine h.plan.policy ((allowAll h.plan.policy h.image ((h.parsed.map (·.items)).getD [])).getD []))
  else s1.unreserve c p h.entry.tag

/-! ### Telemetry heats (R59, R264-R266) -/

/-- The upward header (R264). -/
def Heat.upHeader (h : Heat) (malformed mac : Bool) (size : Nat) : List Byte :=
  let bs := h.entry.env
  let flags := 1 + (if h.lockHdr then 2 else 0) + (if malformed then 4 else 0) + (if mac then 8 else 0)
  leBytes 2 0x4B49 ++ leBytes 1 1 ++ leBytes 1 flags ++ leBytes 2 (32 + pad4 bs.length + 8 + pad4 size) ++ leBytes 2 h.entry.partner ++ leBytes 2 h.cls ++
    [1, 0] ++ leBytes 2 bs.length ++ [0, 0] ++ leBytes 8 h.entry.tag ++ leBytes 8 h.entry.time
/-- The block header of an upward envelope (R257, R265, R266). -/
def upBlock (alg slot size : Nat) : List Byte := leBytes 2 alg ++ leBytes 2 slot ++ leBytes 2 size ++ [0, 0]
/-- A MAC'd envelope (R265); none where its session key resolves to no key. -/
def State.upMac (s : State) (h : Heat) (malformed : Bool) : Option (List Byte) :=
  let ix := h.plan.prog.keyIx
  let gen := h.image.cfgNat (0x400 + 48 * ix) 1
  let aad := h.upHeader malformed true 28 ++ h.entry.env ++ zeros (pad4 h.entry.env.length - h.entry.env.length) ++ upBlock 0xF0 (ix + 256 * gen) 28
  let iv := leBytes 8 h.entry.time ++ leBytes 4 (h.entry.tag / 2 ^ 60 * 2 ^ 28 + h.entry.tag % 2 ^ 28)
  (s.handleKey (w32 (2 ^ 28 + h.entry.partner * 2 ^ 16 + ix * 2 ^ 8 + gen))).map fun key => aad ++ iv ++ gcmTag key iv aad []
/-- A signed envelope (R266) with the telemetry key in the pair's key plane (R395); an ML-DSA-65 class signs a second time where the first
command ends in DONE_FAIL; none where every signing fails. -/
def State.upSign (s : State) (c p : Nat) (h : Heat) (malformed : Bool) : Option (List Byte) :=
  let alg := h.plan.prog.upAlg
  let size := algSlen alg
  let m := h.upHeader malformed false size ++ h.entry.env ++ zeros (pad4 h.entry.env.length - h.entry.env.length)
  let kw := s.words (planeBase c (2 * p) + 4 * (2032 + 8 * h.plan.prog.keyIx)) 8
  let key := bytesOf kw
  let try_ (i : Nat) : Option (List Byte) :=
    if !(kw.all fun w => decide (w.tag = Tag.key)) then none
    else if alg = 0x01 then (pkOp 0x02 0 key [] (sha256 m) [] ((List.range 64).map fun j => Config.freeByte (s.free + 64 * i + j))).map (·.1)
    else
      let k := dsa65.keyGen key
      let tr := shake256 64 (dsaPublic k.1 k.2.2.2.2)
      (pkOp 0x21 0 key [] (shake256 64 (tr ++ [0, 0] ++ m)) [] ((List.range 32).map fun j => Config.freeByte (s.free + 64 * i + j))).map (·.1)
  (if alg = 0x20 then (try_ 0).orElse fun _ => try_ 1 else try_ 0).map fun sig =>
    m ++ upBlock alg h.plan.prog.keyIx size ++ sig ++ zeros (pad4 size - size)
/-- A received GOOSE frame's extension is there and verifies; whether it does is open (log entry 101). -/
def State.gooseGood (s : State) (h : Heat) : Bool :=
  decide (h.plan.prog.proto ≠ 6) || (decide (beAt h.entry.env 4 2 ≠ 0) && bit s.freeW 0)
/-- Reasons of a telemetry heat's verdict in the order of R46, where REFUSE_INTERNAL comes first; the service state is none of them (R59,
R264-R266; log entry 99): its envelope, the adapter's result and whether a GOOSE frame's extension is good. -/
def Heat.telemetryTests (h : Heat) (out parsed good : Bool) : List (Bool × Nat) :=
  [(!out, 0x72), (h.slot.isNone, 0x75), (!parsed, 0x14), (!h.image.enabled || decide (h.image.version = 0), 0x20), (!good, 0x30),
   (decide (h.plan.prog.upAlg = 0xF0) && !h.entry.valid, 0x52)]
/-- Reasons with which a telemetry heat builds no envelope (R51, R264, R265). -/
def noEnvelope (reason : Nat) : Bool := [0x72, 0x75, 0x30, 0x52].contains reason
/-- The verdict stroke of a telemetry heat: its verdict, its envelope, and its STATE updates, one for each item with an entry (R59, R253,
R264-R266). -/
def State.telemetryVerdict (s : State) (c p : Nat) (h : Heat) : State :=
  let r := adapt h.plan.prog.proto true h.plan.maxItem h.entry.env
  let good := s.gooseGood h
  let mac := decide (h.plan.prog.upAlg = 0xF0)
  let out := if mac then s.upMac h r.isNone else s.upSign c p h r.isNone
  let held := (h.telemetryTests out.isSome r.isSome good).filter (·.1)
  let reason := (firstReason held).getD 0
  let s1 : State := { s with free := s.free + 128 }
  let s2 := s1.updHeat c p fun h => { h with verdict := some (reasonVerdict reason, reason)
                                             up := if held.any fun t => noEnvelope t.2 then none else out }
  let live := h.slot.isSome && good && h.image.enabled && decide (h.image.version ≠ 0)
  let items := if live then (r.map (·.items)).getD [] else []
  match polEntry h.plan.policy (h.image.cfgNat 0x2D4 2) with
  | none => s2
  | some cls => (items.filterMap (allowOf h.plan.policy cls)).foldl (fun s o => s.heatMark c p h false (combine h.plan.policy [o])) s2
/-- The header stroke of a telemetry heat fixes FLAGS.LOCKED (R264). -/
def State.heatHeader (s : State) (c p : Nat) (h : Heat) (t : Nat) : State :=
  if h.plan.telemetry && decide (h.plan.prog.headerAt = t) then s.updHeat c p fun h => { h with lockHdr := decide (s.svc = 3) } else s

/-! ### The record and the staged frame (R51, R52, R58, R311) -/

/-- The record of a heat (R311). Of a HELD or LOCKED record the fields that come from checks are 0 (R58); where the header was not parsed
the digest and the slots are open, as the digest is where the engine takes the signed bytes themselves; DETAIL is the class's own (log
entry 99). -/
def State.heatRecord (s : State) (c p : Nat) (h : Heat) (v : Nat × Nat) : List Byte :=
  let e := h.entry.env
  let held := decide (v.2 = 0x80) || decide (v.2 = 0x90)
  let blank := !h.plan.telemetry && (decide (h.cls = 0) || !envHeadOk e || h.plan.envLong e)
  let z (n : Nat) (bs : List Byte) : List Byte := if held then zeros n else bs
  let seqTime := if h.plan.telemetry then leBytes 8 h.entry.tag ++ leBytes 8 h.entry.time else leBytes 8 (envSeq e) ++ leBytes 8 (envTime e)
  let slots := if h.plan.telemetry then [0xFF, 0xFF, 0xFF, 0xFF] else if blank then s.freeBs 4
    else leBytes 2 (envBlock e 0).slot ++ (if envNsig e = 2 then leBytes 2 (envBlock e 1).slot else [0xFF, 0xFF])
  let pure := decide (h.plan.prog.algs.headD 0 = 0x08) && decide (h.plan.maxSigned ≤ 256)
  let digest := if h.plan.telemetry || blank || pure then ((List.range 64).map fun i => Config.freeByte (s.free + 4 + i)) else s.envDigest h.plan.maxSigned e
  let detail := (List.range 48).map fun i => Config.freeByte (s.free + 68 + i)
  zeros 8 ++ leBytes 8 h.entry.tag ++ leBytes 8 h.entry.stroke ++ leBytes 8 h.entry.time ++ z 16 seqTime ++ leBytes 2 h.entry.partner ++
    leBytes 2 h.cls ++ leBytes 1 v.1 ++ leBytes 1 v.2 ++ leBytes 1 ((if h.rerun then 1 else 0) + (if h.plan.telemetry then 2 else 0)) ++
    leBytes 1 (c + 16 * p) ++ leBytes 2 h.entry.src ++ z 4 slots ++ zeros 2 ++ leBytes 4 (polVersion h.plan.policy) ++ leBytes 4 h.plan.version ++
    leBytes 8 (h.launch + h.plan.verdictAt) ++ z 112 (digest ++ detail) ++ zeros 64
/-- The frame that the egress stage gets: the payload (R260), for GOOSE with the extension and its length (R263). -/
def State.egressFrame (s : State) (h : Heat) : List Byte :=
  let pay := envPayload h.entry.env
  if h.plan.prog.proto = 6 then pay.take 4 ++ beBytes 2 Config.gooseExtLen ++ pay.drop 6 ++ s.freeBs Config.gooseExtLen else pay
/-- At the end of the journal step the record is complete in its slot, and the frame, all zeros where the verdict is not ACCEPT, is
staged in the reserved entry (R51, R52). -/
def State.heatJournal (s : State) (c p : Nat) (h : Heat) : State :=
  let v := h.verdict.getD (7, 0x75)
  let s1 := match h.slot with | some k => s.putInts (jslotAt c k) (s.heatRecord c p h v) | none => s
  let s2 : State := { s1 with free := s1.free + 116 + Config.gooseExtLen }
  if h.plan.telemetry then s2
  else
    let f := if v.1 = 0 then s1.egressFrame h else zeros (envPlen h.entry.env)
    let s3 := s2.updHeat c p fun h => { h with frame := some f }
    match s3.stagedPort c p h.entry.tag with
    | some port => s3.setEgq port ((s3.egq port).map fun e =>
        if e.tag = h.entry.tag ∧ e.course = c ∧ e.pair = p ∧ !e.released then { e with bytes := f } else e)
    | none => s3

/-! ### The strokes of a heat -/

/-- The heats listed, by course and pair. -/
def State.heatKeys (s : State) : List (Nat × Nat) := s.cox.flatMap fun (x : Nat × Cox) => x.2.heats.map fun h => (x.1, h.pair)
/-- The steps of the heat in progress on a pair that fall on the present stroke, up to its check-and-mark. -/
def State.heatOpen (s : State) (c p : Nat) : State :=
  match (s.cx c).heats.find? fun h => decide (h.pair = p) && !h.ended with
  | none => s
  | some h =>
    let t := s.stroke - h.launch
    let s1 := (((s.heatRead c p h t).heatVerify c p h t).heatReserve c p h t).heatHeader c p h t
    if h.plan.verdictAt ≠ t then s1
    else match (s1.cx c).heats.find? fun h => decide (h.pair = p) && !h.ended with
      | none => s1
      | some h => if h.plan.telemetry then s1.telemetryVerdict c p h else s1.commandVerdict c p h
/-- The steps after it: a failed mark turns ACCEPT into reason 0x42 (R48); the record; END at the last stroke (R122). An upward envelope
goes to the uplink, and a staged frame is released, at the stroke TOTAL (R52, R264). -/
def State.heatShut (s : State) (c p : Nat) : State :=
  match (s.cx c).heats.find? fun h => decide (h.pair = p) with
  | none => s
  | some h =>
    let t := s.stroke - h.launch
    if h.ended then
      if t ≠ h.total then s
      else match h.up with
        | some e => fUplink h.entry.src e (s.updCx c fun x => { x with heats := x.heats.map fun y => if y.pair = p then { y with up := none } else y })
        | none => fEgressRelease c p true s
    else
      let lost := decide (h.marked = some false) && decide (h.verdict = some (0, 0))
      let h1 := if lost then { h with verdict := some (4, 0x42) } else h
      let s1 := if lost then (s.updHeat c p fun _ => h1).unreserve c p h.entry.tag else s
      let s2 := if t = h.plan.recordAt then s1.heatJournal c p h1 else s1
      if t + 1 = h.total then (s2.updPair c p endProc).heatEnd c p else s2
/-- The pair of a telemetry heat that has an upward envelope from a source to send in this stroke. -/
def State.upReady (s : State) (src : Nat) : Option (Nat × Nat) :=
  s.heatKeys.find? fun k => (s.cx k.1).heats.any fun h => decide (h.pair = k.2) && h.ended && h.up.isSome && decide (h.entry.src = src) &&
    decide (s.stroke = h.launch + h.total)
/-- UPLINK_ENVELOPE: the envelope that a telemetry heat has built goes out; where there is none, one of a legacy instance does (R133, R273). -/
def fUplinkEnvelope (src : Nat) (env : List Byte) (s : State) : State :=
  match s.upReady src with
  | some k => s.heatShut k.1 k.2
  | none => fUplink src env s
/-- Every heat's steps of the stroke before and after the partner cache takes the check-and-marks. -/
def State.heatsOpen (s : State) : State := s.heatKeys.foldl (fun s k => s.heatOpen k.1 k.2) s
def State.heatsShut (s : State) : State := s.heatKeys.foldl (fun s k => s.heatShut k.1 k.2) s

/-! ### The row -/

/-- UPLINK_ENVELOPE (R273). -/
def execUplinkEnvelope (src : Fin 256) (env : List Byte) (s : State) : Host.Outcome State Fault Refusal := .next (fUplinkEnvelope src env s)

end Sys2Proof.Machine
end

