-- ==== Sys2Proof/Machine/TileAlu.lean ====
section
/-! DEFINITION. The computing instructions of the GTIS processors: ALU, multiply, limb and tag groups (R77, R78). -/

namespace Sys2Proof.Machine

/-- Result of a three-register instruction from the two operand words. -/
def State.alu (s : State) (p : ProcId) (d a b : Fin 32) (f : TWord → TWord → Option TWord) : State :=
  s.compute p d.val (fun x => [x.r a.val, x.r b.val]) (fun x => f (x.r a.val) (x.r b.val))
/-- Result of an instruction with one register operand. -/
def State.alu1 (s : State) (p : ProcId) (d a : Fin 32) (f : TWord → Option TWord) : State :=
  s.compute p d.val (fun x => [x.r a.val]) (fun x => f (x.r a.val))
/-- A limb instruction that also writes CY. -/
def State.aluCy (s : State) (p : ProcId) (d a b : Fin 32) (f : Word → Word → Bool → Word × Bool) : State :=
  s.issue p false
    (fun x =>
      let r := onLimb (x.r a.val) (x.r b.val) fun u v => (f u v x.cy).1
      [chkUse [x.r a.val, x.r b.val], chkTag (match r with | some w => spTagOk d.val w | none => false),
       chkSp x d.val (r.getD TWord.none)])
    (fun x s =>
      let r := f (x.r a.val).data (x.r b.val).data x.cy
      s.thenNext p { x.setR d.val ⟨r.1, Tag.limb⟩ with cy := r.2 })

/-- ADD (R77). -/
def execAdd (p : ProcId) (d a b : Fin 32) (s : State) : Host.Outcome State Fault Refusal :=
  .next (s.whenReady p [d.val, a.val, b.val] (s.alu p d a b addRes))

/-- SUB (R77). -/
def execSub (p : ProcId) (d a b : Fin 32) (s : State) : Host.Outcome State Fault Refusal :=
  .next (s.whenReady p [d.val, a.val, b.val] (s.alu p d a b subRes))

/-- AND (R77). -/
def execAnd (p : ProcId) (d a b : Fin 32) (s : State) : Host.Outcome State Fault Refusal :=
  .next (s.whenReady p [d.val, a.val, b.val] (s.alu p d a b fun x y => onInt x y (· &&& ·)))

/-- OR (R77). -/
def execOr (p : ProcId) (d a b : Fin 32) (s : State) : Host.Outcome State Fault Refusal :=
  .next (s.whenReady p [d.val, a.val, b.val] (s.alu p d a b fun x y => onInt x y (· ||| ·)))

/-- XOR (R77). -/
def execXor (p : ProcId) (d a b : Fin 32) (s : State) : Host.Outcome State Fault Refusal :=
  .next (s.whenReady p [d.val, a.val, b.val] (s.alu p d a b fun x y => onInt x y (· ^^^ ·)))

/-- SLL (R77): shift by b[4:0]. -/
def execSll (p : ProcId) (d a b : Fin 32) (s : State) : Host.Outcome State Fault Refusal :=
  .next (s.whenReady p [d.val, a.val, b.val] (s.alu p d a b fun x y => onInt x y fun u v => u <<< (v.toNat % 32)))

/-- SRL (R77). -/
def execSrl (p : ProcId) (d a b : Fin 32) (s : State) : Host.Outcome State Fault Refusal :=
  .next (s.whenReady p [d.val, a.val, b.val] (s.alu p d a b fun x y => onInt x y fun u v => u >>> (v.toNat % 32)))

/-- SRA (R77). -/
def execSra (p : ProcId) (d a b : Fin 32) (s : State) : Host.Outcome State Fault Refusal :=
  .next (s.whenReady p [d.val, a.val, b.val] (s.alu p d a b fun x y => onInt x y fun u v => u.sshiftRight (v.toNat % 32)))

/-- SLLI (R77). -/
def execSlli (p : ProcId) (d a : Fin 32) (sh : Fin 32) (s : State) : Host.Outcome State Fault Refusal :=
  .next (s.whenReady p [d.val, a.val] (s.alu1 p d a fun w => if w.tag = Tag.int then some (TWord.int (w.data <<< sh.val)) else none))

/-- SRLI (R77). -/
def execSrli (p : ProcId) (d a : Fin 32) (sh : Fin 32) (s : State) : Host.Outcome State Fault Refusal :=
  .next (s.whenReady p [d.val, a.val] (s.alu1 p d a fun w => if w.tag = Tag.int then some (TWord.int (w.data >>> sh.val)) else none))

/-- SRAI (R77). -/
def execSrai (p : ProcId) (d a : Fin 32) (sh : Fin 32) (s : State) : Host.Outcome State Fault Refusal :=
  .next (s.whenReady p [d.val, a.val] (s.alu1 p d a fun w => if w.tag = Tag.int then some (TWord.int (w.data.sshiftRight sh.val)) else none))

/-- SLT (R77). -/
def execSlt (p : ProcId) (d a b : Fin 32) (s : State) : Host.Outcome State Fault Refusal :=
  .next (s.whenReady p [d.val, a.val, b.val] (s.alu p d a b fun x y => if x.tag = Tag.int ∧ y.tag = Tag.int then some (boolInt (x.data.slt y.data)) else none))

/-- SLTU (R77). -/
def execSltu (p : ProcId) (d a b : Fin 32) (s : State) : Host.Outcome State Fault Refusal :=
  .next (s.whenReady p [d.val, a.val, b.val] (s.alu p d a b fun x y => if ordTags x y then some (boolInt (x.data.ult y.data)) else none))

/-- SEQ (R77). -/
def execSeq (p : ProcId) (d a b : Fin 32) (s : State) : Host.Outcome State Fault Refusal :=
  .next (s.whenReady p [d.val, a.val, b.val] (s.alu p d a b fun x y => if eqTags x y then some (boolInt (decide (x.data = y.data))) else none))

/-- SEL (R77): d selects a or b. -/
def execSel (p : ProcId) (d a b : Fin 32) (s : State) : Host.Outcome State Fault Refusal :=
  .next (s.whenReady p [d.val, a.val, b.val] (s.compute p d.val (fun x => [x.r d.val, x.r a.val, x.r b.val]) (fun x => selRes (x.r d.val) (x.r a.val) (x.r b.val))))

/-- BSWAP (R77). -/
def execBswap (p : ProcId) (d a : Fin 32) (s : State) : Host.Outcome State Fault Refusal :=
  .next (s.whenReady p [d.val, a.val] (s.alu1 p d a bswapRes))

/-- MUL (R77). -/
def execMul (p : ProcId) (d a b : Fin 32) (s : State) : Host.Outcome State Fault Refusal :=
  .next (s.whenReady p [d.val, a.val, b.val] (s.alu p d a b fun x y => onInt x y (· * ·)))

/-- MULHU (R77). -/
def execMulhu (p : ProcId) (d a b : Fin 32) (s : State) : Host.Outcome State Fault Refusal :=
  .next (s.whenReady p [d.val, a.val, b.val] (s.alu p d a b fun x y => onInt x y mulHiU))

/-- MULH (R77). -/
def execMulh (p : ProcId) (d a b : Fin 32) (s : State) : Host.Outcome State Fault Refusal :=
  .next (s.whenReady p [d.val, a.val, b.val] (s.alu p d a b fun x y => onInt x y mulHiS))

/-- LADDC (R77). -/
def execLaddc (p : ProcId) (d a b : Fin 32) (s : State) : Host.Outcome State Fault Refusal :=
  .next (s.whenReady p [d.val, a.val, b.val] (s.aluCy p d a b laddc))

/-- LSUBB (R77). -/
def execLsubb (p : ProcId) (d a b : Fin 32) (s : State) : Host.Outcome State Fault Refusal :=
  .next (s.whenReady p [d.val, a.val, b.val] (s.aluCy p d a b lsubb))

/-- LMULL (R77). -/
def execLmull (p : ProcId) (d a b : Fin 32) (s : State) : Host.Outcome State Fault Refusal :=
  .next (s.whenReady p [d.val, a.val, b.val] (s.alu p d a b fun x y => onLimb x y (· * ·)))

/-- LMULH (R77). -/
def execLmulh (p : ProcId) (d a b : Fin 32) (s : State) : Host.Outcome State Fault Refusal :=
  .next (s.whenReady p [d.val, a.val, b.val] (s.alu p d a b fun x y => onLimb x y mulHiU))

/-- MOV (R77). -/
def execMov (p : ProcId) (d a : Fin 32) (s : State) : Host.Outcome State Fault Refusal :=
  .next (s.whenReady p [d.val, a.val] (s.alu1 p d a copyRes))

/-- CVT (R78): a target code outside INT, PTR, LIMB and TIME is ILLEGAL. A NONE source raises TAG_USE as R77 says of operands. -/
def execCvt (p : ProcId) (d a : Fin 32) (t : Tag) (s : State) : Host.Outcome State Fault Refusal :=
  .next (s.whenReady p [d.val, a.val] (s.compute p d.val (fun x => [x.r a.val]) (fun x => cvtRes (x.r a.val) t) (fun _ => cvtTarget t)))

/-- TAGOF (R77): any tag, NONE and reserved codes among them. -/
def execTagof (p : ProcId) (d a : Fin 32) (s : State) : Host.Outcome State Fault Refusal :=
  .next (s.whenReady p [d.val, a.val] (s.compute p d.val (fun _ => []) (fun x => some (TWord.int (w32 (x.r a.val).tag.toNat)))))

/-- CLRT (R77). -/
def execClrt (p : ProcId) (d : Fin 32) (s : State) : Host.Outcome State Fault Refusal :=
  .next (s.whenReady p [d.val] (s.compute p d.val (fun _ => []) (fun _ => some TWord.none)))

/-- The 64-bit sum of TADD. -/
def taddSum (lo hi b : Word) : Nat := lo.toNat + 2 ^ 32 * hi.toNat + b.toNat

/-- TADD (R77): d and a even; the TIME pair (a+1:a) plus INT b, unsigned, to the pair (d+1:d). Its result is never a PTR, so
a pair that holds b31 mismatches (R63). -/
def fTadd (p : ProcId) (d a b : Fin 32) (s : State) : State :=
  s.issue p false
    (fun x =>
      [chkLegal (decide (d.val % 2 = 0) && decide (a.val % 2 = 0)), chkUse [x.r a.val, x.r (a.val + 1), x.r b.val],
       chkTag (decide ((x.r a.val).tag = Tag.time) && decide ((x.r (a.val + 1)).tag = Tag.time) &&
         decide ((x.r b.val).tag = Tag.int) && decide (d.val ≠ 30))])
    (fun x s =>
      let n := taddSum (x.r a.val).data (x.r (a.val + 1)).data (x.r b.val).data
      s.thenNext p ((x.setR d.val ⟨w32 n, Tag.time⟩).setR (d.val + 1) ⟨w32 (n / 2 ^ 32), Tag.time⟩))

/-- TADD (R77). -/
def execTadd (p : ProcId) (d a b : Fin 32) (s : State) : Host.Outcome State Fault Refusal :=
  .next (s.whenReady p [d.val, a.val, b.val, d.val + 1, a.val + 1] (fTadd p d a b s))

/-- ADDI (R77). -/
def execAddi (p : ProcId) (d a : Fin 32) (imm : BitVec 16) (s : State) : Host.Outcome State Fault Refusal :=
  .next (s.whenReady p [d.val, a.val] (s.alu1 p d a fun w => addiRes w imm))

/-- ANDI (R77): imm16 zero-extended. -/
def execAndi (p : ProcId) (d a : Fin 32) (imm : BitVec 16) (s : State) : Host.Outcome State Fault Refusal :=
  .next (s.whenReady p [d.val, a.val] (s.alu1 p d a fun w => if w.tag = Tag.int then some (TWord.int (w.data &&& imm.zeroExtend 32)) else none))

/-- ORI (R77): imm16 zero-extended. -/
def execOri (p : ProcId) (d a : Fin 32) (imm : BitVec 16) (s : State) : Host.Outcome State Fault Refusal :=
  .next (s.whenReady p [d.val, a.val] (s.alu1 p d a fun w => if w.tag = Tag.int then some (TWord.int (w.data ||| imm.zeroExtend 32)) else none))

/-- XORI (R77): imm16 zero-extended. -/
def execXori (p : ProcId) (d a : Fin 32) (imm : BitVec 16) (s : State) : Host.Outcome State Fault Refusal :=
  .next (s.whenReady p [d.val, a.val] (s.alu1 p d a fun w => if w.tag = Tag.int then some (TWord.int (w.data ^^^ imm.zeroExtend 32)) else none))

/-- SLTI (R77). -/
def execSlti (p : ProcId) (d a : Fin 32) (imm : BitVec 16) (s : State) : Host.Outcome State Fault Refusal :=
  .next (s.whenReady p [d.val, a.val] (s.alu1 p d a fun w => if w.tag = Tag.int then some (boolInt (w.data.slt (imm.signExtend 32))) else none))

/-- SLTIU (R77): imm16 sign-extended (R74), compared unsigned. -/
def execSltiu (p : ProcId) (d a : Fin 32) (imm : BitVec 16) (s : State) : Host.Outcome State Fault Refusal :=
  .next (s.whenReady p [d.val, a.val] (s.alu1 p d a fun w => if w.tag = Tag.int then some (boolInt (w.data.ult (imm.signExtend 32))) else none))

/-- LUI (R77). -/
def execLui (p : ProcId) (d : Fin 32) (imm : BitVec 16) (s : State) : Host.Outcome State Fault Refusal :=
  .next (s.whenReady p [d.val] (s.compute p d.val (fun _ => []) (fun _ => some (TWord.int (imm.zeroExtend 32 <<< 16)))))

/-- TAG (R77): re-tags INT data as I, P, L, H or T; another code is ILLEGAL, and so is user privilege (R66, R75). -/
def fTag (p : ProcId) (d a : Fin 32) (t : Tag) (s : State) : State :=
  s.compute p d.val (fun x => [x.r a.val])
    (fun x => if (x.r a.val).tag = Tag.int then some ⟨(x.r a.val).data, t⟩ else none)
    (fun x => x.super && dataTag t)

/-- TAG (R77). -/
def execTag (p : ProcId) (d a : Fin 32) (t : Sys2Proof.Tag) (s : State) : Host.Outcome State Fault Refusal :=
  .next (s.whenReady p [d.val, a.val] (fTag p d a t s))

end Sys2Proof.Machine
end

