-- ==== Sys2Proof/Machine/Dispatch.lean ====
section
/-! DEFINITION. The effect of every command: one arm per constructor of `Instr`, one direct call of its meaning. -/

namespace Sys2Proof.Machine

/-- A command's effect on everything but the queue. -/
def exec (i : Instr) (s : State) : Host.Outcome State Fault Refusal :=
  match i with
  | .registerWrite m addr size v => Sys2Proof.Machine.execRegisterWrite m addr size v s
  | .stkyClear m pg v hw => Sys2Proof.Machine.execStkyClear m pg v hw s
  | .faultTimeLoRead m addr => Sys2Proof.Machine.execFaultTimeLoRead m addr s
  | .softReset m pg v => Sys2Proof.Machine.execSoftReset m pg v s
  | .rwpShadowWrite m addr v => Sys2Proof.Machine.execRwpShadowWrite m addr v s
  | .eventRisingEdge ev => Sys2Proof.Machine.execEventRisingEdge ev s
  | .evtMaskWrite m k v => Sys2Proof.Machine.execEvtMaskWrite m k v s
  | .evtPendClear m k v rising => Sys2Proof.Machine.execEvtPendClear m k v rising s
  | .evtSwset m v => Sys2Proof.Machine.execEvtSwset m v s
  | .evtRdataWrite m v => Sys2Proof.Machine.execEvtRdataWrite m v s
  | .ethFrameReceived port f => Sys2Proof.Machine.execEthFrameReceived port f s
  | .reassemblyTimeout port key => Sys2Proof.Machine.execReassemblyTimeout port key s
  | .dupEntryExpiry port mac seq => Sys2Proof.Machine.execDupEntryExpiry port mac seq s
  | .hsrSupervision port => Sys2Proof.Machine.execHsrSupervision port s
  | .classification => Sys2Proof.Machine.execClassification s
  | .frameBoundary => Sys2Proof.Machine.execFrameBoundary s
  | .swapTimeout c => Sys2Proof.Machine.execSwapTimeout c s
  | .heatLaunch c entry => Sys2Proof.Machine.execHeatLaunch c entry s
  | .spareSlot c entry => Sys2Proof.Machine.execSpareSlot c entry s
  | .reissueTimeout c => Sys2Proof.Machine.execReissueTimeout c s
  | .lockstepMismatch c p => Sys2Proof.Machine.execLockstepMismatch c p s
  | .heatAbort c p cause tpc => Sys2Proof.Machine.execHeatAbort c p cause tpc s
  | .endNoticeWipe cipher k => Sys2Proof.Machine.execEndNoticeWipe cipher k s
  | .egressRelease c p compareEqual => Sys2Proof.Machine.execEgressRelease c p compareEqual s
  | .partnerContextRead => Sys2Proof.Machine.execPartnerContextRead s
  | .partnerStateRead => Sys2Proof.Machine.execPartnerStateRead s
  | .checkAndMark => Sys2Proof.Machine.execCheckAndMark s
  | .bbPendingSend => Sys2Proof.Machine.execBbPendingSend s
  | .bbLagTimeout p => Sys2Proof.Machine.execBbLagTimeout p s
  | .partnerDrain => Sys2Proof.Machine.execPartnerDrain s
  | .drainComplete => Sys2Proof.Machine.execDrainComplete s
  | .ckptPop m => Sys2Proof.Machine.execCkptPop m s
  | .partnerInstall m v => Sys2Proof.Machine.execPartnerInstall m v s
  | .partnerUpdate m v => Sys2Proof.Machine.execPartnerUpdate m v s
  | .partnerEnable m v => Sys2Proof.Machine.execPartnerEnable m v s
  | .partnerDisable m v => Sys2Proof.Machine.execPartnerDisable m v s
  | .partnerErase m v => Sys2Proof.Machine.execPartnerErase m v s
  | .partnerRestore m v => Sys2Proof.Machine.execPartnerRestore m v s
  | .partnerFence m v => Sys2Proof.Machine.execPartnerFence m v s
  | .partnerLoadApply => Sys2Proof.Machine.execPartnerLoadApply s
  | .signerInstall m v => Sys2Proof.Machine.execSignerInstall m v s
  | .signerErase m v => Sys2Proof.Machine.execSignerErase m v s
  | .signerRevoke m v => Sys2Proof.Machine.execSignerRevoke m v s
  | .signerLoadApply => Sys2Proof.Machine.execSignerLoadApply s
  | .timAdj m v => Sys2Proof.Machine.execTimAdj m v s
  | .slewComplete => Sys2Proof.Machine.execSlewComplete s
  | .timRtcWriteback => Sys2Proof.Machine.execTimRtcWriteback s
  | .holdoverExpiry => Sys2Proof.Machine.execHoldoverExpiry s
  | .uplinkEnvelope src env => Sys2Proof.Machine.execUplinkEnvelope src env s
  | .ethTxDone port => Sys2Proof.Machine.execEthTxDone port s
  | .ethLinkDown port => Sys2Proof.Machine.execEthLinkDown port s
  | .ethLinkUp port speed => Sys2Proof.Machine.execEthLinkUp port speed s
  | .serdesLaneFault port => Sys2Proof.Machine.execSerdesLaneFault port s
  | .ethEnableWrite m port v => Sys2Proof.Machine.execEthEnableWrite m port v s
  | .ptpTxGo m port v => Sys2Proof.Machine.execPtpTxGo m port v s
  | .ptpTxStamped port => Sys2Proof.Machine.execPtpTxStamped port s
  | .ptpAckWrite m port v => Sys2Proof.Machine.execPtpAckWrite m port v s
  | .ptpTsHiRead m port => Sys2Proof.Machine.execPtpTsHiRead m port s
  | .sessDataWrite m port k v => Sys2Proof.Machine.execSessDataWrite m port k v s
  | .sessionEstablished port n => Sys2Proof.Machine.execSessionEstablished port n s
  | .startdtConfirmed port n => Sys2Proof.Machine.execStartdtConfirmed port n s
  | .sessionFailure port n => Sys2Proof.Machine.execSessionFailure port n s
  | .backoffExpiry port n => Sys2Proof.Machine.execBackoffExpiry port n s
  | .iec104T1Expiry port n => Sys2Proof.Machine.execIec104T1Expiry port n s
  | .iec104T2Expiry port n => Sys2Proof.Machine.execIec104T2Expiry port n s
  | .iec104T3Expiry port n => Sys2Proof.Machine.execIec104T3Expiry port n s
  | .tcpRetransmitTimeout port n => Sys2Proof.Machine.execTcpRetransmitTimeout port n s
  | .fsCfgWrite m k v => Sys2Proof.Machine.execFsCfgWrite m k v s
  | .fsFrameReceived k => Sys2Proof.Machine.execFsFrameReceived k s
  | .fsIdleTimeout k => Sys2Proof.Machine.execFsIdleTimeout k s
  | .fsBreak k => Sys2Proof.Machine.execFsBreak k s
  | .fsLeadStart k => Sys2Proof.Machine.execFsLeadStart k s
  | .fsTxStart k => Sys2Proof.Machine.execFsTxStart k s
  | .fsTxDone k echoed => Sys2Proof.Machine.execFsTxDone k echoed s
  | .fsDriverRelease k => Sys2Proof.Machine.execFsDriverRelease k s
  | .fsTurnExpiry k => Sys2Proof.Machine.execFsTurnExpiry k s
  | .l101AckTimeout k => Sys2Proof.Machine.execL101AckTimeout k s
  | .mortarDelivery msg => Sys2Proof.Machine.execMortarDelivery msg s
  | .beatUncorrectable msg dir => Sys2Proof.Machine.execBeatUncorrectable msg dir s
  | .linkIdleLoss dir => Sys2Proof.Machine.execLinkIdleLoss dir s
  | .linkTestStart m v => Sys2Proof.Machine.execLinkTestStart m v s
  | .linkTestDone ok => Sys2Proof.Machine.execLinkTestDone ok s
  | .ftData1Write m c v => Sys2Proof.Machine.execFtData1Write m c v s
  | .ftData1Read m c => Sys2Proof.Machine.execFtData1Read m c s
  | .resData1Write m v => Sys2Proof.Machine.execResData1Write m v s
  | .resData1Read m => Sys2Proof.Machine.execResData1Read m s
  | .shadowBaseWrite m c v => Sys2Proof.Machine.execShadowBaseWrite m c v s
  | .coxPtestStart m c v => Sys2Proof.Machine.execCoxPtestStart m c v s
  | .coxPtestDone c ok => Sys2Proof.Machine.execCoxPtestDone c ok s
  | .courseDomainFault c => Sys2Proof.Machine.execCourseDomainFault c s
  | .add p d a b => Sys2Proof.Machine.execAdd p d a b s
  | .sub p d a b => Sys2Proof.Machine.execSub p d a b s
  | .and p d a b => Sys2Proof.Machine.execAnd p d a b s
  | .or p d a b => Sys2Proof.Machine.execOr p d a b s
  | .xor p d a b => Sys2Proof.Machine.execXor p d a b s
  | .sll p d a b => Sys2Proof.Machine.execSll p d a b s
  | .srl p d a b => Sys2Proof.Machine.execSrl p d a b s
  | .sra p d a b => Sys2Proof.Machine.execSra p d a b s
  | .slli p d a sh => Sys2Proof.Machine.execSlli p d a sh s
  | .srli p d a sh => Sys2Proof.Machine.execSrli p d a sh s
  | .srai p d a sh => Sys2Proof.Machine.execSrai p d a sh s
  | .slt p d a b => Sys2Proof.Machine.execSlt p d a b s
  | .sltu p d a b => Sys2Proof.Machine.execSltu p d a b s
  | .seq p d a b => Sys2Proof.Machine.execSeq p d a b s
  | .sel p d a b => Sys2Proof.Machine.execSel p d a b s
  | .bswap p d a => Sys2Proof.Machine.execBswap p d a s
  | .mul p d a b => Sys2Proof.Machine.execMul p d a b s
  | .mulhu p d a b => Sys2Proof.Machine.execMulhu p d a b s
  | .mulh p d a b => Sys2Proof.Machine.execMulh p d a b s
  | .laddc p d a b => Sys2Proof.Machine.execLaddc p d a b s
  | .lsubb p d a b => Sys2Proof.Machine.execLsubb p d a b s
  | .lmull p d a b => Sys2Proof.Machine.execLmull p d a b s
  | .lmulh p d a b => Sys2Proof.Machine.execLmulh p d a b s
  | .mov p d a => Sys2Proof.Machine.execMov p d a s
  | .cvt p d a t => Sys2Proof.Machine.execCvt p d a t s
  | .tagof p d a => Sys2Proof.Machine.execTagof p d a s
  | .clrt p d => Sys2Proof.Machine.execClrt p d s
  | .tadd p d a b => Sys2Proof.Machine.execTadd p d a b s
  | .addi p d a imm => Sys2Proof.Machine.execAddi p d a imm s
  | .andi p d a imm => Sys2Proof.Machine.execAndi p d a imm s
  | .ori p d a imm => Sys2Proof.Machine.execOri p d a imm s
  | .xori p d a imm => Sys2Proof.Machine.execXori p d a imm s
  | .slti p d a imm => Sys2Proof.Machine.execSlti p d a imm s
  | .sltiu p d a imm => Sys2Proof.Machine.execSltiu p d a imm s
  | .lui p d imm => Sys2Proof.Machine.execLui p d imm s
  | .ldw p d a imm => Sys2Proof.Machine.execLdw p d a imm s
  | .ldh p d a imm => Sys2Proof.Machine.execLdh p d a imm s
  | .ldb p d a imm => Sys2Proof.Machine.execLdb p d a imm s
  | .stw p src a imm => Sys2Proof.Machine.execStw p src a imm s
  | .sth p src a imm => Sys2Proof.Machine.execSth p src a imm s
  | .stb p src a imm => Sys2Proof.Machine.execStb p src a imm s
  | .lkey p k a imm => Sys2Proof.Machine.execLkey p k a imm s
  | .skey p k a imm => Sys2Proof.Machine.execSkey p k a imm s
  | .kput p k a imm => Sys2Proof.Machine.execKput p k a imm s
  | .kwipe p a imm => Sys2Proof.Machine.execKwipe p a imm s
  | .kmov p kd ks => Sys2Proof.Machine.execKmov p kd ks s
  | .kclr p kd => Sys2Proof.Machine.execKclr p kd s
  | .ktagof p d k => Sys2Proof.Machine.execKtagof p d k s
  | .mkey p kd a => Sys2Proof.Machine.execMkey p kd a s
  | .beq p a b off => Sys2Proof.Machine.execBeq p a b off s
  | .bne p a b off => Sys2Proof.Machine.execBne p a b off s
  | .blt p a b off => Sys2Proof.Machine.execBlt p a b off s
  | .bge p a b off => Sys2Proof.Machine.execBge p a b off s
  | .bltu p a b off => Sys2Proof.Machine.execBltu p a b off s
  | .bgeu p a b off => Sys2Proof.Machine.execBgeu p a b off s
  | .jmp p off => Sys2Proof.Machine.execJmp p off s
  | .call p off => Sys2Proof.Machine.execCall p off s
  | .jr p a => Sys2Proof.Machine.execJr p a s
  | .callr p a => Sys2Proof.Machine.execCallr p a s
  | .loop p a off => Sys2Proof.Machine.execLoop p a off s
  | .loopi p n off => Sys2Proof.Machine.execLoopi p n off s
  | .nop p => Sys2Proof.Machine.execNop p s
  | .ret p => Sys2Proof.Machine.execRet p s
  | .endHeat p => Sys2Proof.Machine.execEndHeat p s
  | .wfe p a => Sys2Proof.Machine.execWfe p a s
  | .wfeComplete p delivered => Sys2Proof.Machine.execWfeComplete p delivered s
  | .sev p a line => Sys2Proof.Machine.execSev p a line s
  | .sevDelivery => Sys2Proof.Machine.execSevDelivery s
  | .sevg p a => Sys2Proof.Machine.execSevg p a s
  | .waitc p a => Sys2Proof.Machine.execWaitc p a s
  | .waitcComplete p => Sys2Proof.Machine.execWaitcComplete p s
  | .rdscl p d => Sys2Proof.Machine.execRdscl p d s
  | .rdsch p d => Sys2Proof.Machine.execRdsch p d s
  | .mfs p d n => Sys2Proof.Machine.execMfs p d n s
  | .mts p a n => Sys2Proof.Machine.execMts p a n s
  | .tag p d a t => Sys2Proof.Machine.execTag p d a t s
  | .fence p => Sys2Proof.Machine.execFence p s
  | .fenceComplete p => Sys2Proof.Machine.execFenceComplete p s
  | .illegalInstruction p w => Sys2Proof.Machine.execIllegalInstruction p w s
  | .globalLoadResponse p => Sys2Proof.Machine.execGlobalLoadResponse p s
  | .accessErrorResponse p => Sys2Proof.Machine.execAccessErrorResponse p s
  | .pkeStagingWrite q k v => Sys2Proof.Machine.execPkeStagingWrite q k v s
  | .ecdsaP256Verify r q w0 => Sys2Proof.Machine.execEcdsaP256Verify r q w0 s
  | .ecdsaP256Sign r q w0 => Sys2Proof.Machine.execEcdsaP256Sign r q w0 s
  | .ecdhP256 r q w0 => Sys2Proof.Machine.execEcdhP256 r q w0 s
  | .ecdsaP384Verify r q w0 => Sys2Proof.Machine.execEcdsaP384Verify r q w0 s
  | .ecdsaP384Sign r q w0 => Sys2Proof.Machine.execEcdsaP384Sign r q w0 s
  | .ecdhP384 r q w0 => Sys2Proof.Machine.execEcdhP384 r q w0 s
  | .ed25519Verify r q w0 => Sys2Proof.Machine.execEd25519Verify r q w0 s
  | .ed25519Sign r q w0 => Sys2Proof.Machine.execEd25519Sign r q w0 s
  | .x25519 r q w0 => Sys2Proof.Machine.execX25519 r q w0 s
  | .rsa2048Verify r q w0 => Sys2Proof.Machine.execRsa2048Verify r q w0 s
  | .rsa3072Verify r q w0 => Sys2Proof.Machine.execRsa3072Verify r q w0 s
  | .rsa4096Verify r q w0 => Sys2Proof.Machine.execRsa4096Verify r q w0 s
  | .rsa2048CrtSign r q w0 => Sys2Proof.Machine.execRsa2048CrtSign r q w0 s
  | .rsa3072CrtSign r q w0 => Sys2Proof.Machine.execRsa3072CrtSign r q w0 s
  | .rsa4096CrtSign r q w0 => Sys2Proof.Machine.execRsa4096CrtSign r q w0 s
  | .mlDsa65Verify r q w0 => Sys2Proof.Machine.execMlDsa65Verify r q w0 s
  | .mlDsa65Sign r q w0 => Sys2Proof.Machine.execMlDsa65Sign r q w0 s
  | .mlDsa87Verify r q w0 => Sys2Proof.Machine.execMlDsa87Verify r q w0 s
  | .mlDsa87Sign r q w0 => Sys2Proof.Machine.execMlDsa87Sign r q w0 s
  | .mlKem768Encapsulate r q w0 => Sys2Proof.Machine.execMlKem768Encapsulate r q w0 s
  | .mlKem768Decapsulate r q w0 => Sys2Proof.Machine.execMlKem768Decapsulate r q w0 s
  | .mlKem1024Encapsulate r q w0 => Sys2Proof.Machine.execMlKem1024Encapsulate r q w0 s
  | .mlKem1024Decapsulate r q w0 => Sys2Proof.Machine.execMlKem1024Decapsulate r q w0 s
  | .pkeOperationDone q => Sys2Proof.Machine.execPkeOperationDone q s
  | .pkeAbort m k v => Sys2Proof.Machine.execPkeAbort m k v s
  | .pkeWipeDone q => Sys2Proof.Machine.execPkeWipeDone q s
  | .pkePairFault q f => Sys2Proof.Machine.execPkePairFault q f s
  | .pkeOwnedWrite m k v => Sys2Proof.Machine.execPkeOwnedWrite m k v s
  | .pkeSelftestStart m k v => Sys2Proof.Machine.execPkeSelftestStart m k v s
  | .pkeSelftestDone k ok => Sys2Proof.Machine.execPkeSelftestDone k ok s
  | .pkeFreeAck m k v => Sys2Proof.Machine.execPkeFreeAck m k v s
  | .ucBegin m k v => Sys2Proof.Machine.execUcBegin m k v s
  | .ucDataWrite m k v => Sys2Proof.Machine.execUcDataWrite m k v s
  | .ucFinish m k v => Sys2Proof.Machine.execUcFinish m k v s
  | .drbgReseed m k v => Sys2Proof.Machine.execDrbgReseed m k v s
  | .hashStagingWrite cipher k iv v => Sys2Proof.Machine.execHashStagingWrite cipher k iv v s
  | .keyinWrite cipher k iv v m => Sys2Proof.Machine.execKeyinWrite cipher k iv v m s
  | .handleWrite cipher k v m => Sys2Proof.Machine.execHandleWrite cipher k v m s
  | .hashSha256 r k w0 => Sys2Proof.Machine.execHashSha256 r k w0 s
  | .hashSha384 r k w0 => Sys2Proof.Machine.execHashSha384 r k w0 s
  | .hashSha512 r k w0 => Sys2Proof.Machine.execHashSha512 r k w0 s
  | .hashSha3x256 r k w0 => Sys2Proof.Machine.execHashSha3x256 r k w0 s
  | .hashShake128 r k w0 => Sys2Proof.Machine.execHashShake128 r k w0 s
  | .hashShake256 r k w0 => Sys2Proof.Machine.execHashShake256 r k w0 s
  | .hashDone k => Sys2Proof.Machine.execHashDone k s
  | .cipherKeyset r k w0 => Sys2Proof.Machine.execCipherKeyset r k w0 s
  | .cipherKeyclr r k w0 => Sys2Proof.Machine.execCipherKeyclr r k w0 s
  | .aesCtr r k w0 => Sys2Proof.Machine.execAesCtr r k w0 s
  | .gcmEncrypt r k w0 => Sys2Proof.Machine.execGcmEncrypt r k w0 s
  | .gcmDecrypt r k w0 => Sys2Proof.Machine.execGcmDecrypt r k w0 s
  | .gmacGenerate r k w0 => Sys2Proof.Machine.execGmacGenerate r k w0 s
  | .gmacVerify r k w0 => Sys2Proof.Machine.execGmacVerify r k w0 s
  | .cipherDone k => Sys2Proof.Machine.execCipherDone k s
  | .unitAbort m cipher v => Sys2Proof.Machine.execUnitAbort m cipher v s
  | .unitWipeDone cipher k => Sys2Proof.Machine.execUnitWipeDone cipher k s
  | .unitPairFault cipher k f => Sys2Proof.Machine.execUnitPairFault cipher k f s
  | .unitOwnedWrite m cipher v => Sys2Proof.Machine.execUnitOwnedWrite m cipher v s
  | .unitSelftestStart m cipher v => Sys2Proof.Machine.execUnitSelftestStart m cipher v s
  | .unitSelftestDone cipher ok => Sys2Proof.Machine.execUnitSelftestDone cipher ok s
  | .unitFreeAck m cipher v => Sys2Proof.Machine.execUnitFreeAck m cipher v s
  | .coverWrite m cipher hi v => Sys2Proof.Machine.execCoverWrite m cipher hi v s
  | .partnerContextEcc p => Sys2Proof.Machine.execPartnerContextEcc p s
  | .signerSlotEcc n => Sys2Proof.Machine.execSignerSlotEcc n s
  | .sgramRead m addr size faulty => Sys2Proof.Machine.execSgramRead m addr size faulty s
  | .sgramWrite m addr data => Sys2Proof.Machine.execSgramWrite m addr data s
  | .sgramTrainingDone c ok => Sys2Proof.Machine.execSgramTrainingDone c ok s
  | .sgramPeriodicRetrain c ok => Sys2Proof.Machine.execSgramPeriodicRetrain c ok s
  | .sgramRefresh c => Sys2Proof.Machine.execSgramRefresh c s
  | .sgramSelfRefreshExit east => Sys2Proof.Machine.execSgramSelfRefreshExit east s
  | .sgramEdcFail c => Sys2Proof.Machine.execSgramEdcFail c s
  | .sgramDeviceTimeout c => Sys2Proof.Machine.execSgramDeviceTimeout c s
  | .sgramRetrainStart m c v => Sys2Proof.Machine.execSgramRetrainStart m c v s
  | .resilverDone c ok => Sys2Proof.Machine.execResilverDone c ok s
  | .moverStart m east v => Sys2Proof.Machine.execMoverStart m east v s
  | .moverDone east => Sys2Proof.Machine.execMoverDone east s
  | .journalFlush => Sys2Proof.Machine.execJournalFlush s
  | .journalFlushAck ok => Sys2Proof.Machine.execJournalFlushAck ok s
  | .journalFlushRetry => Sys2Proof.Machine.execJournalFlushRetry s
  | .exportedWrite m v => Sys2Proof.Machine.execExportedWrite m v s
  | .jnlEnableWrite m v => Sys2Proof.Machine.execJnlEnableWrite m v s
  | .qpConfigWrite f q iv v => Sys2Proof.Machine.execQpConfigWrite f q iv v s
  | .sqTailDoorbell f q v => Sys2Proof.Machine.execSqTailDoorbell f q v s
  | .cqHeadDoorbell f q v => Sys2Proof.Machine.execCqHeadDoorbell f q v s
  | .descriptorFetch f q desc => Sys2Proof.Machine.execDescriptorFetch f q desc s
  | .envelopeReadDone f q e bytes => Sys2Proof.Machine.execEnvelopeReadDone f q e bytes s
  | .completionPost f q => Sys2Proof.Machine.execCompletionPost f q s
  | .coalTimerExpiry f q => Sys2Proof.Machine.execCoalTimerExpiry f q s
  | .msixVectorUnmask f vec whole => Sys2Proof.Machine.execMsixVectorUnmask f vec whole s
  | .functionLevelReset f => Sys2Proof.Machine.execFunctionLevelReset f s
  | .vfEnableWrite enable numVfs => Sys2Proof.Machine.execVfEnableWrite enable numVfs s
  | .pcieLinkDown => Sys2Proof.Machine.execPcieLinkDown s
  | .info g => Sys2Proof.Machine.execInfo g s
  | .setResources g fn qp share jquota => Sys2Proof.Machine.execSetResources g fn qp share jquota s
  | .setPartnerSet g fn bitmap => Sys2Proof.Machine.execSetPartnerSet g fn bitmap s
  | .setVectors g fn base count => Sys2Proof.Machine.execSetVectors g fn base count s
  | .activate g fn => Sys2Proof.Machine.execActivate g fn s
  | .drain g fn => Sys2Proof.Machine.execDrain g fn s
  | .freeze g fn => Sys2Proof.Machine.execFreeze g fn s
  | .thaw g fn => Sys2Proof.Machine.execThaw g fn s
  | .release g fn => Sys2Proof.Machine.execRelease g fn s
  | .migrationKey g => Sys2Proof.Machine.execMigrationKey g s
  | .exportFn g fn certOk dstUid off => Sys2Proof.Machine.execExportFn g fn certOk dstUid off s
  | .importFn g fn blob => Sys2Proof.Machine.execImportFn g fn blob s
  | .planLoad g plan => Sys2Proof.Machine.execPlanLoad g plan s
  | .approve g req who serial sigOk => Sys2Proof.Machine.execApprove g req who serial sigOk s
  | .unknownCmd g cmd => Sys2Proof.Machine.execUnknownCmd g cmd s
  | .mbxRespond m v => Sys2Proof.Machine.execMbxRespond m v s
  | .fnActivate m => Sys2Proof.Machine.execFnActivate m s
  | .fnDrain m => Sys2Proof.Machine.execFnDrain m s
  | .fnFreeze m => Sys2Proof.Machine.execFnFreeze m s
  | .fnThaw m => Sys2Proof.Machine.execFnThaw m s
  | .fnRelease m => Sys2Proof.Machine.execFnRelease m s
  | .fnImported m => Sys2Proof.Machine.execFnImported m s
  | .fnAckWrite m v => Sys2Proof.Machine.execFnAckWrite m v s
  | .fnVecWrite m v => Sys2Proof.Machine.execFnVecWrite m v s
  | .vfmCommit m v => Sys2Proof.Machine.execVfmCommit m v s
  | .psetDataAccess m write v => Sys2Proof.Machine.execPsetDataAccess m write v s
  | .markStreamReceived msg => Sys2Proof.Machine.execMarkStreamReceived msg s
  | .markAckReceived num => Sys2Proof.Machine.execMarkAckReceived num s
  | .releaseNoticeReceived tag => Sys2Proof.Machine.execReleaseNoticeReceived tag s
  | .pairAckTimeout => Sys2Proof.Machine.execPairAckTimeout s
  | .streamTimeout => Sys2Proof.Machine.execStreamTimeout s
  | .sisterLinkUp => Sys2Proof.Machine.execSisterLinkUp s
  | .resyncDone areas => Sys2Proof.Machine.execResyncDone areas s
  | .pairKick m v => Sys2Proof.Machine.execPairKick m v s
  | .pairWatchdogExpiry => Sys2Proof.Machine.execPairWatchdogExpiry s
  | .pairPeerLowTimeout => Sys2Proof.Machine.execPairPeerLowTimeout s
  | .serveWrite m v => Sys2Proof.Machine.execServeWrite m v s
  | .violClear m iv v refusedNow => Sys2Proof.Machine.execViolClear m iv v refusedNow s
  | .dualOpenRegister m v => Sys2Proof.Machine.execDualOpenRegister m v s
  | .dualOpenOperation m v => Sys2Proof.Machine.execDualOpenOperation m v s
  | .dualOpenUnlock m v => Sys2Proof.Machine.execDualOpenUnlock m v s
  | .dualDigestReady r => Sys2Proof.Machine.execDualDigestReady r s
  | .dualClose m v => Sys2Proof.Machine.execDualClose m v s
  | .approvalSubmit m v => Sys2Proof.Machine.execApprovalSubmit m v s
  | .approvalExpiry r j => Sys2Proof.Machine.execApprovalExpiry r j s
  | .dualCommit m v c => Sys2Proof.Machine.execDualCommit m v c s
  | .bootDone m v => Sys2Proof.Machine.execBootDone m v s
  | .keystoneResetRelease iv => Sys2Proof.Machine.execKeystoneResetRelease iv s
  | .xlockWrite m v => Sys2Proof.Machine.execXlockWrite m v s
  | .pufLockWrite m v => Sys2Proof.Machine.execPufLockWrite m v s
  | .trngRead m => Sys2Proof.Machine.execTrngRead m s
  | .kstWdogKick m v => Sys2Proof.Machine.execKstWdogKick m v s
  | .kstWatchdogExpiry => Sys2Proof.Machine.execKstWatchdogExpiry s
  | .keystoneFault doubleTrap => Sys2Proof.Machine.execKeystoneFault doubleTrap s
  | .jointTrained => Sys2Proof.Machine.execJointTrained s
  | .jointFrameSend toArch typ route words => Sys2Proof.Machine.execJointFrameSend toArch typ route words s
  | .jointFrameReceived toArch f => Sys2Proof.Machine.execJointFrameReceived toArch f s
  | .jointIdleTimeout => Sys2Proof.Machine.execJointIdleTimeout s
  | .jointRekey m v => Sys2Proof.Machine.execJointRekey m v s
  | .lcTargetTestLocked m => Sys2Proof.Machine.execLcTargetTestLocked m s
  | .lcTargetTestOpen m => Sys2Proof.Machine.execLcTargetTestOpen m s
  | .lcTargetProvision m => Sys2Proof.Machine.execLcTargetProvision m s
  | .lcTargetMission m opTable => Sys2Proof.Machine.execLcTargetMission m opTable s
  | .lcTargetReturn m => Sys2Proof.Machine.execLcTargetReturn m s
  | .lcTargetScrap m => Sys2Proof.Machine.execLcTargetScrap m s
  | .lcProgramDone ok => Sys2Proof.Machine.execLcProgramDone ok s
  | .lcResetDelay => Sys2Proof.Machine.execLcResetDelay s
  | .debugSubmit m v => Sys2Proof.Machine.execDebugSubmit m v s
  | .debugGrant m v => Sys2Proof.Machine.execDebugGrant m v s
  | .debugRevoke m v => Sys2Proof.Machine.execDebugRevoke m v s
  | .debugHalt m v => Sys2Proof.Machine.execDebugHalt m v s
  | .debugStep m v => Sys2Proof.Machine.execDebugStep m v s
  | .debugResume m v => Sys2Proof.Machine.execDebugResume m v s
  | .certDataWrite m v => Sys2Proof.Machine.execCertDataWrite m v s
  | .monitorTrip ms => Sys2Proof.Machine.execMonitorTrip ms s
  | .eraseZeroiseDone => Sys2Proof.Machine.execEraseZeroiseDone s
  | .alarmClear m k v newTrips => Sys2Proof.Machine.execAlarmClear m k v newTrips s
  | .holdRelease m v => Sys2Proof.Machine.execHoldRelease m v s
  | .tamperTestStart m v => Sys2Proof.Machine.execTamperTestStart m v s
  | .tamperSweep m v => Sys2Proof.Machine.execTamperSweep m v s
  | .tamperTestDone ok => Sys2Proof.Machine.execTamperTestDone ok s
  | .ringClear m v => Sys2Proof.Machine.execRingClear m v s
  | .logAppend m v => Sys2Proof.Machine.execLogAppend m v s
  | .logEntryProgrammed ok => Sys2Proof.Machine.execLogEntryProgrammed ok s
  | .flashKey m v => Sys2Proof.Machine.execFlashKey m v s
  | .flashSeqTimeout => Sys2Proof.Machine.execFlashSeqTimeout s
  | .flashProgram m v => Sys2Proof.Machine.execFlashProgram m v s
  | .sectorErase m v => Sys2Proof.Machine.execSectorErase m v s
  | .blockErase m v => Sys2Proof.Machine.execBlockErase m v s
  | .flashSuspend m v => Sys2Proof.Machine.execFlashSuspend m v s
  | .flashResume m v => Sys2Proof.Machine.execFlashResume m v s
  | .flashSwap m v => Sys2Proof.Machine.execFlashSwap m v s
  | .flashRetire m v => Sys2Proof.Machine.execFlashRetire m v s
  | .flashCommandDone pulses verifyOk => Sys2Proof.Machine.execFlashCommandDone pulses verifyOk s
  | .flashRead m addr => Sys2Proof.Machine.execFlashRead m addr s
  | .cardInsertion n => Sys2Proof.Machine.execCardInsertion n s
  | .cardRemoval n => Sys2Proof.Machine.execCardRemoval n s
  | .cardActivate m n v => Sys2Proof.Machine.execCardActivate m n v s
  | .cardDeactivate m n v => Sys2Proof.Machine.execCardDeactivate m n v s
  | .atrTimeout n => Sys2Proof.Machine.execAtrTimeout n s
  | .atrReceived n atr => Sys2Proof.Machine.execAtrReceived n atr s
  | .ppsResponse n rsp => Sys2Proof.Machine.execPpsResponse n rsp s
  | .cardSend m n v => Sys2Proof.Machine.execCardSend m n v s
  | .cardExchangeDone n rsp => Sys2Proof.Machine.execCardExchangeDone n rsp s
  | .cardWaitTimeout n => Sys2Proof.Machine.execCardWaitTimeout n s
  | .cardBusyTimeout n => Sys2Proof.Machine.execCardBusyTimeout n s
  | .cardClockStop n => Sys2Proof.Machine.execCardClockStop n s
  | .sdCommandGo m v => Sys2Proof.Machine.execSdCommandGo m v s
  | .sdCommandDone e => Sys2Proof.Machine.execSdCommandDone e s
  | .sdCommandTimeout => Sys2Proof.Machine.execSdCommandTimeout s
  | .sdVoltageSwitch m v ok => Sys2Proof.Machine.execSdVoltageSwitch m v ok s
  | .sdTune m v ok => Sys2Proof.Machine.execSdTune m v ok s
  | .sdRewrite m v => Sys2Proof.Machine.execSdRewrite m v s
  | .sdDiscard m v => Sys2Proof.Machine.execSdDiscard m v s
  | .sdCardRemoval w => Sys2Proof.Machine.execSdCardRemoval w s
  | .sdCardInsertion wp => Sys2Proof.Machine.execSdCardInsertion wp s
  | .nfcPoll extField badges => Sys2Proof.Machine.execNfcPoll extField badges s
  | .nfcActivate m v extField badge => Sys2Proof.Machine.execNfcActivate m v extField badge s
  | .nfcDeactivate m v => Sys2Proof.Machine.execNfcDeactivate m v s
  | .nfcSend m v => Sys2Proof.Machine.execNfcSend m v s
  | .nfcExchangeDone rsp => Sys2Proof.Machine.execNfcExchangeDone rsp s
  | .badgeRemoved => Sys2Proof.Machine.execBadgeRemoved s
  | .nfcBusyTimeout => Sys2Proof.Machine.execNfcBusyTimeout s
  | .inventory slots16 maskLen mask => Sys2Proof.Machine.execInventory slots16 maskLen mask s
  | .stayQuiet a => Sys2Proof.Machine.execStayQuiet a s
  | .readSingleBlock a n => Sys2Proof.Machine.execReadSingleBlock a n s
  | .writeSingleBlock a n data => Sys2Proof.Machine.execWriteSingleBlock a n data s
  | .readMultipleBlocks a first count => Sys2Proof.Machine.execReadMultipleBlocks a first count s
  | .select uid => Sys2Proof.Machine.execSelect uid s
  | .resetToReady a => Sys2Proof.Machine.execResetToReady a s
  | .getSystemInformation a => Sys2Proof.Machine.execGetSystemInformation a s
  | .getRandom a => Sys2Proof.Machine.execGetRandom a s
  | .presentPassword a pw masked => Sys2Proof.Machine.execPresentPassword a pw masked s
  | .getPasswordStatus a => Sys2Proof.Machine.execGetPasswordStatus a s
  | .tagUnknownCommand a code => Sys2Proof.Machine.execTagUnknownCommand a code s
  | .quietTimerExpiry => Sys2Proof.Machine.execQuietTimerExpiry s
  | .tagFieldLoss tear => Sys2Proof.Machine.execTagFieldLoss tear s
  | .islandPowerUp => Sys2Proof.Machine.execIslandPowerUp s
  | .trecRead m v => Sys2Proof.Machine.execTrecRead m v s
  | .trecCommit m v => Sys2Proof.Machine.execTrecCommit m v s
  | .trecAck m v => Sys2Proof.Machine.execTrecAck m v s
  | .passwordSet m v => Sys2Proof.Machine.execPasswordSet m v s
  | .passwordResetCount m v => Sys2Proof.Machine.execPasswordResetCount m v s
  | .domainIdleExpiry d => Sys2Proof.Machine.execDomainIdleExpiry d s
  | .domainWake d => Sys2Proof.Machine.execDomainWake d s
  | .domainWakeDone d => Sys2Proof.Machine.execDomainWakeDone d s
  | .domainWakeFail d => Sys2Proof.Machine.execDomainWakeFail d s
  | .offReq m v => Sys2Proof.Machine.execOffReq m v s
  | .powerFailWarning late => Sys2Proof.Machine.execPowerFailWarning late s
  | .deviceReset => Sys2Proof.Machine.execDeviceReset s
  | .rstNAssert => Sys2Proof.Machine.execRstNAssert s
  | .resetReqDevice m v => Sys2Proof.Machine.execResetReqDevice m v s
  | .resetReqArch m v => Sys2Proof.Machine.execResetReqArch m v s
  | .resetReqCourse m v => Sys2Proof.Machine.execResetReqCourse m v s
  | .courseResetDone c => Sys2Proof.Machine.execCourseResetDone c s
  | .mainPowerOn => Sys2Proof.Machine.execMainPowerOn s
  | .vbatPowerOn => Sys2Proof.Machine.execVbatPowerOn s
  | .causeClear m v => Sys2Proof.Machine.execCauseClear m v s
  | .pllLockLost stroke => Sys2Proof.Machine.execPllLockLost stroke s
  | .refClkLost => Sys2Proof.Machine.execRefClkLost s
  | .thermalEnter => Sys2Proof.Machine.execThermalEnter s
  | .thermalExit => Sys2Proof.Machine.execThermalExit s
  | .fsCharacterReceived k ch parityOk stopOk => Sys2Proof.Machine.execFsCharacterReceived k ch parityOk stopOk s
  | .pcieLinkUp gen width => Sys2Proof.Machine.execPcieLinkUp gen width s
  | .jointRetrained => Sys2Proof.Machine.execJointRetrained s
  | .mainPowerLoss => Sys2Proof.Machine.execMainPowerLoss s
  | .bankVddioLost b => Sys2Proof.Machine.execBankVddioLost b s
  | .bankVddioRestored b high => Sys2Proof.Machine.execBankVddioRestored b high s
  | .pllLockRegained which => Sys2Proof.Machine.execPllLockRegained which s
  | .trngHealthChange ok => Sys2Proof.Machine.execTrngHealthChange ok s

end Sys2Proof.Machine
end

