-- ==== Sys2Proof/Machine/Tick.lean ====
section
/-! DEFINITION. What passes with time alone: the stroke counter, wall time, secure time with its slew, the RTC and the always-on
cycle counter, the beats in the mortar mesh and the lockstep compare. One tick is one stroke; it is what `step` does on an empty
queue (log entry 6). -/

namespace Sys2Proof.Machine

/-- Model time units of one tick: a stroke lasts 1 unit at race rate and 4 at paddle rate (R131, R487); 1 while the Arch die
is unpowered. -/
def State.tickLen (s : State) : Nat := if s.archOn && s.pwr.paddle then 4 else 1

/-- Secure time slewed by at most 500 ppm: one unit in 2,000 (R227). -/
def timTick (t : Tim) (wall d : Nat) : Tim :=
  if wall / 2000 = (wall + d) / 2000 ∨ t.slew = 0 then { t with now := t.now + d }
  else if 0 < t.slew then { t with now := t.now + d + 1, slew := t.slew - 1 }
  else { t with now := t.now + d - 1, slew := t.slew + 1 }

/-- The always-on counters of one tick (R227, R416): they run while VBAT or main power is there. -/
def aonTick (a : Aon) (d : Nat) : Aon :=
  if a.vbat || a.mainPower then { a with rtc := a.rtc + d, cnt := a.cnt + d } else a

/-- Lockstep mismatches of the stroke: pairs whose compare failed, and pairs of which one tile alone did something that the other
has not matched within 2 strokes (R102). The heat aborts and the pair is fenced (R344). -/
def State.lockTick (s : State) : State :=
  let late := (s.lock.filter fun i => decide (i.stroke + 2 < s.stroke)).map (·.pair)
  (s.lockBad ++ late).eraseDups.foldl (fun s q => (s.clearPair (q / 8) (q % 8)).abortPair (q / 8) (q % 8) 0xE (some 5) none true) s

/-- What must have happened by the end of a stroke, where no command brought it about: the steps of the heats (R43), check-and-marks that
reached the port, loads at the end of their time, context reads at the end of their figure, high-waters for BBRAM, envelopes 240 strokes
after their last bit, commands of legacy instances, and the removal of plans (R39, R48, R115, R125, R132, R226, R230, R235, R238). -/
def State.closeStroke (s : State) : State :=
  let s0 := s.heatsOpen
  let s1 := (s0.ptn.marks.foldl (fun s _ => s.takeMark) s0).heatsShut
  let s2 := match s1.ptn.load with | some (_, _, d) => if d ≤ s1.stroke then s1.takeLoad else s1 | none => s1
  let s3 := match s2.ptn.sgnLoad with | some (_, _, d) => if d ≤ s2.stroke then fSlotApply s2 else s2 | none => s2
  let s4 := (fBbSend s3).ptn.reads.foldl (fun s _ => fCtxRead true (fCtxRead false s)) (fBbSend s3)
  let s5 := (s4.ingress.filter fun e => decide (e.stroke + 240 ≤ s4.stroke)).foldl (fun s _ => fClassify s) s4
  ((s5.cox.map (·.1)).foldl State.legacyTake s5).dropPlans

/-- Bit of COX.STKY that a cause of LAST_ABORT sets (R126). -/
def causeSticky (cause : Nat) : Option Nat := match cause with | 12 => some 3 | 13 => some 4 | 14 => some 5 | _ => none
/-- The Cox's part of a stroke: a result that was not there at s + F, and the signals of units and routers, abort the heat concerned (R45,
R126, R151, R155, R188). A signal fences no tile pair: the unit that failed is fenced itself (R344). -/
def State.coxTick (s : State) : State :=
  let s1 := (s.unitDue.filter fun d => decide (d.due < s.stroke)).foldl (fun s d => s.signalCourse d.course d.pair 12)
    { s with unitDue := s.unitDue.filter fun d => decide (s.stroke ≤ d.due) }
  s1.sigs.foldl (fun s g => s.abortPair g.1 g.2.1 g.2.2 (causeSticky g.2.2) none false) { s1 with sigs := [] }

/-- One tick: a stroke of the Arch die where it runs, and the time it takes. The raises of software events last one stroke
(R35), and those of SEVG take place in the stroke after their issue (R93). -/
def State.tick (s0 : State) : State :=
  let s := if s0.archOn then s0.closeStroke else s0
  let d := s.tickLen
  let t : State := { s with
    stroke := if s.archOn then s.stroke + 1 else s.stroke
    wall := s.wall + d
    tim := if s.archOn then timTick s.tim s.wall d else s.tim
    aon := aonTick s.aon d
    swNow := []
    sevg := [] }
  let u := s.sevg.foldl State.raiseSoftware t
  if s.archOn then
    let v := u.meshTick
    (((((v.mort.flights.filter v.landed).foldl State.landMark v).unitTick).coxTick).lockTick).needTick
  else u

end Sys2Proof.Machine
end

