-- ==== Sys2Proof/Safety.lean ====
section
/-! DEFINITION. What counts as a good state and a safe run, and the conditions and state changes that the statements name. -/

namespace Sys2Proof.Machine

/-- The state invariant: memory and tags in canonical form. -/
def State.Inv (s : State) : Prop := Memory.wf s = true

/-- A step that goes on: no fault and no refusal. -/
def goesOn (o : Host.Outcome State Fault Refusal) : Prop := ∃ t, o = .next t

/-! ### Processors -/

/-- The processor can issue, no load of its own is under way for an instruction to wait for (R76), and the fetch of its instruction
passes both checks of R80. -/
def State.canRun (s : State) (p : ProcId) : Bool :=
  (s.loadsOf p).isEmpty && (s.proc p).canIssue && !s.isBad (codeKey p (s.proc p).pc.toNat) && s.codeOk p (s.proc p).pc.toNat

/-- As `canRun`, for the instructions that R88 forbids at the end of a loop body. -/
def State.canTransfer (s : State) (p : ProcId) : Bool := s.canRun p && !(s.proc p).atLoopEnd

/-- The state after an instruction that changes only its processor, to y, without choosing the next pc itself: pc and loops as
R87; a single step granted by the debug master is used up. -/
def State.retire (s : State) (p : ProcId) (y : Proc) : State := s.setProc p { y.advance with stepOne := false }

/-- The state after an instruction that chooses the processor's next pc itself. -/
def State.retireAt (s : State) (p : ProcId) (y : Proc) : State := s.setProc p { y with stepOne := false }

/-- The rules of R63 for a word that would go to register d: b31 takes a PTR not below slim. -/
def Proc.takes (x : Proc) (d : Nat) (w : TWord) : Prop := d = 31 → w.tag = Tag.ptr ∧ x.slim.toNat ≤ w.data.toNat

/-- Keys are confined as R63, R64 and R70 say of the registers: no brick register holds a KEY word, and a key register holds KEY or
NONE. -/
def State.keysConfined (s : State) : Prop :=
  ∀ p : ProcId, (∀ n, ((s.proc p).r n).tag ≠ Tag.key) ∧ (∀ n, ((s.proc p).kr n).tag = Tag.key ∨ ((s.proc p).kr n).tag = Tag.none)

/-! ### Register pages -/

/-- An aligned 32-bit access of a master to a register passes every check before the page acts (R10, R26, R72, R370-R374,
R513). Kind 0 is a read, 1 a write. -/
def State.grants (s : State) (m : Master) (kind : Nat) (b : Block) (i off : Nat) : Bool :=
  match s.gate m kind (pageBase ⟨b, i⟩ + off) 4 with
  | .page _ _ => true
  | .refused _ _ _ _ | .waits | .noRoute => false

/-! ### The PF mailbox -/

/-- The state in which a mailbox command acts: GO taken with no request under way, the request header in the buffer (R321). -/
def State.mbxOpen (s : State) (g : Go) (cmd : Nat) : State :=
  ({ s with pci := { s.pci with busy := true, done := false, mbxIe := g.ie, mbxVec := g.vec % 128 } } : State).setReg .pci 0 0x400
    (BitVec.ofNat 32 (cmd + g.tag % 2 ^ 16 * 2 ^ 16))

end Sys2Proof.Machine

namespace Sys2Proof

/-- The commands that are a GTIS instruction other than END, the completion of a wait, or a response (R60-R104). -/
def Instr.isInstruction : Instr → Bool
  | .add .. | .sub .. | .and .. | .or .. | .xor .. | .sll .. | .srl .. | .sra ..
  | .slli .. | .srli .. | .srai .. | .slt .. | .sltu .. | .seq .. | .sel .. | .bswap ..
  | .mul .. | .mulhu .. | .mulh .. | .laddc .. | .lsubb .. | .lmull .. | .lmulh .. | .mov ..
  | .cvt .. | .tagof .. | .clrt .. | .tadd .. | .addi .. | .andi .. | .ori .. | .xori ..
  | .slti .. | .sltiu .. | .lui .. | .ldw .. | .ldh .. | .ldb .. | .stw .. | .sth ..
  | .stb .. | .lkey .. | .skey .. | .kput .. | .kwipe .. | .kmov .. | .kclr .. | .ktagof ..
  | .mkey .. | .beq .. | .bne .. | .blt .. | .bge .. | .bltu .. | .bgeu .. | .jmp ..
  | .call .. | .jr .. | .callr .. | .loop .. | .loopi .. | .nop .. | .ret .. | .wfe ..
  | .wfeComplete .. | .sev .. | .sevDelivery .. | .sevg .. | .waitc .. | .waitcComplete .. | .rdscl .. | .rdsch ..
  | .mfs .. | .mts .. | .tag .. | .fence .. | .fenceComplete .. | .illegalInstruction .. | .globalLoadResponse .. | .accessErrorResponse .. => true
  | _ => false

end Sys2Proof
end

