-- ==== Sys2Proof/Certificates/Slice0/Obligations.lean ====
section
/-! DEFINITION. The statements about the model, from the numbered rules of the spec. -/

set_option linter.unusedVariables false
open Sys2Proof Sys2Proof.Machine

/-! ### The machine -/

/-- A step with command c at the front of the queue is c on the state with the queue's rest. -/
def Obligations.StepRunsFrontCommand : Prop :=
  ∀ (s : State) (c : Instr) (rest : List Instr), s.pending = c :: rest → step s = exec c { s with pending := rest }

/-- What reset leaves (R11, R13, R32, R34, R56, R61, R137, R227, R376, R426): registers at their reset values, memory zero and tagged
NONE, service STOPPED, course 15 spare, every event masked, no event pending, secure time invalid, the boot window open.
Model's choices: log entries 61 and 77. -/
def Obligations.ResetState : Prop :=
  State.reset.pending = [] ∧ State.reset.svc = 0 ∧
  (∀ b i off, State.reset.reg b i off = regReset b i off) ∧ (∀ a, State.reset.byte a = 0) ∧ (∀ a, State.reset.tagAt a = Tag.none) ∧
  (∀ ev, ev < 2048 → State.reset.evtPend ev = false ∧ State.reset.evtMasked ev = true) ∧
  (Sparse.get {} State.reset.cox 15).role = 1 ∧ (∀ c, c < 15 → (Sparse.get {} State.reset.cox c).role = 0) ∧
  (∀ p : ProcId, (State.reset.proc p).running = false) ∧ State.reset.tim.valid = false ∧ State.reset.dual.boot = true ∧
  State.reset.stroke = 0 ∧ State.reset.pairM.role = 0

/-- The memory form holds at reset. -/
def Obligations.ResetInvariant : Prop := State.reset.Inv

/-- Every step keeps memory in its canonical form, from every state that has it.
Model's choices: log entries 6 and 61. -/
def Obligations.StepKeepsMemoryForm : Prop :=
  ∀ s t : State, s.Inv → step s = .next t → t.Inv

/-- R63, R64 and R70: no processor step puts a KEY word into a brick register or another word into a key register. For every state
in which keys are so confined and every GTIS instruction or response at the front of the queue, they are so confined in the next
state. -/
def Obligations.InstructionsKeepKeysConfined : Prop :=
  ∀ (s t : State) (c : Instr) (rest : List Instr), s.keysConfined → s.pending = c :: rest → c.isInstruction = true →
    step s = .next t → t.keysConfined

/-! ### Register pages and events (R9-R11, R26-R38, R371-R373, R510, R513) -/

/-- The general register rows. REGISTER_WRITE of STKY_EN stores it; an access that is not an aligned word is refused and recorded by
the master's ACU with reason 0b101 (R10, R372). RWP_SHADOW_WRITE writes the shadow alone and makes open requests that list the page
stale (R32, R33, R377); into the shadow window it sets CMD_REJECT. STKY_CLEAR as R29, with the capture of R28 where a bit that hardware sets in
its cycle goes from 0 to 1 (for CMD_REJECT, which the write does not explain, offset and value are free). FAULT_TIME_LO_READ answers LO and holds HI
(R30).
R510, on pages whose registers carry no further effect: SOFT_RESET keeps STKY, FIRST_FAULT, FAULT_TIME and every committed RWP
value, returns STKY_EN to 0 and each shadow to its committed value, and then takes ENABLE from the same write.
Model's choices: log entries 1, 68 and 70. -/
def Obligations.RegisterRows : Prop :=
  (∀ (s : State) (m : Master) (pg : PageRef) (addr off n : Nat) (v hw : Word),
    (s.gate m 1 addr 4 = .page pg 0x014 → exec (.registerWrite m addr 4 v) s = .next (s.setReg pg.block pg.inst 0x014 v)) ∧
    (m ≠ .debug → s.acuCheck m 1 addr n = none → (n ≠ 4 ∨ addr % 4 ≠ 0) →
      exec (.registerWrite m addr n v) s = .next (s.acuRecord m 1 addr 5 0 false)) ∧
    (s.gate m 1 addr 4 = .page pg off → hasRwp pg = true → rwpMask pg.block off ≠ 0 → off < 0x800 →
      pg.block ∉ [Block.acu, .sgm, .cox, .sys] →
      exec (.rwpShadowWrite m addr v) s = .next ((s.setReg pg.block pg.inst (0x800 + off) (v &&& rwpMask pg.block off)).staleMark pg)) ∧
    (s.gate m 1 addr 4 = .page pg off → hasRwp pg = true → 0x800 ≤ off →
      exec (.rwpShadowWrite m addr v) s = .next (s.reject pg.block pg.inst off v)) ∧
    (s.grants m 1 pg.block pg.inst 0x010 = true →
      let new := (s.reg pg.block pg.inst 0x010 &&& ~~~v) ||| (hw &&& stkyMask pg.block)
      let s1 := s.setReg pg.block pg.inst 0x010 new
      let rises (k : Nat) : Prop := bit new k = true ∧ bit (s.reg pg.block pg.inst 0x010) k = false
      ((∀ k, k < 32 → ¬ rises k) → exec (.stkyClear m pg v hw) s =
        .next (if new = 0 then s1.setReg pg.block pg.inst 0x01C (putBit (s1.reg pg.block pg.inst 0x01C) 31 false) else s1)) ∧
      (∀ k, 0 < k → k < 32 → rises k → (∀ j, j < k → ¬ rises j) →
        exec (.stkyClear m pg v hw) s = .next ((s.setSticky pg.block pg.inst k).setReg pg.block pg.inst 0x010 new)) ∧
      (rises 0 → ∃ u, exec (.stkyClear m pg v hw) s = .next u ∧ u.reg pg.block pg.inst 0x010 = new ∧
        (bit (s.reg pg.block pg.inst 0x01C) 31 = false → bit (u.reg pg.block pg.inst 0x01C) 31 = true ∧
          fld (u.reg pg.block pg.inst 0x01C) 0 5 = 0 ∧ u.reg64 pg.block pg.inst 0x020 = s.capture pg.block pg.inst % 2 ^ 64))) ∧
    (s.gate m 0 addr 4 = .page pg 0x020 →
      exec (.faultTimeLoRead m addr) s = .next ((s.holdHi pg.block pg.inst 0x024 (s.reg pg.block pg.inst 0x024)).emit
        (.readData m [⟨s.reg pg.block pg.inst 0x020, Tag.int⟩])))) ∧
  (∀ (s : State) (m : Master) (pg : PageRef) (v : Word), pg.block ∈ [Block.pwr, .clk, .rst, .sgn, .ptn, .pci, .elg] → bit v 1 = true →
    pg.inst < 64 → s.grants m 1 pg.block pg.inst 0x008 = true →
    ∃ t, exec (.softReset m pg v) s = .next t ∧
      (∀ o ∈ [0x010, 0x01C, 0x020, 0x024], t.reg pg.block pg.inst o = s.reg pg.block pg.inst o) ∧
      (∀ o ∈ rwpOffs pg.block pg.inst, t.reg pg.block pg.inst o = s.reg pg.block pg.inst o ∧
        t.reg pg.block pg.inst (0x800 + o) = s.reg pg.block pg.inst o) ∧
      t.reg pg.block pg.inst 0x014 = 0 ∧ t.reg pg.block pg.inst 0x008 = v &&& 1 ∧ t.mem = s.mem ∧ t.procs = s.procs)

/-- R28: a STKY bit that goes from 0 to 1 while no record is held captures bit, offset and code in FIRST_FAULT and the stroke counter
in FAULT_TIME; while a record is held, or for a bit already set, only STKY changes. Bits that
set in one cycle are set in rising order, so the record names the lowest. -/
def Obligations.FirstFaultCapture : Prop :=
  ∀ (s : State) (b : Block) (i n off code : Nat), n < 32 → off < 0x1000 → code < 256 →
    let t := s.setSticky b i n off code
    t.reg b i 0x010 = putBit (s.reg b i 0x010) n true ∧
    (bit (s.reg b i 0x010) n = false → bit (s.reg b i 0x01C) 31 = false →
      bit (t.reg b i 0x01C) 31 = true ∧ fld (t.reg b i 0x01C) 20 10 = off / 4 ∧ fld (t.reg b i 0x01C) 12 8 = code ∧
      fld (t.reg b i 0x01C) 0 5 = n ∧ t.reg64 b i 0x020 = s.capture b i % 2 ^ 64) ∧
    (bit (s.reg b i 0x010) n = true ∨ bit (s.reg b i 0x01C) 31 = true →
      t.reg b i 0x01C = s.reg b i 0x01C ∧ t.reg64 b i 0x020 = s.reg64 b i 0x020) ∧
    (∀ n2 off2 code2, n < n2 → n2 < 32 → bit (s.reg b i 0x010) n = false → bit (s.reg b i 0x01C) 31 = false →
      (t.setSticky b i n2 off2 code2).reg b i 0x01C = t.reg b i 0x01C ∧ (t.setSticky b i n2 off2 code2).reg64 b i 0x020 = t.reg64 b i 0x020 ∧
      (t.setSticky b i n2 off2 code2).reg b i 0x010 = putBit (putBit (s.reg b i 0x010) n true) n2 true) ∧
    (∀ b' i' o, regKey b' i' o ∉ [regKey b i 0x010, regKey b i 0x01C, regKey b i 0x020, regKey b i 0x024] →
      t.reg b' i' o = s.reg b' i' o)

/-- The event router (R34-R38). A level of 1 that the router saw at 0 before is a rising edge and pends its event; a level that it
has seen at 1 already is none, also after the pending bit was cleared, and a level of 0 lets the next edge come. A write of 1 clears
pending bits, but for those with a rising edge in the same cycle. A write of MASK stores it and delivers what it unmasks. SWSET
raises a software event, once in a stroke, and rejects any other. RDATA writes the route of the event RSEL selects; DEST 0b11 is
rejected (R3).
Model's choices: log entry 14. -/
def Obligations.EventRouterRows : Prop :=
  ∀ (s : State) (m : Master) (ev : Fin 2048) (k : Fin 64) (v rising : Word),
    (evtHasSource ev = true → evtSoftware ev = false →
      (s.evtLevel ev = true → ev.val ∉ s.evtHigh → ∃ t, exec (.eventRisingEdge ev) s = .next t ∧ t.evtPend ev = true ∧
        ev.val ∈ t.evtHigh ∧ t.mem = s.mem ∧ (s.evtPend ev = true → t.sent = s.sent ∧ t.regs = s.regs ∧ t.out = s.out)) ∧
      (s.evtLevel ev = true → ev.val ∈ s.evtHigh → exec (.eventRisingEdge ev) s = .next s) ∧
      (s.evtLevel ev = false → exec (.eventRisingEdge ev) s = .next { s with evtHigh := s.evtHigh.filter (· ≠ ev.val) })) ∧
    (s.grants m 1 .evt 0 (0x100 + 4 * k.val) = true → ∃ t, exec (.evtPendClear m k v rising) s = .next t ∧
      ∀ j : Nat, j < 32 → evtHasSource (32 * k.val + j) = true →
        (bit rising j = true → s.evtEdge (32 * k.val + j) = true ∨
            (evtSoftware (32 * k.val + j) = true ∧ 32 * k.val + j ∉ s.swNow) →
          t.evtPend (32 * k.val + j) = true) ∧
        (bit rising j = false → bit v j = true → t.evtPend (32 * k.val + j) = false) ∧
        (bit rising j = false → bit v j = false → t.evtPend (32 * k.val + j) = s.evtPend (32 * k.val + j))) ∧
    (s.grants m 1 .evt 0 (0x200 + 4 * k.val) = true → ∃ t, exec (.evtMaskWrite m k v) s = .next t ∧
      t.reg .evt 0 (0x200 + 4 * k.val) = v ∧
      (∀ e, s.evtPend e = true → e / 32 = k.val → s.evtMasked e = true → bit v (e % 32) = false → e ∈ t.sent) ∧ t.mem = s.mem) ∧
    (s.grants m 1 .evt 0 0x048 = true →
      let e := v.toNat % 2048
      (1856 ≤ e → ∃ t, exec (.evtSwset m v) s = .next t ∧ e ∈ t.swNow ∧
        (e ∉ s.swNow → t.evtPend e = true) ∧ (e ∈ s.swNow → t = s)) ∧
      (e < 1856 → exec (.evtSwset m v) s = .next (s.reject .evt 0 0x048 v))) ∧
    (s.grants m 1 .evt 0 0x044 = true →
      let e := (s.reg .evt 0 0x040).toNat % 2048
      (fld v 29 2 = 3 → exec (.evtRdataWrite m v) s = .next (s.reject .evt 0 0x044 v)) ∧
      (fld v 29 2 < 2 → ∃ t, exec (.evtRdataWrite m v) s = .next t ∧ (evtForced e = false → t.route e = v &&& 0xFFF0FFFF) ∧
        (∀ e', e' ≠ e → t.route e' = s.route e') ∧ t.regs = s.regs ∧ t.sent = s.sent ∧ t.mem = s.mem) ∧
      (fld v 29 2 = 2 → ∃ t, exec (.evtRdataWrite m v) s = .next t ∧ (evtForced e = false → t.route e = v &&& 0xFFF007FF) ∧
        (∀ e', e' ≠ e → t.route e' = s.route e') ∧ t.regs = s.regs ∧ t.sent = s.sent ∧ t.mem = s.mem))

/-- R371, the default map, from a state in which the master's ACU holds no region and no uncorrectable error: Keystone cores reach
every register page; other privileged masters every page but DUAL, ACU, LCS, DBG, KST, TMP, ELG, FLC and JNT, and not the
Keystone die below 0x0400_0000; every other address is open to both; a user context reaches nothing.
R373, the violation record: the first refusal fills it and sets STKY.VIOLATION; while it is valid a later one only counts, up to
0xFFFF. VIOL_CLEAR empties it and the count, but in the same stroke as a refusal the refusal wins. -/
def Obligations.AccessCheckRows : Prop :=
  (∀ (s : State) (m : Master) (kind a : Nat), s.acuEcc = [] → (∀ c, s.acuRegion m.acu c a = none) → kind ≤ 2 → m ≠ .debug →
    (s.acuUser m = true → s.acuByte m kind a = some (1, 0, false)) ∧
    (s.acuUser m = false → a < 0x04000000 → s.acuByte m kind a = if m.isKs then none else some (4, 0, false)) ∧
    (s.acuUser m = false → 0x04000000 ≤ a → (a < 0x40000000 ∨ 0x44000000 ≤ a) → s.acuByte m kind a = none) ∧
    (s.acuUser m = false → ∀ pg off, pageOf a = some (pg, off) →
      s.acuByte m kind a =
        if kind ≠ 2 ∧ (m.isKs = true ∨ pg.block ∉ [Block.dual, .acu, .lcs, .dbg, .kst, .tmp, .elg, .flc, .jnt]) then none
        else some (4, 0, false))) ∧
  (∀ (s : State) (m : Master) (kind a reason region : Nat) (mt : Bool) (i : Fin 64) (v : Word), kind < 4 → reason < 8 → region < 16 →
    (let t := s.acuRecord m kind a reason region mt
     (bit (s.reg .acu m.acu 0x044) 31 = false →
       bit (t.reg .acu m.acu 0x044) 31 = true ∧ t.reg .acu m.acu 0x048 = BitVec.ofNat 32 a ∧
       t.reg .acu m.acu 0x050 = BitVec.ofNat 32 (s.capture .acu m.acu) ∧ bit (t.reg .acu m.acu 0x010) 2 = true ∧
       t.reg .acu m.acu 0x058 = s.reg .acu m.acu 0x058) ∧
     (bit (s.reg .acu m.acu 0x044) 31 = true →
       t.reg .acu m.acu 0x044 = s.reg .acu m.acu 0x044 ∧ t.reg .acu m.acu 0x048 = s.reg .acu m.acu 0x048 ∧
       fld (t.reg .acu m.acu 0x058) 0 16 = min (fld (s.reg .acu m.acu 0x058) 0 16 + 1) 0xFFFF) ∧
     t.mem = s.mem ∧ t.procs = s.procs) ∧
    (s.grants m 1 .acu i.val 0x05C = true → bit v 0 = true →
      exec (.violClear m i v false) s =
        .next ((s.setReg .acu i.val 0x044 (putBit (s.reg .acu i.val 0x044) 31 false)).setReg .acu i.val 0x058 0) ∧
      ∃ t, exec (.violClear m i v true) s = .next t ∧ t.reg .acu i.val 0x044 = s.reg .acu i.val 0x044 ∧
        fld (t.reg .acu i.val 0x058) 0 16 = min (fld (s.reg .acu i.val 0x058) 0 16 + 1) 0xFFFF ∧ bit (t.reg .acu i.val 0x010) 2 = true))

/-! ### GTIS processors: computing (R63, R74, R77, R78) -/

/-- R77, the instructions that take two INT operands and give an INT: bitwise, shifts by b[4:0], signed compare, multiply. INT
never goes to b31 (R63).
R74 and R77, the instructions with one INT operand and a literal: shifts, zero-extended bitwise immediates, compares with
the sign-extended immediate; and LUI.
R77, the limb instructions: LADDC and LSUBB with the carry or borrow in CY, LMULL and LMULH, which leave CY.
R77, ADD, SUB, ADDI and TADD: the listed tag pairs give the listed result; b31 takes it under R63. A destination of b0
discards the result (`setR` at 0). Nothing else of the device changes. -/
def Obligations.ArithmeticResults : Prop :=
  ((∀ (s : State) (p : ProcId) (d a b : Fin 32), s.canRun p = true → d.val ≠ 31 →
    let x := s.proc p
    let u := (x.r a.val).data
    let v := (x.r b.val).data
    let gives (i : Instr) (w : Word) : Prop := exec i s = .next (s.retire p (x.setR d ⟨w, Tag.int⟩))
    (x.r a.val).tag = Tag.int → (x.r b.val).tag = Tag.int →
      gives (.and p d a b) (u &&& v) ∧ gives (.or p d a b) (u ||| v) ∧ gives (.xor p d a b) (u ^^^ v) ∧
      gives (.sll p d a b) (u <<< (v.toNat % 32)) ∧ gives (.srl p d a b) (u >>> (v.toNat % 32)) ∧
      gives (.sra p d a b) (u.sshiftRight (v.toNat % 32)) ∧
      gives (.slt p d a b) (if u.toInt < v.toInt then 1 else 0) ∧
      gives (.mul p d a b) (BitVec.ofNat 32 (u.toNat * v.toNat)) ∧
      gives (.mulhu p d a b) (BitVec.ofNat 32 (u.toNat * v.toNat / 2 ^ 32)) ∧
      gives (.mulh p d a b) (BitVec.ofInt 32 (u.toInt * v.toInt / 2 ^ 32))) ∧
  (∀ (s : State) (p : ProcId) (d a sh : Fin 32) (imm : BitVec 16), s.canRun p = true → d.val ≠ 31 →
    let x := s.proc p
    let u := (x.r a.val).data
    let gives (i : Instr) (w : Word) : Prop := exec i s = .next (s.retire p (x.setR d ⟨w, Tag.int⟩))
    gives (.lui p d imm) (BitVec.ofNat 32 (imm.toNat * 2 ^ 16)) ∧
    ((x.r a.val).tag = Tag.int →
      gives (.slli p d a sh) (u <<< sh.val) ∧ gives (.srli p d a sh) (u >>> sh.val) ∧
      gives (.srai p d a sh) (u.sshiftRight sh.val) ∧
      gives (.andi p d a imm) (u &&& BitVec.ofNat 32 imm.toNat) ∧ gives (.ori p d a imm) (u ||| BitVec.ofNat 32 imm.toNat) ∧
      gives (.xori p d a imm) (u ^^^ BitVec.ofNat 32 imm.toNat) ∧
      gives (.slti p d a imm) (if u.toInt < imm.toInt then 1 else 0) ∧
      gives (.sltiu p d a imm) (if u.toNat < (imm.signExtend 32).toNat then 1 else 0)))) ∧
  (∀ (s : State) (p : ProcId) (d a b : Fin 32), s.canRun p = true → d.val ≠ 31 →
    let x := s.proc p
    let u := (x.r a.val).data.toNat
    let v := (x.r b.val).data.toNat
    let c := x.cy.toNat
    (x.r a.val).tag = Tag.limb → (x.r b.val).tag = Tag.limb →
      exec (.laddc p d a b) s =
        .next (s.retire p { x.setR d ⟨BitVec.ofNat 32 (u + v + c), Tag.limb⟩ with cy := decide (2 ^ 32 ≤ u + v + c) }) ∧
      exec (.lsubb p d a b) s =
        .next (s.retire p { x.setR d ⟨(x.r a.val).data - (x.r b.val).data - BitVec.ofNat 32 c, Tag.limb⟩ with cy := decide (u < v + c) }) ∧
      exec (.lmull p d a b) s = .next (s.retire p (x.setR d ⟨BitVec.ofNat 32 (u * v), Tag.limb⟩)) ∧
      exec (.lmulh p d a b) s = .next (s.retire p (x.setR d ⟨BitVec.ofNat 32 (u * v / 2 ^ 32), Tag.limb⟩))) ∧
  (∀ (s : State) (p : ProcId) (d a b : Fin 32) (imm : BitVec 16), s.canRun p = true →
    let x := s.proc p
    let u := x.r a.val
    let v := x.r b.val
    (∀ t, (u.tag, v.tag, t) ∈ [(Tag.int, Tag.int, Tag.int), (Tag.ptr, Tag.int, Tag.ptr), (Tag.int, Tag.ptr, Tag.ptr),
        (Tag.time, Tag.int, Tag.time)] → x.takes d ⟨u.data + v.data, t⟩ →
      exec (.add p d a b) s = .next (s.retire p (x.setR d ⟨u.data + v.data, t⟩))) ∧
    (∀ t, (u.tag, v.tag, t) ∈ [(Tag.int, Tag.int, Tag.int), (Tag.ptr, Tag.int, Tag.ptr), (Tag.ptr, Tag.ptr, Tag.int),
        (Tag.time, Tag.int, Tag.time), (Tag.time, Tag.time, Tag.int)] → x.takes d ⟨u.data - v.data, t⟩ →
      exec (.sub p d a b) s = .next (s.retire p (x.setR d ⟨u.data - v.data, t⟩))) ∧
    (u.tag ∈ [Tag.int, Tag.ptr, Tag.time] → x.takes d ⟨u.data + imm.signExtend 32, u.tag⟩ →
      exec (.addi p d a imm) s = .next (s.retire p (x.setR d ⟨u.data + imm.signExtend 32, u.tag⟩))) ∧
    (d.val % 2 = 0 → a.val % 2 = 0 → d.val ≠ 30 → u.tag = Tag.time → (x.r (a.val + 1)).tag = Tag.time → v.tag = Tag.int →
      let n := u.data.toNat + 2 ^ 32 * (x.r (a.val + 1)).data.toNat + v.data.toNat
      exec (.tadd p d a b) s =
        .next (s.retire p ((x.setR d ⟨BitVec.ofNat 32 n, Tag.time⟩).setR (d.val + 1) ⟨BitVec.ofNat 32 (n / 2 ^ 32), Tag.time⟩))))

/-- R66, R77 and R78, the instructions whose tags matter: SLTU, SEQ, SEL, BSWAP, MOV, CVT, TAGOF, CLRT and, at supervisor
privilege, TAG.
Model's choices: log entry 15. -/
def Obligations.TagRuleResults : Prop :=
  ∀ (s : State) (p : ProcId) (d a b : Fin 32) (t : Tag), s.canRun p = true →
    let x := s.proc p
    let u := x.r a.val
    let v := x.r b.val
    let gives (i : Instr) (w : TWord) : Prop := exec i s = .next (s.retire p (x.setR d w))
    (d.val ≠ 31 → u.tag = v.tag → u.tag ∈ [Tag.int, Tag.ptr, Tag.time] →
      gives (.sltu p d a b) ⟨if u.data.toNat < v.data.toNat then 1 else 0, Tag.int⟩) ∧
    (d.val ≠ 31 → u.tag = v.tag → u.tag ∈ [Tag.int, Tag.ptr, Tag.limb, Tag.handle, Tag.time] →
      gives (.seq p d a b) ⟨if u.data = v.data then 1 else 0, Tag.int⟩) ∧
    ((x.r d.val).tag = Tag.int → u.tag = v.tag → u.tag ∈ [Tag.int, Tag.ptr, Tag.limb, Tag.handle, Tag.time] →
      x.takes d (if (x.r d.val).data ≠ 0 then u else v) → gives (.sel p d a b) (if (x.r d.val).data ≠ 0 then u else v)) ∧
    (d.val ≠ 31 → u.tag ∈ [Tag.int, Tag.limb] →
      gives (.bswap p d a) ⟨BitVec.ofNat 32 (leNat (leBytes 4 u.data.toNat).reverse), u.tag⟩) ∧
    (u.tag ∈ [Tag.int, Tag.ptr, Tag.limb, Tag.handle, Tag.time] → x.takes d u → gives (.mov p d a) u) ∧
    ((u.tag, t) ∈ [(Tag.int, Tag.int), (Tag.int, Tag.ptr), (Tag.int, Tag.limb), (Tag.int, Tag.time), (Tag.ptr, Tag.int),
        (Tag.ptr, Tag.ptr), (Tag.limb, Tag.int), (Tag.limb, Tag.limb), (Tag.time, Tag.int), (Tag.time, Tag.time)] →
      x.takes d ⟨u.data, t⟩ → gives (.cvt p d a t) ⟨u.data, t⟩) ∧
    (d.val ≠ 31 → gives (.tagof p d a) ⟨BitVec.ofNat 32 u.tag.toNat, Tag.int⟩) ∧
    (d.val ≠ 31 → gives (.clrt p d) ⟨0, Tag.none⟩) ∧
    (x.super = true → u.tag = Tag.int → t ∈ [Tag.int, Tag.ptr, Tag.limb, Tag.handle, Tag.time] → x.takes d ⟨u.data, t⟩ →
      gives (.tag p d a t) ⟨u.data, t⟩)

/-- R80 with R96, the order of the first two operand checks over the two-INT instructions: a NONE operand traps TAG_USE (1), any
other tag outside the row traps TAG_MISMATCH (2), and the trap is the whole effect.
Model's choices: log entry 15. -/
def Obligations.OperandTagTraps : Prop :=
  ∀ (s : State) (p : ProcId) (d a b : Fin 32), s.canRun p = true → (s.proc p).stepOne = false →
    let x := s.proc p
    ∀ i ∈ [Instr.and p d a b, .or p d a b, .xor p d a b, .sll p d a b, .srl p d a b, .sra p d a b, .slt p d a b,
        .mul p d a b, .mulhu p d a b, .mulh p d a b],
      ((x.r a.val).tag = Tag.none ∨ (x.r b.val).tag = Tag.none → exec i s = .next (s.trap p 1 x.pc 0)) ∧
      ((x.r a.val).tag ≠ Tag.none → (x.r b.val).tag ≠ Tag.none → ((x.r a.val).tag ≠ Tag.int ∨ (x.r b.val).tag ≠ Tag.int) →
        exec i s = .next (s.trap p 2 x.pc 0))

/-! ### GTIS processors: loads, stores and keys (R62-R73, R77-R81) -/

/-- R67, R68, R77 and R79, loads. A local load whose word has an accepted tag writes d: LDW the word with its tag, LDH and LDB
the zero-extended part of an INT word at the address (little-endian, R6). The word is the one the processor sees: of a word of shared
memory that another pair writes in the same stroke the old one (R69), otherwise the stored one. A load through a window outside the
key planes sends a mortar read of its size to the physical address (R68), after the lockstep compare of a scheduled pair (R102), and d
keeps its value until the response.
R68, R147 and R372: a free-mode processor's global access that its ACU permits, with a route in force, leaves as one mortar
message of free class that names the processor, the address, the data, the stroke, the destination register and the pc, and its
beats start over the route in that stroke (of a legacy instance a crypto address is first replaced, R132). In scheduled mode the
odd tile of a pair sends nothing (R103).
Model's choices: log entries 3, 20, 73, 84 and 102. -/
def Obligations.LoadResults : Prop :=
  (∀ (s : State) (p : ProcId) (d a : Fin 32) (imm : BitVec 16), s.canRun p = true →
    let x := s.proc p
    let ad := ((x.r a.val).data + imm.signExtend 32).toNat
    let cell := localMap p x (ad / 4 * 4)
    let w := s.seen p cell
    let sent (ph n : Nat) : State := ((s.lockCmp p x 1 [0, ph, n]).sendFrom p .read ph n [] d).retire p x
    ((∀ e ∈ s.shLog, e.stroke ≠ s.stroke ∨ e.pair = p.pairNo) → w = s.locWord p.course cell) ∧
    ((x.r a.val).tag = Tag.ptr →
      (locLocal (localMap p x ad) = true → s.locBad cell = false →
        (ad % 4 = 0 → w.tag ∈ [Tag.int, Tag.ptr, Tag.limb, Tag.handle, Tag.time] → x.takes d w →
          exec (.ldw p d a imm) s = .next (s.retire p (x.setR d w))) ∧
        (d.val ≠ 31 → w.tag = Tag.int →
          (ad % 2 = 0 → exec (.ldh p d a imm) s =
            .next (s.retire p (x.setR d ⟨BitVec.ofNat 32 (w.data.toNat / 2 ^ (8 * (ad % 4)) % 2 ^ 16), Tag.int⟩))) ∧
          exec (.ldb p d a imm) s =
            .next (s.retire p (x.setR d ⟨BitVec.ofNat 32 (w.data.toNat / 2 ^ (8 * (ad % 4)) % 2 ^ 8), Tag.int⟩)))) ∧
      (∀ ph, localMap p x ad = .phys ph → inPlane ph = false →
        (ad % 4 = 0 → exec (.ldw p d a imm) s = .next (sent ph 4)) ∧
        (d.val ≠ 31 → (ad % 2 = 0 → exec (.ldh p d a imm) s = .next (sent ph 2)) ∧ exec (.ldb p d a imm) s = .next (sent ph 1))))) ∧
  (∀ (s : State) (p : ProcId) (kind : Nat) (what : List Nat), (s.proc p).sched = false → s.lockCmp p (s.proc p) kind what = s) ∧
  (∀ (s : State) (p : ProcId) (k : MsgKind) (a n d : Nat) (ws : List TWord),
    ((s.proc p).sched = false →
      s.acuCheck (.proc p) (match k with | .read => 0 | .write => 1 | .keyWrite => 2) a n = none →
      (∀ c t, p = .tile c t → (Sparse.get {} s.cox c.val).role ≠ 2) →
      ∀ route, s.route? (masterNode (.proc p)) (nodeOf a) = some route →
      let m : Msg := { src := .proc p, sched := false, owner := 0, kind := k, addr := a, size := n, data := ws, stroke := s.stroke,
                       dest := d, pc := (s.proc p).pc }
      s.sendFrom p k a n ws d = { s with mort := { s.mort with
        msgs := s.mort.msgs ++ [m]
        flights := s.mort.flights ++ [{ body := .req m, sched := false, owner := 0, acu := (Master.proc p).acu, route := route,
                                        start := s.stroke, head := s.stroke + 1 }] } }) ∧
    ((s.proc p).sched = true → p.sends = false → s.sendFrom p k a n ws d = s))

/-- R77, R79 and R387, stores to memory of the local map. STW writes the word with its tag over any tag; STH and STB merge into
an INT word, or make an INT word of a NONE word. A scheduled pair's stores are compared first (R102); a store of the odd tile to course
shared memory in scheduled mode is the pair's one access and leaves memory to the even tile (R103), and of the writes of one stroke
to a word of shared memory the highest pair's remains (R69). A store through a window leaves as one mortar write.
The frame of a store to memory of the local map (R77, R79): the stored word reads back, and every byte outside its four
bytes, every other word's tag, every other processor and every register cell is as before. The address is the one the
instruction computes.
Model's choices: log entries 3, 20, 73, 79 and 84. -/
def Obligations.StoreResults : Prop :=
  (∀ (s : State) (p : ProcId) (src a : Fin 32) (imm : BitVec 16), s.canRun p = true →
    let x := s.proc p
    let ad := ((x.r a.val).data + imm.signExtend 32).toNat
    let v := x.r src.val
    let stored (k : Nat) (w : TWord) : State := s.storeWord p x ad k w
    (x.r a.val).tag = Tag.ptr →
    (∀ k, localMap p x ad = .data k → s.xlockHit p (.data k) = false → ad % 4 = 0 →
      v.tag ∈ [Tag.int, Tag.ptr, Tag.limb, Tag.handle, Tag.time] →
      exec (.stw p src a imm) s = .next ((stored k v).retire p x)) ∧
    (∀ k k0, localMap p x ad = .data k0 → localMap p x (ad / 4 * 4) = .data k → s.xlockHit p (.data k0) = false →
      s.isBad k = false → v.tag = Tag.int → (s.seen p (.data k)).tag = Tag.int ∨ (s.seen p (.data k)).tag = Tag.none →
      let old := if (s.word k).tag = Tag.int then (s.word k).data else 0
      (ad % 2 = 0 → exec (.sth p src a imm) s =
        .next ((stored k ⟨putFld old (8 * (ad % 4)) 16 v.data.toNat, Tag.int⟩).retire p x)) ∧
      exec (.stb p src a imm) s = .next ((stored k ⟨putFld old (8 * (ad % 4)) 8 v.data.toNat, Tag.int⟩).retire p x)) ∧
    (∀ ph, localMap p x ad = .phys ph → inPlane ph = false → ad % 4 = 0 →
      v.tag ∈ [Tag.int, Tag.ptr, Tag.limb, Tag.handle, Tag.time] →
      exec (.stw p src a imm) s =
        .next (((s.lockCmp p x 1 [1, ph, v.data.toNat, v.tag.toNat]).sendFrom p .write ph 4 [v] 32).retire p
          { x with outStores := x.outStores + 1 }))) ∧
  (∀ (s : State) (p : ProcId) (ad k : Nat) (w : TWord),
    let x := s.proc p
    let s1 := s.lockCmp p x 0 [ad, w.data.toNat, w.tag.toNat]
    (isShared p ad = false → s.storeWord p x ad k w = s1.putWord k w) ∧
    (isShared p ad = true →
      (x.sched = true → p.sends = false → s.storeWord p x ad k w = s1) ∧
      (x.sched = false ∨ p.sends = true →
        ((∀ e ∈ s.shLog, e.key = k → e.stroke = s.stroke → e.pair ≤ p.pairNo) → (s.storeWord p x ad k w).word k = w) ∧
        (∀ c t, p = .tile c t → (∃ e ∈ s.shLog, e.key = k ∧ e.stroke = s.stroke) →
          (∀ e ∈ s.shLog, e.key = k → e.stroke = s.stroke → p.pairNo < e.pair) → (s.storeWord p x ad k w).mem = s.mem)))) ∧
  (∀ (s : State) (p : ProcId) (src a : Fin 32) (imm : BitVec 16) (k : Nat), s.canRun p = true →
    let x := s.proc p
    localMap p x ((x.r a.val).data + imm.signExtend 32).toNat = .data k → s.xlockHit p (.data k) = false →
    ((x.r a.val).data + imm.signExtend 32).toNat % 4 = 0 → (x.r a.val).tag = Tag.ptr → x.sched = false →
    (x.r src.val).tag ∈ [Tag.int, Tag.ptr, Tag.limb, Tag.handle, Tag.time] →
    (∀ e ∈ s.shLog, e.key = k → e.stroke = s.stroke → e.pair ≤ p.pairNo) →
    ∃ t, exec (.stw p src a imm) s = .next t ∧ t.word k = x.r src.val ∧
      (∀ b, b < k ∨ k + 4 ≤ b → t.byte b = s.byte b) ∧ (∀ b, b / 4 ≠ k / 4 → t.tagAt b = s.tagAt b) ∧
      (∀ q : ProcId, q.key ≠ p.key → t.proc q = s.proc q) ∧ t.regs = s.regs ∧ (t.proc p).b = x.b ∧ (t.proc p).k = x.k)

/-- R66, R71 and R77, key moves: LKEY and SKEY between a key register and the own key plane, KMOV, KCLR, KTAGOF, KWIPE, MKEY on a
Keystone core, and KPUT, which sends a KEY write to a crypto port or, in scheduled mode, to a role alias (R163, R198). A scheduled
pair's stores and sends are compared first (R102).
Model's choices: log entries 3, 8 and 84. -/
def Obligations.KeyMoveResults : Prop :=
  ∀ (s : State) (p : ProcId) (k kd d a : Fin 32) (imm : BitVec 16), s.canRun p = true →
    let x := s.proc p
    let ad := ((x.r a.val).data + imm.signExtend 32).toNat
    (∀ q, (x.r a.val).tag = Tag.ptr → localMap p x ad = .plane q → ad % 4 = 0 →
      (k.val < 16 → (s.word q).tag = Tag.key → s.isBad q = false →
        exec (.lkey p k a imm) s = .next (s.retire p (x.setK k (s.word q)))) ∧
      (k.val < 16 → (x.kr k.val).tag = Tag.key →
        exec (.skey p k a imm) s =
          .next (((s.lockCmp p x 0 [ad, (x.kr k.val).data.toNat, Tag.key.toNat]).putWord q (x.kr k.val)).retire p x)) ∧
      exec (.kwipe p a imm) s = .next (((s.lockCmp p x 0 [ad, 0, 0]).putWord q ⟨0, Tag.none⟩).retire p x)) ∧
    (∀ ph, (x.r a.val).tag = Tag.ptr → localMap p x ad = .phys ph → inCryptoPort ph = true ∨ (x.sched = true ∧ inAlias ph = true) → ad % 4 = 0 →
      kputMap p (BitVec.ofNat 32 ad) = true → k.val < 16 → (x.kr k.val).tag = Tag.key →
      exec (.kput p k a imm) s =
        .next (((s.lockCmp p x 1 [2, ph, (x.kr k.val).data.toNat]).sendFrom p .keyWrite ph 4 [x.kr k.val] 32).retire p
          { x with outStores := x.outStores + 1 })) ∧
    (kd.val < 16 → k.val < 16 → (x.kr k.val).tag = Tag.key → exec (.kmov p kd k) s = .next (s.retire p (x.setK kd (x.kr k.val)))) ∧
    (kd.val < 16 → exec (.kclr p kd) s = .next (s.retire p (x.setK kd ⟨0, Tag.none⟩))) ∧
    (k.val < 16 → d.val ≠ 31 →
      exec (.ktagof p d k) s = .next (s.retire p (x.setR d ⟨if (x.kr k.val).tag = Tag.key then 1 else 0, Tag.int⟩))) ∧
    (kd.val < 16 → p.isKs = true → (x.r a.val).tag = Tag.int →
      exec (.mkey p kd a) s = .next (s.retire p (x.setK kd ⟨(x.r a.val).data, Tag.key⟩)))

/-! ### GTIS processors: control flow (R77, R83-R90) -/

/-- R77 and R89, branches and jumps: a taken transfer goes to its target and closes the loops whose bodies do not hold it; a
branch not taken goes on.
R83, R84 and R99, the stack: CALL and CALLR push a CODE word with the address after the call at b31 - 4, move b31 and
transfer, closing no loop; RET, whose new b31 must not lie below slim (R63), scrubs the word to NONE, moves b31 back and goes to
data[31:2] << 2, or, for a word that trap entry
pushed, to TPC or TPC + 4 with the privilege of PPRIV and ACTIVE cleared.
Model's choices: log entries 3 and 15. -/
def Obligations.TransferResults : Prop :=
  (∀ (s : State) (p : ProcId) (a b : Fin 32) (off : BitVec 16) (o26 : BitVec 26), s.canTransfer p = true →
    let x := s.proc p
    let u := x.r a.val
    let v := x.r b.val
    let ok (t : Word) : Prop := t.toNat % 4 = 0 ∧ s.codeOk p t.toNat = true
    let t := x.pc + off.signExtend 32 * 4
    let goes (i : Instr) (c : Bool) : Prop :=
      (c = true → ok t → exec i s = .next (s.retireAt p (x.goto t))) ∧ (c = false → exec i s = .next (s.retire p x))
    (u.tag = v.tag → u.tag ∈ [Tag.int, Tag.ptr, Tag.limb, Tag.handle, Tag.time] →
      goes (.beq p a b off) (decide (u.data = v.data)) ∧ goes (.bne p a b off) (decide (u.data ≠ v.data))) ∧
    (u.tag = Tag.int → v.tag = Tag.int →
      goes (.blt p a b off) (decide (u.data.toInt < v.data.toInt)) ∧ goes (.bge p a b off) (decide (v.data.toInt ≤ u.data.toInt))) ∧
    (u.tag = v.tag → u.tag ∈ [Tag.int, Tag.ptr, Tag.time] →
      goes (.bltu p a b off) (decide (u.data.toNat < v.data.toNat)) ∧ goes (.bgeu p a b off) (decide (v.data.toNat ≤ u.data.toNat))) ∧
    (ok (x.pc + o26.signExtend 32 * 4) → exec (.jmp p o26) s = .next (s.retireAt p (x.goto (x.pc + o26.signExtend 32 * 4)))) ∧
    (u.tag = Tag.ptr → ok u.data → exec (.jr p a) s = .next (s.retireAt p (x.goto u.data)))) ∧
  (∀ (s : State) (p : ProcId) (a : Fin 32) (o26 : BitVec 26) (k : Nat), s.canTransfer p = true →
    let x := s.proc p
    let sp := x.r 31
    let n := sp.data - 4
    let ok (t : Word) : Prop := t.toNat % 4 = 0 ∧ s.codeOk p t.toNat = true
    let called (t : Word) : State := (s.putWord k ⟨(x.pc + 4) &&& ~~~3#32, Tag.code⟩).retireAt p { x.setR 31 ⟨n, Tag.ptr⟩ with pc := t }
    sp.tag = Tag.ptr →
    (localMap p x n.toNat = .data k → stackLoc p x n.toNat = true → n.toNat % 4 = 0 → x.slim.toNat ≤ n.toNat →
      (ok (x.pc + o26.signExtend 32 * 4) → exec (.call p o26) s = .next (called (x.pc + o26.signExtend 32 * 4))) ∧
      ((x.r a.val).tag = Tag.ptr → ok (x.r a.val).data → exec (.callr p a) s = .next (called (x.r a.val).data))) ∧
    (localMap p x sp.data.toNat = .data k → stackLoc p x sp.data.toNat = true → sp.data.toNat % 4 = 0 →
      (s.word k).tag = Tag.code → s.isBad k = false → x.slim.toNat ≤ (sp.data + 4).toNat →
      let w := (s.word k).data
      let y := x.setR 31 ⟨sp.data + 4, Tag.ptr⟩
      exec (.ret p) s = .next ((s.putWord k ⟨0, Tag.none⟩).retireAt p
        (if w.getLsbD 0 then { y.goto (if x.tskip then x.tpc + 4 else x.tpc) with super := x.tppriv, tactive := false }
         else y.goto (w &&& ~~~3#32)))))

/-- R86: LOOP and LOOPI open loop LDEPTH with ls, le and lc, and go on; a LOOP whose count is 0 opens none and goes to the
instruction after le. NOP only goes on (R77).
Model's choices: log entries 7 and 15. -/
def Obligations.LoopResults : Prop :=
  ∀ (s : State) (p : ProcId) (a : Fin 32) (n : Fin 1024) (off : BitVec 16), s.canTransfer p = true → 0 < off.toInt →
    let x := s.proc p
    let e := x.pc + off.signExtend 32 * 4
    let c := (x.r a.val).data
    let inside : Prop := x.ldepth = 0 ∨ e.toNat ≤ (Sparse.get 0 x.le (x.ldepth - 1)).toNat
    let opened (c : Word) : Proc :=
      { x with ls := Sparse.set 0 x.ls x.ldepth (x.pc + 4), le := Sparse.set 0 x.le x.ldepth e, lc := Sparse.set 0 x.lc x.ldepth c,
               ldepth := x.ldepth + 1, pc := x.pc + 4 }
    (x.ldepth < 4 → (x.r a.val).tag = Tag.int → c = 0 → exec (.loop p a off) s = .next (s.retireAt p { x with pc := e + 4 })) ∧
    (x.ldepth < 4 → inside → (x.r a.val).tag = Tag.int → c ≠ 0 → exec (.loop p a off) s = .next (s.retireAt p (opened c))) ∧
    (x.ldepth < 4 → inside → n.val ≠ 0 → exec (.loopi p n off) s = .next (s.retireAt p (opened (BitVec.ofNat 32 n.val)))) ∧
    exec (.nop p) s = .next (s.retire p x)

/-- R90: LOOP and LOOPI at LDEPTH 4 raise LOOP_DEPTH (6) and have no effect, a LOOP with count 0 among them. -/
def Obligations.LoopDepthTrap : Prop :=
  ∀ (s : State) (p : ProcId) (a : Fin 32) (n : Fin 1024) (off : BitVec 16), s.canTransfer p = true →
    (s.proc p).stepOne = false → 0 < off.toInt →
    let x := s.proc p
    let inside : Prop := (x.pc + off.signExtend 32 * 4).toNat ≤ (Sparse.get 0 x.le 3).toNat
    x.ldepth = 4 →
      ((x.r a.val).tag = Tag.int → inside ∨ (x.r a.val).data = 0 → exec (.loop p a off) s = .next (s.trap p 6 x.pc 0)) ∧
      (n.val ≠ 0 → inside → exec (.loopi p n off) s = .next (s.trap p 6 x.pc 0))

/-- R98, trap entry in free mode, met by an illegal instruction (R75, code 10): the trap state is written, PPRIV keeps the old
privilege, ACTIVE is set and SKIP cleared, a CODE word with TPC and data[0] = 1 is pushed at b31 - 4, privilege rises to supervisor
and the pc goes to TVEC. CY, GWIN, event lines and open loops are unchanged. -/
def Obligations.TrapEntry : Prop :=
  ∀ (s : State) (p : ProcId) (w : Word) (k : Nat), s.canRun p = true → encodingLegal w = false →
    let x := s.proc p
    let n := (x.r 31).data - 4
    x.sched = false → x.tactive = false → (x.r 31).tag = Tag.ptr → localMap p x n.toNat = .data k → stackLoc p x n.toNat = true →
    n.toNat % 4 = 0 → x.slim.toNat ≤ n.toNat →
    exec (.illegalInstruction p w) s = .next ((s.putWord k ⟨(x.pc &&& ~~~3#32) ||| 1#32, Tag.code⟩).retireAt p
      { x.setR 31 ⟨n, Tag.ptr⟩ with
        tcause := 10, tpc := x.pc, taddr := 0, ttime := s.counter p, tldepth := x.ldepth, tppriv := x.super, tactive := true,
        tskip := false, super := true, pc := x.tvec })

/-! ### GTIS processors: waits, events, special registers (R35, R65, R77, R91-R97) -/

/-- R92, R95 and R77: WFE with a mask of 0 or with a selected line pending completes at once and clears the lines it selects;
otherwise in free mode it opens a wait, which ends when a selected line is pending and clears it, but for a line delivered in the
same stroke. WAITC completes at once for a target up to the next stroke, otherwise opens a wait that ends at its target. FENCE
completes when no earlier global store is unacknowledged, otherwise it waits for that.
R35, R91 and R93: SEV on a course schedules its line for the named tiles of its own course 2 strokes later, and the delivery
sets the line in each named tile; SEVG raises its software event in the next stroke, and a number outside 1856-2047 only sets
EVT.STKY.CMD_REJECT. -/
def Obligations.WaitEventResults : Prop :=
  (∀ (s : State) (p : ProcId) (a : Fin 32) (v : Word),
    let x := s.proc p
    let m := (x.r a.val).data
    let t := m.toNat + 2 ^ 32 * (x.r (a.val + 1)).data.toNat
    (s.canTransfer p = true → (x.r a.val).tag = Tag.int →
      (m = 0 ∨ x.lines &&& m ≠ 0 → exec (.wfe p a) s = .next (s.retire p { x with lines := x.lines &&& ~~~m })) ∧
      (x.sched = false → m ≠ 0 → x.lines &&& m = 0 → exec (.wfe p a) s = .next (s.retireAt p { x with wait := some (1, m.toNat) }))) ∧
    (∀ n, x.wait = some (1, n) → x.lines &&& BitVec.ofNat 32 n ≠ 0 →
      exec (.wfeComplete p v) s = .next (s.setProc p
        ({ x with wait := none, lines := (x.lines &&& ~~~BitVec.ofNat 32 n) ||| (v &&& BitVec.ofNat 32 n) } : Proc).advance)) ∧
    (s.canTransfer p = true → a.val % 2 = 0 → (x.r a.val).tag = Tag.time → (x.r (a.val + 1)).tag = Tag.time →
      (x.sched = true → s.counter p ≤ t) →
      (t ≤ s.counter p + 1 → exec (.waitc p a) s = .next (s.retire p x)) ∧
      (s.counter p + 1 < t → exec (.waitc p a) s = .next (s.retireAt p { x with wait := some (2, t) }))) ∧
    (∀ n, x.wait = some (2, n) → n ≤ s.counter p →
      exec (.waitcComplete p) s = .next (s.setProc p ({ x with wait := none } : Proc).advance)) ∧
    (s.canRun p = true → x.sched = false →
      (x.outStores = 0 → exec (.fence p) s = .next (s.retire p x)) ∧
      (x.outStores ≠ 0 → exec (.fence p) s = .next (s.retireAt p { x with wait := some (3, 0) }))) ∧
    (∀ n, x.wait = some (3, n) → x.outStores = 0 →
      exec (.fenceComplete p) s = .next (s.setProc p ({ x with wait := none } : Proc).advance))) ∧
  (∀ (s : State) (p : ProcId) (a line : Fin 32) (c : Fin 16) (t : Fin 16),
    let x := s.proc p
    let v := (x.r a.val).data.toNat
    (s.canRun p = true → (x.r a.val).tag = Tag.int →
      (p.isKs = false → exec (.sev p a line) s =
        .next (({ s with sevs := s.sevs ++ [(s.stroke + 2, p.course, v % 2 ^ 16, line.val)] } : State).retire p x)) ∧
      (1856 ≤ v → v < 2048 → exec (.sevg p a) s = .next (({ s with sevg := v :: s.sevg } : State).retire p x)) ∧
      (v < 1856 ∨ 2048 ≤ v → exec (.sevg p a) s = .next ((s.setSticky .evt 0 0).retire p x))) ∧
    (∃ u, exec .sevDelivery s = .next u ∧ u.sevs = s.sevs.filter (fun e => decide (s.stroke < e.1)) ∧
      u.mem = s.mem ∧ u.regs = s.regs ∧
      (∀ e ∈ s.sevs, e.1 ≤ s.stroke → e.2.1 % 16 = c.val → e.2.2.1.testBit t.val = true → e.2.2.2 = line.val →
        (u.proc (.tile c t)).lines.getLsbD line.val = true) ∧
      ((∀ e ∈ s.sevs, e.1 ≤ s.stroke → e.2.1 % 16 = c.val → e.2.2.1.testBit t.val = false ∧ e.2.2.1.testBit (t.val ^^^ 1) = false) →
        u.proc (.tile c t) = s.proc (.tile c t))))

/-- R65, R77, R95 and R97: RDSCL reads the stroke counter and latches its high word, which RDSCH reads; MFS reads every special
register of the tables with its tag; MTS writes the registers the privilege and mode allow, with a word of the register's tag,
and keeps their reserved and read-only bits. TIME and INT never go to b31 (R63). -/
def Obligations.SpecialRegisterResults : Prop :=
  ∀ (s : State) (p : ProcId) (d a : Fin 32) (n : Fin 1024), s.canRun p = true →
    let x := s.proc p
    let w := (x.r a.val).data
    let r := x.r a.val
    (d.val ≠ 31 →
      exec (.rdscl p d) s = .next (s.retire p { x.setR d ⟨BitVec.ofNat 32 (s.counter p), Tag.time⟩ with
        sclHi := BitVec.ofNat 32 (s.counter p / 2 ^ 32) }) ∧
      exec (.rdsch p d) s = .next (s.retire p (x.setR d ⟨x.sclHi, Tag.time⟩))) ∧
    (∀ v, (n.val, v) ∈ ([(0x000, ⟨BitVec.ofNat 32 p.tileId, Tag.int⟩), (0x001, ⟨modeWord p x, Tag.int⟩), (0x002, ⟨flag x.cy 0, Tag.int⟩),
        (0x003, ⟨x.slim, Tag.ptr⟩), (0x004, ⟨BitVec.ofNat 32 x.gwin.toNat, Tag.int⟩), (0x008, ⟨Sparse.get 0 x.ls 0, Tag.ptr⟩),
        (0x009, ⟨Sparse.get 0 x.ls 1, Tag.ptr⟩), (0x00A, ⟨Sparse.get 0 x.ls 2, Tag.ptr⟩), (0x00B, ⟨Sparse.get 0 x.ls 3, Tag.ptr⟩),
        (0x00C, ⟨Sparse.get 0 x.le 0, Tag.ptr⟩), (0x00D, ⟨Sparse.get 0 x.le 1, Tag.ptr⟩), (0x00E, ⟨Sparse.get 0 x.le 2, Tag.ptr⟩),
        (0x00F, ⟨Sparse.get 0 x.le 3, Tag.ptr⟩), (0x010, ⟨Sparse.get 0 x.lc 0, Tag.int⟩), (0x011, ⟨Sparse.get 0 x.lc 1, Tag.int⟩),
        (0x012, ⟨Sparse.get 0 x.lc 2, Tag.int⟩), (0x013, ⟨Sparse.get 0 x.lc 3, Tag.int⟩), (0x014, ⟨BitVec.ofNat 32 x.ldepth, Tag.int⟩),
        (0x040, ⟨x.tcause, Tag.int⟩), (0x041, ⟨x.tpc, Tag.ptr⟩), (0x042, ⟨x.taddr, Tag.int⟩),
        (0x043, ⟨flag x.tactive 0 ||| flag x.tppriv 1 ||| flag x.tskip 2, Tag.int⟩), (0x044, ⟨x.tvec, Tag.ptr⟩),
        (0x045, ⟨BitVec.ofNat 32 x.ttime, Tag.time⟩), (0x046, ⟨BitVec.ofNat 32 (x.ttime / 2 ^ 32), Tag.time⟩),
        (0x047, ⟨BitVec.ofNat 32 x.tldepth, Tag.int⟩)] : List (Nat × TWord)) →
      x.takes d v → exec (.mfs p d n) s = .next (s.retire p (x.setR d v))) ∧
    (n.val = 0x002 → r.tag = Tag.int → exec (.mts p a n) s = .next (s.retire p { x with cy := w.getLsbD 0 })) ∧
    (n.val = 0x004 → r.tag = Tag.int → exec (.mts p a n) s = .next (s.retire p { x with gwin := w.truncate 9 })) ∧
    (x.super = true →
      (n.val = 0x003 → r.tag = Tag.ptr → exec (.mts p a n) s = .next (s.retire p { x with slim := w })) ∧
      (n.val = 0x043 → r.tag = Tag.int → exec (.mts p a n) s = .next (s.retire p { x with tskip := w.getLsbD 2 })) ∧
      (n.val = 0x044 → r.tag = Tag.ptr → exec (.mts p a n) s = .next (s.retire p { x with tvec := w })) ∧
      (x.sched = false → ∀ i, i < 4 →
        (n.val = 0x008 + i → r.tag = Tag.ptr → exec (.mts p a n) s = .next (s.retire p { x with ls := Sparse.set 0 x.ls i w })) ∧
        (n.val = 0x00C + i → r.tag = Tag.ptr → exec (.mts p a n) s = .next (s.retire p { x with le := Sparse.set 0 x.le i w })) ∧
        (n.val = 0x010 + i → r.tag = Tag.int → exec (.mts p a n) s = .next (s.retire p { x with lc := Sparse.set 0 x.lc i w }))))

/-- R76, R79, R81 and R155, responses to a free-mode processor that runs: the oldest load response is taken and its word, accepted
by R79, goes to the destination, for which an instruction that waits need not wait any longer; the oldest error response is taken
and raises ACCESS, or ECC_UNCORR for a response that was lost,
naming the refused instruction and the lowest refused byte.
Model's choices: log entries 15 and 20. -/
def Obligations.ResponseResults : Prop :=
  ∀ (s : State) (p : ProcId) (r : Resp),
    let x := s.proc p
    x.sched = false → x.running = true → x.stopped = false →
    (s.respFor p false = some r → r.ecc = false → r.size = 4 → r.data.tag ∈ [Tag.int, Tag.ptr, Tag.limb, Tag.handle, Tag.time] →
      x.takes r.dest r.data →
      exec (.globalLoadResponse p) s =
        .next (({ s with mort := { s.mort with resps := s.mort.resps.erase r } } : State).setProc p
          ((if x.stall = some r.dest then { x with stall := none } else x).setR r.dest r.data))) ∧
    (s.respFor p true = some r → r.dest ≠ 32 →
      exec (.accessErrorResponse p) s =
        .next (({ s with mort := { s.mort with resps := s.mort.resps.erase r } } : State).trap p (if r.ecc then 9 else 8) r.pc r.addr))

/-! ### GTIS instruction words (R74, R75, R77) -/

/-- R74, R75 and R77, the instruction words. Every legal word is the word of the instruction it decodes to, an instruction whose word
is legal decodes from it, whatever its operands, and a word outside the encodings issues as ILLEGAL_INSTRUCTION, the words of
all zeros and of all ones among them. The six words of the worked fragment of 04 decode to its instructions.
Model's choices: log entry 11. -/
def Obligations.GtisEncodings : Prop :=
  ∀ (p : ProcId) (w : Word) (i : Instr),
    (encodingLegal w = true → gtisWord (gtisDecode p w) = some (p, w)) ∧
    (encodingLegal w = true → gtisWord i = some (p, w) → gtisDecode p w = i) ∧
    (encodingLegal w = false → gtisDecode p w = .illegalInstruction p w) ∧
    gtisDecode p 0 = .illegalInstruction p 0 ∧ gtisDecode p 0xFFFFFFFF = .illegalInstruction p 0xFFFFFFFF ∧
    gtisDecode p 0x28C0D200 = .lui p 6 0xD200 ∧ gtisDecode p 0x18C66000 = .ori p 6 6 0x6000 ∧
    gtisDecode p 0x0CC61002 = .cvt p 6 6 Tag.ptr ∧ gtisDecode p 0x60470020 = .lkey p 2 7 0x20 ∧
    gtisDecode p 0x68460000 = .kput p 2 6 0 ∧ gtisDecode p 0x41070020 = .ldw p 8 7 0x20

/-! ### Public-key engines (R161-R192) -/

/-- R165, R171-R173 and R179: W0 of every operation, where no reason of R181 holds and the cluster's microcode is sound, starts the
command on the pair that the beat reaches: SCHED or FREE for the row's stroke count, which for a scheduled W0 runs from its issue, 22
strokes before it is treated as arrived; with the requester, the staged words and, for the first draw of a stroke, the bytes of its
row drawn from the cluster's generator held, and the staging registers taken. Every other pair, every processor and every page
register stays. Draws of one stroke are dealt in order of pair number. Where a reason of R181 holds, W0 starts nothing: the staging
registers are taken, STKY.REFUSED and LAST_REFUSE say so, and the REFUSED status word is written 24 strokes later (R174).
Model's choices: log entries 12, 16, 18, 21, 75 and 93. -/
def Obligations.EngineCommandsStart : Prop :=
  ∀ (s : State) (r : Requester) (q0 : Fin 48) (w0 : Word) (row : (Requester → Fin 48 → Word → Instr) × Nat × Nat),
    row ∈ ([(.ecdsaP256Verify, 0x01, 38400), (.ecdsaP256Sign, 0x02, 41000), (.ecdhP256, 0x03, 36000), (.ecdsaP384Verify, 0x04, 88000),
      (.ecdsaP384Sign, 0x05, 94000), (.ecdhP384, 0x06, 84000), (.ed25519Verify, 0x08, 34000), (.ed25519Sign, 0x09, 30000),
      (.x25519, 0x0A, 29000), (.rsa2048Verify, 0x10, 11000), (.rsa3072Verify, 0x11, 24000), (.rsa4096Verify, 0x12, 42000),
      (.rsa2048CrtSign, 0x14, 370000), (.rsa3072CrtSign, 0x15, 1230000), (.rsa4096CrtSign, 0x16, 2900000),
      (.mlDsa65Verify, 0x20, 21000), (.mlDsa65Sign, 0x21, 96000), (.mlDsa87Verify, 0x22, 31000), (.mlDsa87Sign, 0x23, 140000),
      (.mlKem768Encapsulate, 0x28, 11000), (.mlKem768Decapsulate, 0x29, 14000), (.mlKem1024Encapsulate, 0x2A, 15000),
      (.mlKem1024Decapsulate, 0x2B, 19000)] : List ((Requester → Fin 48 → Word → Instr) × Nat × Nat)) →
    let q := s.pkeRoute q0.val
    let w (n : Nat) : Nat := (Sparse.get 0 (s.pkeU q).stage n).toNat
    let i := (pkInfo row.2.1).getD { f := 0 }
    let due := s.stroke + row.2.2 - (if r.sched then 22 else 0)
    let first : Prop := (s.clu (q / 12)).dealAt ≠ some s.stroke
    w0.toNat % 256 = row.2.1 →
    (s.pkeReason r q w0.toNat w = none → (s.clu (q / 12)).bad0 = [] → (s.clu (q / 12)).bad1 = [] →
      (r.sched = true ∨ (s.route? (nodeOf 0x11000000) (nodeOf (0x50000000 + 2 * q * 2 ^ 16))).isSome = true) →
      ∃ t, exec (row.1 r q0 w0) s = .next t ∧
        (t.pkeU q).st = (if r.sched then .sched else .free) ∧ (t.pkeU q).due = due ∧ (t.pkeU q).stage = [] ∧
        (t.pkeU q).result = false ∧
        (∃ c, (t.pkeU q).cmd = some c ∧ c.req = r ∧ c.due = due ∧
          c.w = [w0, BitVec.ofNat 32 (w 1), BitVec.ofNat 32 (w 2), BitVec.ofNat 32 (w 3), BitVec.ofNat 32 (w 4)] ∧
          (i.rnd = 0 → c.rnd = []) ∧
          (i.rnd ≠ 0 → first → c.rnd = (drbgGenerate (s.clu (q / 12)).drbgK (s.clu (q / 12)).drbgV i.rnd).1)) ∧
        (∀ q', q' ≠ q → ({ t.pkeU q' with cmd := none } : Pke) = { s.pkeU q' with cmd := none } ∧
          (i.rnd = 0 ∨ first → t.pkeU q' = s.pkeU q')) ∧
        t.procs = s.procs ∧ t.regs = s.regs ∧ (∀ a, a < operandBase q ∨ operandBase q + 0x4000 ≤ a → t.byte a = s.byte a)) ∧
    (∀ reason, s.pkeReason r q w0.toNat w = some reason →
      ∃ t, exec (row.1 r q0 w0) s = .next t ∧ t.pkeU q = { s.pkeU q with stage := [] } ∧ (∀ q', q' ≠ q → t.pkeU q' = s.pkeU q') ∧
        bit (t.reg .pke (q / 12) 0x010) 3 = true ∧
        t.reg .pke (q / 12) 0xB8 = BitVec.ofNat 32 (q % 12 + row.2.1 * 16 + reason * 2 ^ 12) ∧
        (∀ a, pkStatusAt r q (w 3) = some a →
          t.late = s.late ++ [{ at_ := s.stroke + 24, addr := a, word := statusWord 3 row.2.1 (w0.toNat / 2 ^ 18 % 64) }]) ∧
        t.mem = s.mem ∧ t.procs = s.procs) ∧
    (∀ (c : Cluster) (q1 q2 n1 n2 : Nat), q1 < q2 → c.reseed = none → c.deals = [(q2, n2), (q1, n1)] →
      let g := drbgGenerate c.k0 c.v0 n1
      c.deal.1 = [(q1, g.1), (q2, (drbgGenerate g.2.1 g.2.2 n2).1)])

/-- R164, R171-R175, R180-R189, the life of an engine pair: staging, the end of a command with its status word, its OUT data
and the cleared KEY region, an abort of a free
command with its wipe, the end of the wipe, a fault with its fence, OWNED, self-test and FREE_ACK.
R178, R191 and R192, microcode and seeding by a Keystone core: BEGIN clears UC_VALID and puts every pair in NO_UC; a data word
goes to both banks and the address rises; FINISH after BEGIN with a version at or above the floor sets UC_VALID, and the pairs go
to IDLE or stay FENCED; RESEED after all twelve seed words seeds the generator. Another master's write sets CMD_REJECT.
R173: a free verification whose key came too late ends in DONE_FAIL.
R176, the checks on the operands: a point off its curve, r, s or d that is 0 or not below the order, a modulus that is even or too
small, a signature that is 0 or not below the modulus, even primes, S not below L, an encoding without a point, a malformed hint
and an input word other than INT or LIMB each end in DONE_FAIL; decapsulation and Ed25519 signing do not fail on these inputs.
Model's choices: log entries 2, 16, 18, 19 and 75. -/
def Obligations.EnginePairRows : Prop :=
  (∀ (s : State) (m : Master) (r : Requester) (q : Fin 48) (n k : Fin 4) (v : Word) (tv : TWord) (f : UnitFault) (ok : Bool),
    let x := s.pkeU q.val
    (tv.tag = Tag.int → s.pkeOwned (s.pkeRoute q.val) = r.sched → exec (.pkeStagingWrite q n ⟨r, tv⟩) s =
      .next (s.updPke (s.pkeRoute q.val) fun y => { y with stage := Sparse.set 0 y.stage (n.val + 1) tv.data })) ∧
    (tv.tag ≠ Tag.int ∨ s.pkeOwned (s.pkeRoute q.val) ≠ r.sched → exec (.pkeStagingWrite q n ⟨r, tv⟩) s =
      .next (s.targetRefuse r.master 1 (0x50000000 + 2 * q.val * 2 ^ 16 + 0x8000 + 4 * (n.val + 1)))) ∧
    (∀ c, x.cmd = some c → x.st = .sched ∨ x.st = .free → c.due ≤ s.stroke → x.fenceWait = false →
      (c.req.sched = true → (c.w.getD 3 0).toNat + 4 + ((pkInfo ((c.w.headD 0).toNat % 256)).getD { f := 0 }).out ≤ 0x80000) →
      let op := (c.w.headD 0).toNat % 256
      let i := (pkInfo op).getD { f := 0 }
      let res := s.pkeCompute q.val c
      let dst := sharedBase c.req.course.val + (c.w.getD 3 0).toNat
      ∃ t, exec (.pkeOperationDone q) s = .next t ∧ (t.pkeU q.val).st = .idle ∧ (t.pkeU q.val).cmd = none ∧
        (t.pkeU q.val).result = (!c.req.sched) ∧ t.procs = s.procs ∧
        t.word (if c.req.sched then dst else operandBase q.val + 0x3F00) =
          statusWord (if res.isSome then 0 else 1) op ((c.w.headD 0).toNat / 2 ^ 18 % 64) ∧
        t.bytes (if c.req.sched then dst + 4 else operandBase q.val + 0x2C00) i.out = (res.map (·.1)).getD (zeros i.out) ∧
        (i.key ≠ 0 → ∀ a, operandBase q.val ≤ a → a < operandBase q.val + 0x800 → t.byte a = 0) ∧
        (i.kout = 0 → c.req.sched = false → ∀ a, a < operandBase q.val ∨ operandBase q.val + 0x4000 ≤ a → t.byte a = s.byte a)) ∧
    (s.grants m 1 .pke (q.val / 12) 0x50 = true → fld v 0 4 = q.val % 12 → x.st = .free → s.stroke < x.due →
      ∃ t, exec (.pkeAbort m (Fin.ofNat 4 (q.val / 12)) v) s = .next t ∧ (t.pkeU q.val).st = .wipe ∧ (t.pkeU q.val).due = s.stroke + 512 ∧
        (t.pkeU q.val).cmd = none ∧ (t.pkeU q.val).aborted = x.cmd ∧
        (∀ a, operandBase q.val ≤ a → a < operandBase q.val + 0x4000 → t.byte a = 0) ∧
        (∀ a, a < operandBase q.val ∨ operandBase q.val + 0x4000 ≤ a → t.byte a = s.byte a)) ∧
    (x.st = .wipe → x.due ≤ s.stroke → (s.clu (q.val / 12)).ucValid = true → ∃ t, exec (.pkeWipeDone q) s = .next t ∧
      (t.pkeU q.val).st = (if x.toFence then .fenced else .idle) ∧ (t.pkeU q.val).aborted = none ∧ (∀ c, x.aborted = some c →
        bit (t.reg .pke (q.val / 12) 0x010) 4 = true ∧ (c.req.sched = false → t.word (operandBase q.val + 0x3F00) =
          statusWord 2 ((c.w.headD 0).toNat % 256) ((c.w.headD 0).toNat / 2 ^ 18 % 64)))) ∧
    (∃ t, exec (.pkePairFault q f) s = .next t ∧ (t.pkeU q.val).st = .wipe ∧ (t.pkeU q.val).toFence = true ∧ t.pkeFence q.val = true ∧
      bit (t.reg .pke (q.val / 12) 0x010) (if f = .mismatch then 2 else 1) = true ∧ t.procs = s.procs) ∧
    (s.grants m 1 .pke (q.val / 12) 0x50 = true → fld v 0 4 = q.val % 12 → x.st ≠ .free ∨ x.due ≤ s.stroke →
      exec (.pkeAbort m (Fin.ofNat 4 (q.val / 12)) v) s = .next (s.setSticky .pke (q.val / 12) 0 0x50 (q.val % 12))) ∧
    (s.grants m 1 .pke k.val 0x48 = true → bit (s.reg .pke k.val 0xBC) 4 = false →
      (∀ j ∈ clusterPairs k.val, (s.pkeU j).st.running = true → s.stroke < (s.pkeU j).due) → ∃ t, exec (.pkeOwnedWrite m k v) s = .next t ∧
      t.reg .pke k.val 0x48 = v &&& 0xFFF ∧ t.procs = s.procs ∧
      (∀ j, j < 12 → bit (s.reg .pke k.val 0x48) j ≠ bit v j → (s.pkeU (12 * k.val + j)).st.running = true →
        (t.pkeU (12 * k.val + j)).st = .wipe) ∧
      (∀ j, j < 12 → bit (s.reg .pke k.val 0x48) j = bit v j → t.pkeU (12 * k.val + j) = s.pkeU (12 * k.val + j))) ∧
    (s.grants m 1 .pke (q.val / 12) 0x54 = true → fld v 0 4 = q.val % 12 → bit v 4 = true → x.st = .fenced ∨ (x.st = .idle ∧ s.pkeOwned q.val = false) →
      ∃ t, exec (.pkeSelftestStart m (Fin.ofNat 4 (q.val / 12)) v) s = .next t ∧ (t.pkeU q.val).st = .test ∧
        (t.pkeU q.val).due = s.stroke + 4200000 ∧ (t.pkeU q.val).passed = x.passed ∧ t.mem = s.mem ∧ t.procs = s.procs) ∧
    ((clusterPairs k.val).find? (fun q => decide ((s.pkeU q).st = .test) && decide ((s.pkeU q).due ≤ s.stroke)) = some q.val →
      (s.clu k.val).ucValid = true → ∃ t, exec (.pkeSelftestDone k ok) s = .next t ∧
        (t.pkeU q.val).st = (if x.before then .fenced else .idle) ∧ (t.pkeU q.val).passed = ok ∧ (t.pkeU q.val).failed = (!ok) ∧
        (∀ a, operandBase q.val ≤ a → a < operandBase q.val + 0x4000 → t.byte a = 0)) ∧
    (s.grants m 1 .pke k.val 0x58 = true → ∃ t, exec (.pkeFreeAck m k v) s = .next t ∧ t.regs = s.regs ∧ t.mem = s.mem ∧
      ∀ j, j < 12 → (t.pkeU (12 * k.val + j)) = if bit v j then { s.pkeU (12 * k.val + j) with result := false } else s.pkeU (12 * k.val + j))) ∧
  (∀ (s : State) (m : Master) (k : Fin 4) (v : Word),
    (m.isKs = true →
      (s.grants m 1 .pke k.val 0x5C = true → bit v 0 = true → bit v 1 = false →
        (∀ q ∈ clusterPairs k.val, s.pkeOwned q = false ∧ (s.pkeU q).st ∈ [UState.idle, .fenced, .noUc]) →
        ∃ t, exec (.ucBegin m k v) s = .next t ∧ (t.clu k.val).ucValid = false ∧ (t.clu k.val).loading = true ∧
          (∀ q ∈ clusterPairs k.val, (t.pkeU q).st = .noUc) ∧ t.regs = s.regs ∧ t.mem = s.mem) ∧
      (s.grants m 1 .pke k.val 0x64 = true →
        let a := fld (s.reg .pke k.val 0x60) 0 12
        ∃ t, exec (.ucDataWrite m k v) s = .next t ∧ Sparse.get 0 (t.clu k.val).uc a = v ∧ a ∉ (t.clu k.val).bad0 ∧
          a ∉ (t.clu k.val).bad1 ∧ t.reg .pke k.val 0x60 = BitVec.ofNat 32 ((a + 1) % 4096) ∧ t.pke = s.pke ∧ t.mem = s.mem) ∧
      (s.grants m 1 .pke k.val 0x5C = true → bit v 0 = false → bit v 1 = true → (s.clu k.val).loading = true → s.ucFloor ≤ fld v 8 8 →
        ∃ t, exec (.ucFinish m k v) s = .next t ∧ (t.clu k.val).ucValid = true ∧ (t.clu k.val).loading = false ∧
          (∀ q ∈ clusterPairs k.val, (t.pkeU q).st = if s.pkeFence q then .fenced else .idle) ∧
          t.reg .pke k.val 0x68 = BitVec.ofNat 32 (fld v 8 8 % 128) ∧ t.mem = s.mem) ∧
      (s.grants m 1 .pke k.val 0x6C = true → bit v 0 = true →
        (∀ i, i < 12 → ∃ e ∈ (s.clu k.val).seedSet, e.1 = i) → (s.clu k.val).dealAt ≠ some s.stroke →
        ∃ t, exec (.drbgReseed m k v) s = .next t ∧ (t.clu k.val).seeded = true ∧ (t.clu k.val).draws = 0 ∧ (t.clu k.val).seedSet = [] ∧
          ((t.clu k.val).drbgK, (t.clu k.val).drbgV) = drbgUpdate (s.clu k.val).drbgK (s.clu k.val).drbgV
            ((List.range 12).flatMap fun i => leBytes 4 (Sparse.get 0 (s.clu k.val).seedSet i).toNat) ∧ t.regs = s.regs ∧ t.mem = s.mem)) ∧
    (m.isKs = false → s.grants m 1 .pke k.val 0x5C = true → exec (.ucBegin m k v) s = .next (s.reject .pke k.val 0x5C v))) ∧
  (∀ (hid : Nat) (key pub a b rnd : List Byte),
    (∀ c ∈ [(0x01, curve256), (0x04, curve384)],
      let r := beNat (b.take c.2.len)
      let x := beNat ((b.drop c.2.len).take c.2.len)
      c.2.point pub = none ∨ r = 0 ∨ c.2.n ≤ r ∨ x = 0 ∨ c.2.n ≤ x → pkOp c.1 hid key pub a b rnd = none) ∧
    (∀ c ∈ [(0x02, curve256), (0x05, curve384), (0x03, curve256), (0x06, curve384)],
      beNat key = 0 ∨ c.2.n ≤ beNat key → pkOp c.1 hid key pub a b rnd = none) ∧
    (∀ c ∈ [(0x03, curve256), (0x06, curve384)], c.2.point b = none → pkOp c.1 hid key pub a b rnd = none) ∧
    (order25519 ≤ leNat ((a.drop 32).take 32) ∨ edPoint (leNat pub) = none ∨ edPoint (leNat (a.take 32)) = none →
      pkOp 0x08 hid key pub a b rnd = none) ∧
    (∀ c ∈ [(0x10, 256), (0x11, 384), (0x12, 512)],
      beNat pub % 2 = 0 ∨ beNat pub < 2 ^ (8 * c.2 - 1) ∨ beNat b = 0 ∨ beNat pub ≤ beNat b → pkOp c.1 hid key pub a b rnd = none) ∧
    (∀ c ∈ [(0x14, 256), (0x15, 384), (0x16, 512)],
      beNat (key.take (c.2 / 2)) % 2 = 0 ∨ beNat ((key.drop (c.2 / 2)).take (c.2 / 2)) % 2 = 0 → pkOp c.1 hid key pub a b rnd = none) ∧
    (dsa65.unpackHint (b.drop 3248) = none → pkOp 0x20 hid key pub a b rnd = none) ∧
    (dsa87.unpackHint (b.drop 4544) = none → pkOp 0x22 hid key pub a b rnd = none) ∧
    (∀ op ∈ [0x09, 0x29, 0x2B], pkOp op hid key pub a b rnd ≠ none)) ∧
  (∀ (s : State) (q : Fin 48) (c : UCmd) (i : PkInfo) (n off : Nat),
    pkInfo ((c.w.headD 0).toNat % 256) = some i →
    (n, off) ∈ [(i.pub, 0x0800), (i.lenA ((c.w.headD 0).toNat / 2 ^ 24 % 4), 0x1800)] →
    (∃ w ∈ s.words (operandBase q.val + off) ((n + 3) / 4), w.tag ≠ Tag.int ∧ w.tag ≠ Tag.limb) ∨ c.late = true → s.pkeCompute q.val c = none)

/-! ### Hash and cipher units (R196-R217, R355, R365, R512) -/

/-- R203, R207, R211 and R115: W0 of every hash and cipher operation, where no reason of R212 holds, starts the command on the pair
that the beat reaches, for the row's figure, which for a scheduled W0 runs from its issue, 22 strokes before it is treated as arrived:
the words, the requester and the operand words read at the start are held, the staging registers are taken, a free result that waits
stays until FREE_ACK. Every other pair, memory, every processor and, unless the key bus fails a HANDLE (STKY.KEYBUS), every register
stays. Where a reason holds, W0 starts nothing: the staging registers are taken, STKY.REFUSED and LAST_REFUSE say so, and the REFUSED
status word is written 24 strokes later.
Model's choices: log entries 12, 16, 17, 18, 21 and 94. -/
def Obligations.HashCipherCommandsStart : Prop :=
  ∀ (s : State) (r : Requester) (k0 : Fin 16) (w0 : Word)
    (row : (Requester → Fin 16 → Word → Instr) × Bool × Nat × ((Nat → Nat) → Nat)),
    row ∈ ([(.hashSha256, false, 0x01, fun w => 76 + 64 * (w 4 % 4096)), (.hashSha384, false, 0x02, fun w => 76 + 80 * (w 4 % 4096)),
      (.hashSha512, false, 0x03, fun w => 76 + 80 * (w 4 % 4096)), (.hashSha3x256, false, 0x04, fun w => 76 + 26 * (w 4 % 4096)),
      (.hashShake128, false, 0x05, fun w => 76 + 26 * (w 4 % 4096)), (.hashShake256, false, 0x06, fun w => 76 + 26 * (w 4 % 4096)),
      (.cipherKeyset, true, 0x01, fun _ => 40), (.cipherKeyclr, true, 0x02, fun _ => 40),
      (.aesCtr, true, 0x10, fun w => 52 + w 5 / 2 ^ 16 % 4096),
      (.gcmEncrypt, true, 0x11, fun w => 64 + w 5 % 4096 + w 5 / 2 ^ 16 % 4096),
      (.gcmDecrypt, true, 0x12, fun w => 64 + w 5 % 4096 + w 5 / 2 ^ 16 % 4096),
      (.gmacGenerate, true, 0x13, fun w => 64 + w 5 % 4096), (.gmacVerify, true, 0x14, fun w => 64 + w 5 % 4096)] :
        List ((Requester → Fin 16 → Word → Instr) × Bool × Nat × ((Nat → Nat) → Nat))) →
    let cipher := row.2.1
    let k := s.hcRoute cipher k0.val
    let w (n : Nat) : Nat := if n = 0 then w0.toNat else (Sparse.get 0 (s.hc cipher k).stage n).toNat
    let due := s.stroke + row.2.2.2 w - (if r.sched then 22 else 0)
    w0.toNat % 256 = row.2.2.1 →
    (s.hcReason cipher r k w = none →
      ∃ t, exec (row.1 r k0 w0) s = .next t ∧
        (t.hc cipher k).st = (if r.sched then .sched else .free) ∧ (t.hc cipher k).due = due ∧
        (t.hc cipher k).stage = [] ∧ (t.hc cipher k).result = (s.hc cipher k).result ∧ (t.hc cipher k).key = (s.hc cipher k).key ∧
        (t.hc cipher k).hash = (s.hc cipher k).hash ∧
        (∃ c, (t.hc cipher k).cmd = some c ∧ c.req = r ∧ c.due = due ∧
          c.w = (List.range 6).map (fun i => BitVec.ofNat 32 (w i)) ∧
          (cipher = false → c.inp = s.words (if r.sched then sharedBase r.course.val + w 1 else unitBase false k + 0x400)
            ((w 3 % 2 ^ 15 + 3) / 4))) ∧
        (∀ c' k', (c' ≠ cipher ∨ k' ≠ k) → t.hc c' k' = s.hc c' k') ∧ t.mem = s.mem ∧ t.tags = s.tags ∧ t.procs = s.procs ∧
        ((s.ctx (fld (s.hc cipher k).handle 16 12)).withdrawn = false → t.regs = s.regs)) ∧
    (∀ reason, s.hcReason cipher r k w = some reason →
      ∃ t, exec (row.1 r k0 w0) s = .next t ∧ t.hc cipher k = { s.hc cipher k with stage := [] } ∧
        (∀ c' k', (c' ≠ cipher ∨ k' ≠ k) → t.hc c' k' = s.hc c' k') ∧ bit (t.reg (hcPage cipher) 0 0x010) 3 = true ∧
        t.reg (hcPage cipher) 0 0x64 = BitVec.ofNat 32 (k + row.2.2.1 * 16 + reason * 2 ^ 12) ∧
        (∀ a, hcStatusAt cipher r k (hcStatusOff cipher w) = some a →
          t.late = s.late ++ [{ at_ := s.stroke + 24, addr := a, word := statusWord 3 row.2.2.1 (w0.toNat / 2 ^ 18 % 64) }]) ∧
        t.mem = s.mem ∧ t.procs = s.procs)

/-- R203-R206 and R211, the end of a hash command that hashes a whole message (PFX 0, INIT and FINAL set, KOUT 0), at or after its
figure, on a pair without a waiting fence: with INT words alone and no more than MAXB blocks, DONE_OK and the digest go to the
requester; with another word among the operand, DONE_FAIL and zeros. The pair holds no hash state then.
R201 and R207-R210, the end of a cipher command at or after its figure: KEYCLR forgets the key; KEYSET from KEYIN takes the key
where every word is KEY and wipes KEYIN; CTR and GCM encryption deliver text, and tag, for INT operands within AMAX and NMAX and a
held key; GCM decryption delivers text where the tag agrees, and DONE_FAIL with zeros where it does not.
Model's choices: log entries 2, 16 and 19. -/
def Obligations.HashCipherResults : Prop :=
  (∀ (s : State) (k : Fin 16) (c : UCmd),
    let h := hashCmd fun n => (c.w.getD n 0).toNat
    let msg := (bytesOf c.inp).take h.len
    (s.hc false k.val).cmd = some c → (s.hc false k.val).st.running = true → c.due ≤ s.stroke → h.pfx = 0 → h.init = true →
    h.final = true → h.kout = false →
    (allInt c.inp = true → hashBlocks h.op h.outlen msg.length ≤ h.maxb →
      exec (.hashDone k) s = .next (((s.hcDeliver false k.val c h.out (statusWord 0 h.op h.txn)
        (fixLen (hashOut h.op h.outlen) (hashDigest h.op h.outlen msg))).updHc false k.val fun y => { y with hash := none }).hcFinish
          false k.val c true)) ∧
    (allInt c.inp = false →
      exec (.hashDone k) s = .next (((s.hcDeliver false k.val c h.out (statusWord 1 h.op h.txn)
        (zeros (hashOut h.op h.outlen))).updHc false k.val fun y => { y with hash := none }).hcFinish false k.val c false)) ∧
    ((s.hc false k.val).fenceWait = false → ∃ t, exec (.hashDone k) s = .next t ∧ (t.hc false k.val).st = .idle ∧
      (t.hc false k.val).cmd = none ∧ (t.hc false k.val).result = ((s.hc false k.val).result || !c.req.sched) ∧ t.procs = s.procs ∧
      (∀ k', k' ≠ k.val → t.hc false k' = s.hc false k') ∧ t.cip = s.cip)) ∧
  (∀ (s : State) (k : Fin 16) (u : UCmd) (key : List Byte),
    let c := cipherCmd fun n => (u.w.getD n 0).toNat
    let bs := bytesOf u.inp
    let iv := bs.take 16
    let aad := (bs.drop 16).take c.alen
    let text := (bs.drop (16 + pad4 c.alen)).take c.nlen
    let rtag := (bs.drop (16 + pad4 c.alen + pad4 c.nlen)).take c.tagBytes
    let good := (s.hc true k.val).key = some key ∧ allInt u.inp = true ∧ c.alen ≤ 8 * c.amax ∧ c.nlen ≤ 8 * c.nmax
    let fin (st : Nat) (out : List Byte) := (s.hcDeliver true k.val u c.out (statusWord st c.op c.txn) out).hcFinish true k.val u (st = 0)
    (s.hc true k.val).cmd = some u → (s.hc true k.val).st.running = true → u.due ≤ s.stroke →
    (c.op = 0x02 → exec (.cipherDone k) s = .next (((s.updHc true k.val fun y => { y with key := none }).hcDeliver true k.val u c.inp
      (statusWord 0 2 c.txn) []).hcFinish true k.val u true)) ∧
    (c.op = 0x01 → c.ksrc = 1 →
      let keyin := s.words (unitBase true k.val) (if c.klen then 8 else 4)
      (∀ x ∈ keyin, x.tag = Tag.key) →
      exec (.cipherDone k) s = .next ((((s.clearKeyIn true k.val).updHc true k.val fun y => { y with key := some (bytesOf keyin) }).hcDeliver
        true k.val u c.inp (statusWord 0 1 c.txn) []).hcFinish true k.val u true)) ∧
    (c.op = 0x10 → good → exec (.cipherDone k) s = .next (fin 0 (fixLen (pad4 c.nlen) (aesCtr key iv text)))) ∧
    (c.op = 0x11 → good → exec (.cipherDone k) s = .next (fin 0 (fixLen (pad4 c.nlen) (gcmText key iv text) ++
      (gcmTag key iv aad (gcmText key iv text)).take c.tagBytes))) ∧
    (c.op = 0x12 → good → rtag = (gcmTag key iv aad text).take c.tagBytes →
      exec (.cipherDone k) s = .next (fin 0 (fixLen (pad4 c.nlen) (gcmText key iv text)))) ∧
    (c.op = 0x12 → rtag ≠ (gcmTag ((s.hc true k.val).key.getD (zeros 16)) iv aad text).take c.tagBytes →
      exec (.cipherDone k) s = .next (fin 1 (zeros (pad4 c.nlen)))) ∧
    (c.op = 0x13 → good → c.nlen = 0 → exec (.cipherDone k) s = .next (fin 0 ((gcmTag key iv aad []).take c.tagBytes))) ∧
    (c.op = 0x14 → good → c.nlen = 0 → rtag = (gcmTag key iv aad []).take c.tagBytes →
      exec (.cipherDone k) s = .next (fin 0 [])))

/-- The life of a hash or cipher pair (R171, R189, R197-R202, R211-R217, R355, R365): staging, KEYIN and HANDLE while idle, abort,
wipe, fault with fence and substitution, OWNED, self-test, FREE_ACK, COVER and the end notice.
Model's choices: log entry 18. -/
def Obligations.HashCipherPairRows : Prop :=
  ∀ (s : State) (m : Master) (r : Requester) (cipher ok hi : Bool) (k i : Fin 16) (n : Fin 5) (v : Word) (tv : TWord) (f : UnitFault),
    let b := hcPage cipher
    let x := s.hc cipher k.val
    let base := unitBase cipher k.val
    let rk := s.hcRoute cipher k.val
    (tv.tag = Tag.int → s.hcOwned cipher rk = r.sched → exec (.hashStagingWrite cipher k n ⟨r, tv⟩) s =
      .next (s.updHc cipher rk fun y => { y with stage := Sparse.set 0 y.stage (n.val + 1) tv.data })) ∧
    (tv.tag ≠ Tag.int ∨ s.hcOwned cipher rk ≠ r.sched → exec (.hashStagingWrite cipher k n ⟨r, tv⟩) s =
      .next (s.targetRefuse r.master 1 (base + 0x100 + 4 * (n.val + 1)))) ∧
    (tv.tag = Tag.key → m.isProc = true → (s.hc cipher rk).st = .idle →
      exec (.keyinWrite cipher k i tv m) s = .next (s.putWord (unitBase cipher rk + 4 * i.val) tv)) ∧
    (tv.tag ≠ Tag.key ∨ m.isProc = false ∨ (s.hc cipher rk).st ≠ .idle →
      exec (.keyinWrite cipher k i tv m) s = .next (s.targetRefuse m 2 (unitBase cipher rk + 4 * i.val))) ∧
    (tv.tag = Tag.handle → (s.hc cipher rk).st = .idle →
      exec (.handleWrite cipher k tv m) s = .next (s.updHc cipher rk fun y => { y with handle := tv.data })) ∧
    (s.grants m 1 b 0 0x50 = true → fld v 0 4 = k.val → (x.st = .free → s.stroke < x.due →
      ∃ t, exec (.unitAbort m cipher v) s = .next t ∧ (t.hc cipher k.val).st = .wipe ∧ (t.hc cipher k.val).due = s.stroke + 32 ∧
        (t.hc cipher k.val).key = none ∧ (t.hc cipher k.val).hash = none ∧ (t.hc cipher k.val).handle = 0 ∧
        (t.hc cipher k.val).cmd = none ∧ (t.hc cipher k.val).aborted = x.cmd ∧ t.regs = s.regs ∧
        (∀ a, base ≤ a → a < base + 0x1000 → t.byte a = 0) ∧ (∀ a, a < base ∨ base + 0x1000 ≤ a → t.byte a = s.byte a)) ∧
      (x.st ≠ .free ∨ x.due ≤ s.stroke → exec (.unitAbort m cipher v) s = .next (s.setSticky b 0 0 0x50 k.val))) ∧
    (x.st = .wipe → x.due ≤ s.stroke → ∃ t, exec (.unitWipeDone cipher k) s = .next t ∧
      (t.hc cipher k.val).st = (if x.toFence then .fenced else .idle) ∧ (t.hc cipher k.val).aborted = none ∧
      (∀ c, x.aborted = some c → bit (t.reg b 0 0x010) 4 = true ∧ (c.req.sched = false → t.word (base + 0x200) =
        statusWord 2 ((c.w.headD 0).toNat % 256) ((c.w.headD 0).toNat / 2 ^ 18 % 64)))) ∧
    (∃ t, exec (.unitPairFault cipher k f) s = .next t ∧ (t.hc cipher k.val).st = .wipe ∧ (t.hc cipher k.val).toFence = true ∧
      (t.hc cipher k.val).passed = false ∧ t.hcFence cipher k.val = true ∧ t.procs = s.procs ∧
      bit (t.reg b 0 0x010) (if f = .mismatch then 2 else 1) = true ∧
      (s.coverOf cipher k.val ≠ k.val → s.hcFence cipher (s.coverOf cipher k.val) = false → bit (s.reg b 0 0x70) 4 = false →
        t.reg b 0 0x70 = BitVec.ofNat 32 (k.val + 16) ∧ (s.hcOwned cipher k.val = true → t.hcOwned cipher (s.coverOf cipher k.val) = true))) ∧
    (s.grants m 1 b 0 0x48 = true → (∀ j, j < 16 → (s.hc cipher j).st.running = true → s.stroke < (s.hc cipher j).due) →
      ∃ t, exec (.unitOwnedWrite m cipher v) s = .next t ∧ t.reg b 0 0x48 = v &&& 0xFFFF ∧ t.procs = s.procs ∧
      (∀ j, j < 16 → bit (s.reg b 0 0x48) j ≠ bit v j → (s.hc cipher j).st.running = true ∨ (s.hc cipher j).st = .idle →
        (t.hc cipher j).st = .wipe) ∧
      (∀ j, j < 16 → bit (s.reg b 0 0x48) j ≠ bit v j → (t.hc cipher j).key = none ∧ (t.hc cipher j).hash = none ∧
        ∀ a, unitBase cipher j ≤ a → a < unitBase cipher j + 0x1000 → t.byte a = 0) ∧
      (∀ j, j < 16 → bit (s.reg b 0 0x48) j = bit v j → t.hc cipher j = s.hc cipher j)) ∧
    (s.grants m 1 b 0 0x54 = true → fld v 0 4 = k.val → bit v 4 = true → x.st = .fenced ∨ (x.st = .idle ∧ s.hcOwned cipher k.val = false) →
      ∃ t, exec (.unitSelftestStart m cipher v) s = .next t ∧ (t.hc cipher k.val).st = .test ∧
        (t.hc cipher k.val).due = s.stroke + 60000 ∧ (t.hc cipher k.val).passed = x.passed ∧ t.mem = s.mem ∧ t.procs = s.procs) ∧
    ((List.range 16).find? (fun j => decide ((s.hc cipher j).st = .test) && decide ((s.hc cipher j).due ≤ s.stroke)) = some k.val →
      ∃ t, exec (.unitSelftestDone cipher ok) s = .next t ∧ (t.hc cipher k.val).st = (if x.before then .fenced else .idle) ∧
        (t.hc cipher k.val).passed = ok ∧ (t.hc cipher k.val).failed = (!ok) ∧ (t.hc cipher k.val).key = none ∧
        (∀ a, base ≤ a → a < base + 0x1000 → t.byte a = 0) ∧ (∀ a, a < base ∨ base + 0x1000 ≤ a → t.byte a = s.byte a)) ∧
    (s.grants m 1 b 0 0x58 = true → ∃ t, exec (.unitFreeAck m cipher v) s = .next t ∧ t.regs = s.regs ∧ t.mem = s.mem ∧
      ∀ j, j < 16 → t.hc cipher j = if bit v j then { s.hc cipher j with result := false } else s.hc cipher j) ∧
    (m.isKs = true → s.grants m 1 b 0 (if hi then 0x6C else 0x68) = true → ∃ t, exec (.coverWrite m cipher hi v) s = .next t ∧
      t.reg b 0 (if hi then 0x6C else 0x68) = v ∧ (∀ c, c < 16 → bit (t.reg .cox c 0x54) 0 = false) ∧ t.mem = s.mem ∧ t.procs = s.procs) ∧
    ((∃ e ∈ s.cox, (cipher, k.val) ∈ e.2.notices) → ∃ t, exec (.endNoticeWipe cipher k) s = .next t ∧ (t.hc cipher k.val).key = none ∧
      (t.hc cipher k.val).hash = none ∧ (t.hc cipher k.val).handle = 0 ∧ (∀ a, base ≤ a → a < base + 0x40 → t.byte a = 0) ∧
      (∀ a, a < base ∨ base + 0x40 ≤ a → t.byte a = s.byte a) ∧ t.regs = s.regs ∧ t.procs = s.procs)

/-! ### Dual control (R375-R384) -/

/-- R375, R377, R381 and R384, the requests: OPEN of a REGISTER request over pages that may be listed takes the digest of their shadow
images and counts 80 strokes a 128-byte beat; OPEN of an OPERATION or UNLOCK request takes the digest from the registers;
DUAL_DIGEST_READY opens it; CLOSE closes it and drops its grant; BOOT_DONE ends the boot window. Before it Keystone firmware loads the
stored tables and applies the configuration records again (R391, R393, R394): with none stored nothing else changes, and a first record
that does not authenticate is skipped with every later one and sets KST.STKY.CFG_FAIL.
Model's choices: log entries 52, 103 and 104. -/
def Obligations.DualRequestRows : Prop :=
  ∀ (s : State) (m : Master) (v : Word) (r : Fin 4),
    let sel := fld (s.reg .dual 0 0x4C) 0 2
    let n := fld v 4 5
    (s.grants m 1 .dual 0 0x050 = true → (s.req sel).st = 0 →
      (∀ ps : List PageRef, s.selected n = ps.map some → 1 ≤ n → n ≤ 16 → ps.Nodup → (∀ p ∈ ps, hasRwp p = true) →
        (∀ e ∈ s.dual.req, e.2.st ≠ 0 → ∀ p ∈ e.2.pages, p ∉ ps) →
        ∃ t, exec (.dualOpenRegister m v) s = .next t ∧ (t.req sel).st = 1 ∧ (t.req sel).kind = 1 ∧ (t.req sel).pages = ps ∧
          (t.req sel).apps = [] ∧ (t.req sel).serial = s.dual.opens + 1 ∧ (t.req sel).epoch = s.reg64 .dual 0 0x44 ∧
          (let img := ps.flatMap fun p => leBytes 2 (selOf p) ++ [0, 0] ++ t.shadowImage p
           (t.req sel).digest = sha384 img ∧ (t.req sel).due = s.stroke + 100 + 80 * ((img.length + 127) / 128)) ∧
          (∀ r', r' ≠ sel → t.req r' = s.req r') ∧ t.mem = s.mem ∧ t.procs = s.procs) ∧
      (n = 0 →
        (∃ t, exec (.dualOpenOperation m v) s = .next t ∧ (t.req sel).st = 1 ∧ (t.req sel).kind = 2 ∧ (t.req sel).pages = [] ∧
          (t.req sel).digest = s.regBytes .dual 0 0xC0 12 ∧ (t.req sel).due = s.stroke + 180 ∧ (t.req sel).serial = s.dual.opens + 1 ∧
          (∀ r', r' ≠ sel → t.req r' = s.req r') ∧ t.mem = s.mem ∧ t.procs = s.procs) ∧
        (∃ t, exec (.dualOpenUnlock m v) s = .next t ∧ (t.req sel).st = 1 ∧ (t.req sel).kind = 3 ∧ (t.req sel).pages = [] ∧
          (t.req sel).digest = s.regBytes .dual 0 0xC0 12 ∧ (t.req sel).due = s.stroke + 180 ∧ (t.req sel).serial = s.dual.opens + 1 ∧
          (∀ r', r' ≠ sel → t.req r' = s.req r') ∧ t.mem = s.mem ∧ t.procs = s.procs))) ∧
    ((s.req r.val).st = 1 → (s.req r.val).due ≤ s.stroke →
      exec (.dualDigestReady r) s = .next (s.updReq r.val fun x => { x with st := 2 })) ∧
    (s.grants m 1 .dual 0 0x050 = true → ∃ t, exec (.dualClose m v) s = .next t ∧ (t.req sel).st = 0 ∧ (t.req sel).granted = false ∧
      (t.req sel).apps = [] ∧ (∀ r', r' ≠ sel → t.req r' = s.req r') ∧ t.mem = s.mem ∧ t.procs = s.procs) ∧
    (s.grants m 1 .dual 0 0x008 = true → ∃ t, exec (.bootDone m v) s = .next t ∧ t.dual.boot = false ∧
      (bit v 1 = false → s.dual.boot = false ∨ s.kst.stage ≠ 1 ∨ s.archOn = false ∨ (s.flc.tabs = [] ∧ s.flc.cfg = []) →
        t.dual.req = s.dual.req ∧ bit (t.reg .dual 0 0x008) 0 = bit v 0 ∧ t.mem = s.mem ∧ t.procs = s.procs) ∧
      (bit v 1 = false → s.dual.boot = true → s.kst.stage = 1 → s.archOn = true → s.flc.tabs = [] → s.flc.cfg ≠ [] → s.cfgGood = [] →
        bit (t.reg .kst 0 0x010) 5 = true ∧ t.kst.cfgFail = true ∧ t.flc.cfg = [] ∧ t.dual.req = s.dual.req ∧ t.mem = s.mem))

/-- R378-R383, approvals and the commit: an approval for an open request under the right serial from a principal kind it accepts takes
the principal's place or a free one, and expires after 60 s; a wrong serial is rejected. The commit fails with RESULT 1, 2 or 3 where
the request is not open, is stale or lacks approvals; else an OPERATION is granted, an UNLOCK unlocks, and a REGISTER request on one
page without further effects moves every shadow into its register; after the boot window the change is recorded in flash under the
record key (R394). The policy register the approvals are held to is the committed one. Under an OPERATION grant whose digest is that
of the statement, OTP counter 2 rises by one step up to VALUE, no further than 64; without the statement nothing is raised (R396).
Model's choices: log entries 52, 53, 104 and 105. -/
def Obligations.DualApprovalRows : Prop :=
  ∀ (s : State) (m : Master) (v : Word) (r j : Fin 4) (peer : Bool) (otp : Option (Nat × Nat)),
    let w := putBit v 4 true
    let x := s.req (fld v 0 2)
    let a : App := { kind := fld v 2 2, ident := if fld v 2 2 ≤ 1 then 0 else (s.reg .dual 0 0xF0).toNat, atMs := s.wallMs }
    let cw := putBit v 2 true
    let c0 := s.setReg .dual 0 0xFC (cw &&& 3)
    let fail (n : Nat) := (c0.updReq (fld v 0 2) fun y => { y with result := n }).dualReject 0xFC cw
    let done := c0.updReq (fld v 0 2) fun y => { y with
      st := 0, result := 0, granted := true, apps := [], kinds := (y.apps.filter fun (e : Nat × App) => s.appLive e.2).map (·.2.kind) }
    (s.grants m 1 .dual 0 0x0F8 = true →
      (x.st = 2 → (s.reg .dual 0 0xF4).toNat = x.serial % 2 ^ 32 → s.kindOk x.kind a.kind = true →
        ((∃ e ∈ x.apps, e.2.kind = a.kind ∧ e.2.ident = a.ident) ∨ ∃ p : Fin 4, ∀ e ∈ x.apps, e.1 ≠ p.val) →
        ∃ t p, exec (.approvalSubmit m v) s = .next t ∧ t.req (fld v 0 2) = { x with apps := x.apps.filter (fun e => decide (e.1 ≠ p)) ++ [(p, a)] } ∧
          (∀ r', r' ≠ fld v 0 2 → t.req r' = s.req r') ∧ t.mem = s.mem ∧ t.procs = s.procs) ∧
      ((s.reg .dual 0 0xF4).toNat ≠ x.serial % 2 ^ 32 →
        exec (.approvalSubmit m v) s = .next ((s.setReg .dual 0 0xF8 (w &&& 0xF)).dualReject 0xF8 w))) ∧
    (∀ e, (j.val, e) ∈ (s.req r.val).apps → e.atMs + 60000 ≤ s.wallMs → exec (.approvalExpiry r j) s =
      .next ((s.updReq r.val fun y => { y with apps := y.apps.filter fun e => decide (e.1 ≠ j.val) }).setSticky .dual 0 3)) ∧
    (s.grants m 1 .dual 0 0x0FC = true →
      (x.st ≠ 2 → exec (.dualCommit m v ⟨peer, otp⟩) s = .next (fail 1)) ∧
      (x.st = 2 → x.stale = true → exec (.dualCommit m v ⟨peer, otp⟩) s = .next (fail 2)) ∧
      (x.st = 2 → x.stale = false → s.approved x = false → exec (.dualCommit m v ⟨peer, otp⟩) s = .next (fail 3)) ∧
      (x.st = 2 → x.stale = false → s.approved x = true →
        (x.pages = [] → x.kind = 2 →
          (otp = none → exec (.dualCommit m v ⟨peer, otp⟩) s = .next done) ∧
          (∀ n c, otp = some (n, c) → x.digest ≠ sha384 (otpStatement n c) → exec (.dualCommit m v ⟨peer, otp⟩) s = .next done) ∧
          (let c := Sparse.get 0 s.lcs.counter 2 + 1
           otp = some (2, c) → x.digest = sha384 (otpStatement 2 c) → exec (.dualCommit m v ⟨peer, otp⟩) s =
            .next (if c ≤ 64 then { done with lcs := { s.lcs with counter := Sparse.set 0 s.lcs.counter 2 c } } else done))) ∧
        (x.pages = [] → x.kind = 3 → exec (.dualCommit m v ⟨peer, otp⟩) s = .next (done.tmpUnlock x.digest)) ∧
        (∀ b ∈ [Block.clk, .dual], x.pages = [⟨b, 0⟩] → x.kind = 1 → ∃ t, exec (.dualCommit m v ⟨peer, otp⟩) s = .next t ∧
          t.reg b 0 0x40 = (s.reg b 0 0x40 &&& ~~~(rwpMask b 0x40)) ||| (s.reg b 0 0x840 &&& rwpMask b 0x40) ∧
          (t.req (fld v 0 2)).granted = true ∧ (t.req (fld v 0 2)).st = 0 ∧ t.mem = s.mem ∧ t.procs = s.procs ∧
          (s.dual.boot = true → t.flc.cfg = s.flc.cfg) ∧
          (s.dual.boot = false → ∃ rec, t.flc.cfg = s.flc.cfg ++ [rec] ∧ rec.digest = x.digest ∧ t.cfgOk rec = true))))

/-! ### PCI Express functions, queue pairs and the mailbox (R319-R343) -/

/-- R323, R324, R326-R330 and R341, a queue pair: configuration words and EN, whose clearing stops fetching and drops the completions of
commands fetched before; doorbells with their ranges; the fetch of a descriptor whose turn it is; the envelope to the classifier or the
refusal; the upward envelope at UP_BASE + i x 2^UP_LOG and the completion entry with head and phase at CQ_BASE + 32 x tail; coalescing and
MSI-X of the vectors a function has.
Model's choices: log entry 26. -/
def Obligations.QueuePairRows : Prop :=
  ∀ (s : State) (f : Fin 128) (q : Fin 64) (i : Fin 8) (v : Word) (desc d bytes : List Byte) (e : ReadEnd) (c : Cpl) (rest : List Cpl)
      (vec : Fin 128),
    let x := s.qpr f.val q.val
    let y : Qp := { x with cfg := Sparse.set 0 x.cfg i.val v }
    (x.en = false → (i.val ≠ 6 ∨ bit v 12 = false) → exec (.qpConfigWrite f q i v) s = .next (s.setQp f.val q.val y)) ∧
    (x.en = false → i.val = 6 → bit v 12 = true → y.cfgOk = true → q.val < (s.fn f.val).qp → exec (.qpConfigWrite f q i v) s =
      .next (s.setQp f.val q.val { y with
        sqHead := 0, sqTail := 0, cqTail := 0, cqHead := 0, cqUsed := 0, reserved := 0, phase := true, cpls := [], desc := none, unsig := 0 })) ∧
    (x.en = true → i.val = 6 → bit v 12 = false → ∃ t : State, exec (.qpConfigWrite f q i v) s = .next (t.settle f.val) ∧
      (t.qpr f.val q.val).en = false ∧ (t.qpr f.val q.val).cpls = [] ∧ (t.qpr f.val q.val).desc = none ∧
      (∀ c, t.pushCpl f.val q.val x.era c = t) ∧ (∀ f' q', q' < 64 → 64 * f' + q' ≠ 64 * f.val + q.val → t.qpr f' q' = s.qpr f' q') ∧
      t.regs = s.regs ∧ t.mem = s.mem) ∧
    (x.en = true → (i.val ≠ 6 ∨ bit v 12 = true) → exec (.qpConfigWrite f q i v) s = .next (s.setSticky .vfm 0 0)) ∧
    (x.en = true → v.toNat < x.sqSize → exec (.sqTailDoorbell f q v) s = .next (s.setQp f.val q.val { x with sqTail := v.toNat })) ∧
    (x.en = true → x.sqSize ≤ v.toNat → exec (.sqTailDoorbell f q v) s = .next (s.setSticky .vfm 0 0)) ∧
    (let n := (v.toNat + x.cqSize - x.cqHead) % x.cqSize
     x.en = true → v.toNat < x.cqSize → n ≤ x.cqUsed → exec (.cqHeadDoorbell f q v) s =
      .next (s.setQp f.val q.val { x with cqHead := v.toNat, cqUsed := x.cqUsed - n })) ∧
    (s.nextFetch = some (64 * f.val + q.val) → (∀ p ∈ s.pci.qp, p.2.desc = none) → ∃ t, exec (.descriptorFetch f q desc) s = .next t ∧
      t.qpr f.val q.val = { x with desc := some (fixLen 128 desc), reserved := x.reserved + 1 } ∧ t.pci.robin = 64 * f.val + q.val + 1 ∧
      (∀ f' q', q' < 64 → 64 * f' + q' ≠ 64 * f.val + q.val → t.qpr f' q' = s.qpr f' q') ∧ t.mem = s.mem ∧ t.procs = s.procs) ∧
    (x.desc = some d →
      let cid := leNat ((d.drop 4).take 4)
      let len := leNat ((d.drop 2).take 2)
      let s1 := s.setQp f.val q.val { x with desc := none, sqHead := if x.sqHead + 1 = x.sqSize then 0 else x.sqHead + 1 }
      (descCode d e = none → ∃ t, exec (.envelopeReadDone f q e bytes) s = .next t ∧ t.pci.qp = s1.pci.qp ∧
        (t.fn f.val).inflight = (s.fn f.val).inflight + 1 ∧ t.mem = s.mem ∧ t.procs = s.procs ∧
        ∃ en : QEntry, t.ingress = s.ingress ++ [en] ∧ en.src = 256 + f.val ∧ en.qp = q.val ∧ en.cid = cid ∧ en.era = x.era ∧ en.stroke = s.stroke ∧
          en.time = s.secNow ∧ en.env = if d.getD 0 0 = 1 then fixLen len bytes else (d.drop 16).take len) ∧
      (∀ code, descCode d e = some code → code ≠ 3 → exec (.envelopeReadDone f q e bytes) s =
        .next ((s1.descError f.val q.val cid code).settle f.val))) ∧
    (x.cpls = c :: rest → c.at_ ≤ s.stroke → s.pci.dlUp = true →
      let bs := c.bytes.take 4 ++ leBytes 2 x.sqHead ++ (c.bytes.drop 6).take 1 ++ [if x.phase then 1 else 0] ++ c.bytes.drop 8
      let last := decide (x.cqTail + 1 = x.cqSize)
      let s1 := if c.up.isEmpty then s else s.emit (.hostWrite f.val (x.upBase + x.cqTail * 2 ^ x.upLog) c.up)
      exec (.completionPost f q) s = .next (((((s1.setQp f.val q.val { x with
        cpls := rest, reserved := x.reserved - 1, cqUsed := x.cqUsed + 1, cqTail := if last then 0 else x.cqTail + 1
        phase := if last then !x.phase else x.phase, unsig := x.unsig + 1, unsigAt := if x.unsig = 0 then s.wall else x.unsigAt }).emit
          (.hostWrite f.val (x.cqBase + 32 * x.cqTail) bs)).coalesce f.val q.val false)).settle f.val)) ∧
    (x.ie = true → 0 < x.unsig → x.coalUs ≠ 0 → x.unsigAt + x.coalUs * usUnits ≤ s.wall →
      exec (.coalTimerExpiry f q) s = .next ((s.setQp f.val q.val { x with unsig := 0 }).signalFn f.val x.vec)) ∧
    (let g := s.fn f.val
     (g.pba = [] → exec (.msixVectorUnmask f vec false) s = .next (s.setFn f.val { g with unmasked := vec.val :: g.unmasked.erase vec.val })) ∧
     (g.pba = [vec.val] → g.maskAll = false → vec.val < g.vecCount → exec (.msixVectorUnmask f vec false) s =
      .next ((s.setFn f.val { g with unmasked := vec.val :: g.unmasked.erase vec.val, pba := [] }).emit (.msix (g.vecBase + vec.val)))))

/-- R320, R331, R335-R337, R341-R343, functions: resets of Quiet functions and the refusal of others, VF enable, the link going down
and up, and the VFM page's commands on the selected function in the states that allow them, with the rejection elsewhere.
Model's choices: log entry 44. -/
def Obligations.FunctionRows : Prop :=
  ∀ (s : State) (m : Master) (fl : Fin 128) (n : Fin 128) (en : Bool) (gen width : Nat) (v : Word),
    let f := fld (s.reg .vfm 0 0x40) 0 7
    let x := s.fn f
    ((s.fn fl.val).st = .quiet → ∃ t, exec (.functionLevelReset fl) s = .next t ∧ (∀ q, q < 64 → t.qpr fl.val q = { era := (t.qpr fl.val q).era }) ∧
      (∀ f' q, q < 64 → f' ≠ fl.val → t.qpr f' q = s.qpr f' q) ∧
      t.fn fl.val = { s.fn fl.val with maskAll := false, unmasked := [], pba := [] } ∧ t.regs = s.regs ∧ t.mem = s.mem) ∧
    ((s.fn fl.val).st ≠ .quiet → exec (.functionLevelReset fl) s = .next (s.setSticky .pci 0 4 0 fl.val)) ∧
    (s.pci.crs = false → (∀ k, (if en then n.val else 0) < k → k ≤ (if s.pci.vfEnable then s.pci.numVfs else 0) → k < 128 → (s.fn k).st = .quiet) →
      ∃ t, exec (.vfEnableWrite en n) s = .next t ∧ t.pci.vfEnable = en ∧ t.pci.numVfs = n.val ∧ t.regs = s.regs ∧ t.mem = s.mem) ∧
    (∃ t, exec .pcieLinkDown s = .next t ∧ t.pci.dlUp = false ∧ bit (t.reg .pci 0 0x010) 2 = true ∧
      (∀ k, k < 128 → (t.fn k).st ≠ .active) ∧ t.mem = s.mem ∧ t.procs = s.procs) ∧
    exec (.pcieLinkUp gen width) s = .next { s with pci := { s.pci with dlUp := true, gen := gen, width := width } } ∧
    (s.grants m 1 .vfm 0 0x048 = true →
      (x.st = .quiet → exec (.fnActivate m) s = .next (s.setFn f { x with st := .active }) ∧
        exec (.fnImported m) s = .next (s.setFn f { x with st := .frozen, settled := true, ack := false, exported := false })) ∧
      (x.st ≠ .quiet → exec (.fnActivate m) s = .next (s.reject .vfm 0 0x48 1)) ∧
      (x.st = .active → exec (.fnDrain m) s = .next ((s.setFn f { x with st := .draining }).settle f)) ∧
      (x.st ≠ .frozen → exec (.fnFreeze m) s = .next (s.setFn f { x with freezing := true })) ∧
      (x.st = .frozen → x.exported = false → exec (.fnThaw m) s = .next (s.setFn f { x with st := .active, settled := false })) ∧
      (x.st = .frozen → ∃ t, exec (.fnRelease m) s = .next t ∧ t.fn f = { x with st := .quiet, settled := false, exported := false } ∧
        (∀ q, q < 64 → (t.qpr f q).en = false ∧ (t.qpr f q).cpls = [] ∧ (t.qpr f q).desc = none) ∧
        (∀ f' q, q < 64 → f' ≠ f → t.qpr f' q = s.qpr f' q) ∧ t.regs = s.regs ∧ t.mem = s.mem)) ∧
    (s.grants m 1 .vfm 0 0x044 = true → bit v 4 = true → exec (.fnAckWrite m v) s = .next (s.setFn f { x with ack := true })) ∧
    (s.grants m 1 .vfm 0 0x054 = true →
      (x.st = .quiet → s.vecOk f (fld v 0 11) (fld v 11 8) = true →
        exec (.fnVecWrite m v) s = .next (s.setFn f { x with vecBase := fld v 0 11, vecCount := fld v 11 8 })) ∧
      (x.st ≠ .quiet → exec (.fnVecWrite m v) s = .next (s.reject .vfm 0 0x54 v))) ∧
    (s.grants m 1 .vfm 0 0x058 = true → bit v 0 = true →
      (s.nextOk 1024 = true → s.nextKeeps = true → exec (.vfmCommit m v) s = .next { s with pci := { s.pci with commit := true } }) ∧
      (s.nextOk 1024 = false → exec (.vfmCommit m v) s = .next (s.reject .vfm 0 0x58 v))) ∧
    (let w := fld (s.reg .vfm 0 0x5C) 0 7
     (s.grants m 1 .vfm 0 0x060 = true → exec (.psetDataAccess m true v) s =
      .next ((s.setFn f { x with psetNext := Sparse.set 0 x.psetNext w v }).updReg .vfm 0 0x5C fun u => putFld u 0 7 (w + 1))) ∧
     (s.grants m 0 .vfm 0 0x060 = true → exec (.psetDataAccess m false v) s =
      .next ((s.updReg .vfm 0 0x5C fun u => putFld u 0 7 (w + 1)).emit (.readData m [TWord.int (Sparse.get 0 x.pset w)]))))

/-- R321, R322, R331-R340, R122-R124 and R378, the PF mailbox: with a request under way a GO only sets LOST; else the command acts and
answers with its header and status. PLAN_LOAD of a file that passes the audit stores it in flash and keeps it for admission; of another
one the response reports the failing rule and nothing is kept. MBX_RESPOND ends the request and signals where IE is set.
Model's choices: log entries 1, 40, 95, 96, 97 and 109. -/
def Obligations.MailboxRows : Prop :=
  ∀ (s : State) (m : Master) (g : Go) (f qp share jq base count dst off cmd : Nat) (bm : List Word) (blob : MigBlob) (file : List Byte) (prog : Program)
      (who : Principal) (r serial : Nat) (v : Word),
    let x := s.fn f
    let inRange := s.pci.busy = false ∧ f ≤ s.pci.numVfs ∧ f ≤ 127
    (s.pci.busy = true → exec (.info g) s = .next { s with pci := { s.pci with lost := true } }) ∧
    (s.pci.busy = false →
      exec (.info g) s = .next ((s.mbxOpen g 0x0001).mbxAnswer 0 (leBytes 4 (pageCap .pci 0).toNat ++ leBytes 4 (pageCap .vfm 0).toNat ++
        leBytes 4 (1024 - s.qpGranted) ++ leBytes 4 (2048 - s.vecOwned) ++ leBytes 8 s.lcs.uid)) ∧
      (∃ t, exec (.migrationKey g) s = .next t ∧ fld (t.reg .pci 0 0x804) 0 16 = 0 ∧ t.pci.busy = true ∧ t.pci.fn = s.pci.fn ∧ t.mem = s.mem) ∧
      exec (.unknownCmd g cmd) s = .next ((s.mbxOpen g cmd).mbxAnswer 5 []) ∧
      (let s0 := s.mbxOpen g 0x0040
       let p := planParse file prog
       let s1 : State := { s0 with intake := s.intake.filter fun (q : PlanFile) => decide (q.cls ≠ p.cls) }
       (s0.planAudit file prog = 0 →
        (∀ o, s1.planSpace file.length = some o → ∃ t, exec (.planLoad g ⟨file, prog⟩) s = .next t ∧
          t.intake = s1.intake ++ [{ p with flashAt := o }] ∧ t.plans = s.plans ∧
          (∀ k, k < file.length → t.flashByte (plansBase + o + k) = file.getD k 0) ∧ fld (t.reg .pci 0 0x804) 0 16 = 0 ∧
          t.mem = s.mem ∧ t.procs = s.procs) ∧
        (s1.planSpace file.length = none → exec (.planLoad g ⟨file, prog⟩) s = .next (s0.mbxAnswer 3 []))) ∧
       (s0.planAudit file prog = 1 → exec (.planLoad g ⟨file, prog⟩) s = .next (s0.mbxAnswer 4 (leBytes 4 1))) ∧
       (∀ k, s0.planAudit file prog = k + 2 → exec (.planLoad g ⟨file, prog⟩) s = .next (s0.mbxAnswer 1 (leBytes 4 (k + 2))))) ∧
      (who.kind.val = 1 ∨ who.kind.val = 3 → r < 4 → who.ident < 2 ^ 32 → serial < 2 ^ 32 → (s.req r).st = 2 → serial = (s.req r).serial % 2 ^ 32 →
        s.kindOk (s.req r).kind who.kind.val = true → (s.req r).apps = [] → ∃ t, exec (.approve g r who serial true) s = .next t ∧
          (t.req r).apps = [(0, { kind := who.kind.val, ident := who.ident, atMs := s.wallMs })] ∧ fld (t.reg .pci 0 0x804) 0 16 = 0 ∧
          t.pci.fn = s.pci.fn ∧ t.mem = s.mem)) ∧
    (inRange → qp ≤ 64 → share ≤ 0xFFFF → 1 ≤ jq → jq ≤ 4096 →
      let s1 := (s.mbxOpen g 0x0010).setFn f { x with qpNext := qp, shareNext := share, jquotaNext := jq }
      s1.nextOk 1024 = true → s.qpBusy f qp = false →
      exec (.setResources g f qp share jq) s = .next (({ s1 with pci := { s1.pci with commit := true } } : State).mbxAnswer 0 [])) ∧
    (inRange →
      let s1 := (s.mbxOpen g 0x0011).setFn f { x with
        psetNext := (List.range 128).filterMap fun i => let w := bm.getD i 0; if w = 0 then none else some (i, w) }
      exec (.setPartnerSet g f bm) s = .next (({ s1 with pci := { s1.pci with commit := true } } : State).mbxAnswer 0 [])) ∧
    (inRange → x.st = .quiet → count ≤ (if f = 0 then 128 else 64) → base + count ≤ 2048 → s.vecOk f base count = true →
      exec (.setVectors g f base count) s = .next (((s.mbxOpen g 0x0012).setFn f { x with vecBase := base, vecCount := count }).mbxAnswer 0 [])) ∧
    (inRange → x.st = .quiet → exec (.activate g f) s = .next (((s.mbxOpen g 0x0020).setFn f { x with st := .active }).mbxAnswer 0 [])) ∧
    (inRange → x.st ≠ .quiet → exec (.activate g f) s = .next ((s.mbxOpen g 0x0020).mbxAnswer 2 [])) ∧
    (inRange → x.st = .active →
      exec (.drain g f) s = .next ((((s.mbxOpen g 0x0021).setFn f { x with st := .draining }).settle f).mbxAnswer 0 [])) ∧
    (inRange → f ≠ 0 → x.st ≠ .frozen → exec (.freeze g f) s = .next (((s.mbxOpen g 0x0022).setFn f { x with freezing := true }).mbxAnswer 0 [])) ∧
    (inRange → x.st = .frozen → x.exported = false →
      exec (.thaw g f) s = .next (((s.mbxOpen g 0x0023).setFn f { x with st := .active, settled := false }).mbxAnswer 0 [])) ∧
    (inRange → x.st = .frozen → ∃ t, exec (.release g f) s = .next t ∧ t.fn f = { x with st := .quiet, settled := false, exported := false } ∧
      (∀ q, q < 64 → (t.qpr f q).en = false) ∧ t.mem = s.mem) ∧
    (s.pci.busy = false → s.pci.numVfs < f → exec (.activate g f) s = .next ((s.mbxOpen g 0x0020).mbxAnswer 1 [])) ∧
    (inRange → f ≠ 0 → x.st = .frozen → x.settled = true →
      (∃ r, s.staging = some r ∧ off + ((s.mbxOpen g 0x0031).blob f dst (s.pci.exportId + 1)).length ≤ r.2) → ∃ t, exec (.exportFn g f true dst off) s = .next t ∧
      t.fn f = { x with exported := true } ∧ t.pci.exportId = s.pci.exportId + 1 ∧ fld (t.reg .pci 0 0x804) 0 16 = 0 ∧ t.procs = s.procs) ∧
    (inRange → f ≠ 0 → x.st = .quiet → blob.qps ≤ x.qp → blob.vecs ≤ x.vecCount → blob.dstUid = s.lcs.uid → blob.authOk = true →
      (∀ e ∈ s.pci.imports, e.1 = blob.srcUid → e.2 < blob.exportId) → (∀ e ∈ blob.partners, (s.ctx e.1).version ≠ 0) →
      ∃ t, exec (.importFn g f blob) s = .next t ∧
        t.fn f = { x with st := .frozen, settled := true, ack := false, exported := false, psetNext := blob.pset, unmasked := blob.unmasked } ∧
        (blob.srcUid, blob.exportId) ∈ t.pci.imports ∧ (∀ e ∈ blob.partners, e.2 ≤ (t.ctx e.1).hw) ∧ t.pci.commit = true ∧
        fld (t.reg .pci 0 0x804) 0 16 = 0 ∧ t.mem = s.mem ∧ t.procs = s.procs) ∧
    (s.grants m 1 .pci 0 0x044 = true → bit v 1 = true → s.pci.busy = true →
      let s1 : State := { s with pci := { s.pci with busy := false, done := true } }
      exec (.mbxRespond m v) s = .next (if s.pci.mbxIe then s1.signalFn 0 s.pci.mbxVec else s1))

/-! ### SGRAM, sealed lines and the journal (R291-R317) -/

/-- R296-R298, R302 and R307, sealed reads and writes by a master that its ACU lets through over a route in force, of one aligned line on an
awake side: a
line of an unmirrored region on a channel in service is answered with its words, and a write of INT and NONE words takes every copy
of it; a line in no region gets an error response; a word of another tag refuses the write in full; a mirrored line whose first
copy fails is answered from the other and rewritten.
Model's choices: log entries 23 and 24. -/
def Obligations.SealedAccessRows : Prop :=
  ∀ (s : State) (m : Master) (o : Nat) (data : List TWord),
    let ch := sealedCh o
    let i := sealedIx o
    let mir := mirrorOf ch
    o % 64 = 0 → s.sgAsleep (decide (4 ≤ ch)) = false →
    (s.barred m 0 (sealedBase + o) 64 = none →
      (s.covered o = some false → s.sgReads ch = true → s.lineBad ch i = false →
        exec (.sgramRead m (sealedBase + o) 64 false) s = .next (s.emit (.readData m (s.lineWords ch i)))) ∧
      (s.covered o = none →
        exec (.sgramRead m (sealedBase + o) 64 false) s = .next ((s.emit (.errorResponse m)).emit (.readData m []))) ∧
      (s.covered o = some true → s.sgReads ch = true → s.sgReads mir = true → (s.sg ch).ver 0 i ≠ 0 → s.lineBad mir i = false →
        let s1 := s.lineFail ch o
        exec (.sgramRead m (sealedBase + o) 64 true) s = .next ((if s1.sgWrites ch then s1.copyWrite ch i (s.lineWords mir i) else s1).emit
          (.readData m (s.lineWords mir i))))) ∧
    (data.length = 16 → s.barred m 1 (sealedBase + o) 64 = none →
      ((∀ w ∈ data, w.tag = Tag.int ∨ w.tag = Tag.none) →
        (s.covered o = some false → s.sgWrites ch = true →
          exec (.sgramWrite m (sealedBase + o) data) s = .next (s.copyWrite ch i (data.map sealedWord))) ∧
        (s.covered o = some true → s.sgWrites ch = true → s.sgWrites mir = true →
          exec (.sgramWrite m (sealedBase + o) data) s =
            .next ((s.copyWrite ch i (data.map sealedWord)).copyWrite mir i (data.map sealedWord)))) ∧
      ((∃ w ∈ data, w.tag ≠ Tag.int ∧ w.tag ≠ Tag.none) →
        exec (.sgramWrite m (sealedBase + o) data) s = .next (s.targetRefuse m 1 (sealedBase + o))))

/-- R300, R303-R309 and R316, the channels: training, retraining, refresh, the end of self-refresh, the fence after an EDC failure or a
device timeout with the loss shown on the mirror channel, the resilver, and the movers.
Model's choices: log entries 23 and 24. -/
def Obligations.SgramChannelRows : Prop :=
  ∀ (s : State) (m : Master) (c : Fin 8) (v : Word) (east : Bool),
    let x := s.sg c.val
    let page := moverPage east
    (x.training = true → exec (.sgramTrainingDone c true) s =
      .next (s.setSg c.val { x with training := false, trained := true, st := if x.st = 0 then 1 else x.st })) ∧
    (x.training = true → ∃ t, exec (.sgramTrainingDone c false) s = .next t ∧ (t.sg c.val).st = 2 ∧ bit (t.reg .sgm c.val 0x010) 3 = true ∧
      bit (t.reg .sgm c.val 0x40) 0 = true ∧ t.mem = s.mem) ∧
    (x.trained = true → exec (.sgramPeriodicRetrain c true) s = .next (s.setSg c.val { x with lastRetrain := s.wall })) ∧
    exec (.sgramRefresh c) s = .next s ∧
    (s.sgAsleep east = true → ∃ t, exec (.sgramSelfRefreshExit east) s = .next t ∧ t.sgAsleep east = false ∧ t.mem = s.mem ∧ t.regs = s.regs) ∧
    (∀ i ∈ [Instr.sgramEdcFail c, .sgramDeviceTimeout c], ∃ t, exec i s = .next t ∧ (t.sg c.val).st = 2 ∧ (t.sg c.val).trained = false ∧
      bit (t.reg .sgm c.val 0x40) 0 = true ∧ bit (t.reg .sgm c.val 0x840) 0 = true ∧ bit (t.reg .sgm c.val 0x010) 4 = true ∧
      bit (t.reg .sgm (mirrorOf c.val) 0x010) 5 = true ∧ t.mem = s.mem ∧ t.procs = s.procs ∧
      (∀ c', c' ≠ c.val → c' ≠ mirrorOf c.val → t.sg c' = s.sg c')) ∧
    (s.grants m 1 .sgm c.val 0x44 = true → bit v 0 = true →
      (x.st = 0 ∨ x.st = 2 → exec (.sgramRetrainStart m c v) s = .next (s.setSg c.val { x with training := true })) ∧
      (x.st ≠ 0 → x.st ≠ 2 → exec (.sgramRetrainStart m c v) s = .next (s.reject .sgm c.val 0x44 v))) ∧
    (x.st = 3 → s.sgReads (mirrorOf c.val) = true → ∃ t, exec (.resilverDone c true) s = .next t ∧ (t.sg c.val).st = 1 ∧
      (t.sg c.val).resilver = 0 ∧ (t.sg (mirrorOf c.val)).survivor = false ∧ t.procs = s.procs) ∧
    (x.st = 3 → exec (.resilverDone c false) s = .next (s.sgFence (mirrorOf c.val) true)) ∧
    (m.isKs = true → s.grants m 1 .sgm page 0xB4 = true → bit v 1 = false → s.moverOn east = false → s.reg64 .sgm page 0xA0 % 64 = 0 → s.reg64 .sgm page 0xA8 % 64 = 0 →
      (sealedBase ≤ s.reg64 .sgm page 0xA0 ∨ sealedBase ≤ s.reg64 .sgm page 0xA8) →
      exec (.moverStart m east v) s = .next ((s.setRegBit .sgm page 0xB4 2 false).setMover east true)) ∧
    (s.moverOn east = true →
      let r := s.moverLines east (s.reg64 .sgm page 0xA0) (s.reg64 .sgm page 0xA8) (fld (s.reg .sgm page 0xB0) 0 24)
      exec (.moverDone east) s = .next (((r.1.setRegBit .sgm page 0xB4 1 true).setRegBit .sgm page 0xB4 2 r.2).setMover east false))

/-- R312-R317, the journal: the oldest flushable slot's record is sealed with RECNO and CHAIN and written; the acknowledge advances
NEXT and frees the slot, an error starts a retry 1 ms later; EXPORTED rises and never passes NEXT; ENABLE needs a mirrored journal
region at RING_BASE, and SOFT_RESET of the same write comes first (R510).
Model's choices: log entries 1 and 25. -/
def Obligations.JournalRows : Prop :=
  ∀ (s : State) (m : Master) (v : Word) (key : Nat),
    let a := jslotAt (key / 256) (key % 256)
    let raw := (List.range 64).flatMap fun j => s.bytes (a + 4 * j) 4
    (s.enabled .jnl 0 = true → s.jnl.flushing = none → s.jnlFull = false → s.jnlOldest = some key → (∀ j, j < 64 → s.isBad (a + 4 * j) = false) →
      ∃ t, exec .journalFlush s = .next t ∧ t.jnl.flushing = some key ∧ t.jnl.next = s.jnl.next ∧ t.jnl.slots = s.jnl.slots ∧
        t.jnl.rec_ = leBytes 8 s.jnl.next ++ (raw.drop 8).take 0xB8 ++ s.jnlChain ++ raw.drop 0xF0 ∧ t.procs = s.procs) ∧
    (s.jnl.flushing = some key → s.jnl.retry = none →
      (s.jnl.wrote = true → ∃ t, exec (.journalFlushAck true) s = .next t ∧ t.jnl.next = s.jnl.next + 1 ∧ t.jnl.flushing = none ∧
        t.jnl.slots = Sparse.set {} s.jnl.slots key {} ∧ t.regBytes .jnl 0 0x90 12 = sha384 s.jnl.rec_ ∧ t.mem = s.mem) ∧
      exec (.journalFlushAck false) s = .next (({ s with jnl := { s.jnl with retry := some (s.wall + 1000 * usUnits) } } : State).setSticky .jnl 0 2)) ∧
    (∀ t0, s.jnl.flushing = some key → s.jnl.retry = some t0 → t0 ≤ s.wall →
      exec .journalFlushRetry s = .next (({ s with jnl := { s.jnl with retry := none } } : State).jnlWrite s.jnl.rec_)) ∧
    (s.grants m 1 .jnl 0 0x8C = true →
      let new := (s.reg .jnl 0 0x88).toNat + 2 ^ 32 * v.toNat
      (s.jnl.exported ≤ new → new ≤ s.jnl.next → exec (.exportedWrite m v) s = .next { s with jnl := { s.jnl with exported := new } }) ∧
      (new < s.jnl.exported ∨ s.jnl.next < new → exec (.exportedWrite m v) s = .next (s.reject .jnl 0 0x8C v))) ∧
    (s.grants m 1 .jnl 0 0x008 = true →
      (bit v 1 = true → bit v 0 = false → ∃ t, exec (.jnlEnableWrite m v) s = .next t ∧ t.enabled .jnl 0 = false ∧ t.jnl.genesis = [] ∧
        t.mem = s.mem ∧ t.procs = s.procs) ∧
      (bit v 1 = false → bit v 0 = false ∨ s.ringBaseOk = true → ∃ t, exec (.jnlEnableWrite m v) s = .next t ∧ t.enabled .jnl 0 = bit v 0 ∧ t.mem = s.mem ∧
        t.procs = s.procs) ∧
      (bit v 1 = false → bit v 0 = true → s.ringBaseOk = false → exec (.jnlEnableWrite m v) s = .next (s.reject .jnl 0 0x008 v)))

/-! ### The command path and the Cox (R39-R59, R105-R141, R160, R344-R365) -/

/-- R39-R42 and R105-R111, into a heat: the classifier places the oldest envelope in a free place of its class queue with the course's
next tag once 240 strokes have passed since its last bit, and while service is STOPPED discards it; at the offset of a CLASS entry
a free pair starts the oldest entry that matches,
with its launch record at the pair's place and both tiles at the plan's entry; the frame boundary clears what waits for it, applies
committed resources, freezes functions and swaps the tables of a ready course.
Model's choices: log entries 9, 10, 27, 29, 76 and 99. -/
def Obligations.LaunchRows : Prop :=
  ∀ (s : State) (c : Fin 16) (i : Fin 1024) (e : QEntry) (rest : List QEntry) (t : TwoWords) (pl : PlanFile),
    (let e1 := s.mapEntry e
     let cls := if 1024 ≤ e.cls then e.cls else e.hClass
     s.ingress = e :: rest → s.pwr.warn = none → e.stroke + 240 ≤ s.stroke → s.svc ≠ 0 → s.legacyCourse cls = none → s.place e1 = some c.val → s.planOf e1.cls = some pl →
      s.inSet e1 = true → (∃ k, k < pl.qdepth ∧ k ∉ s.queueUsed c.val e1.cls) →
      ∃ t k, exec .classification s = .next t ∧ t.ingress = rest ∧ k < pl.qdepth ∧
        (∀ x ∈ (s.cx c.val).queue, x.cls = e1.cls → x.slot ≠ k) ∧
        (t.cx c.val).queue = (s.cx c.val).queue ++ [{ e1 with tag := s.nextTag c.val, slot := k }] ∧
        (t.cx c.val).serial = ((s.cx c.val).serial + 1) % 2 ^ 60 ∧ (∀ c', c' ≠ c.val → t.cx c' = s.cx c') ∧
        t.regs = s.regs ∧ t.procs = s.procs) ∧
    (s.ingress = e :: rest → s.stroke < e.stroke + 240 → exec .classification s = .next s) ∧
    (s.ingress = e :: rest → s.pwr.warn = none → e.stroke + 240 ≤ s.stroke → s.svc = 0 → e.fn = none → exec .classification s = .next { s with ingress := rest }) ∧
    ((s.cx c.val).table[i.val]? = some t → t.kind = 1 → s.stroke % frameLen = t.off → s.archOn = true → s.launchable c.val t = some e →
      s.planOf t.cls = some pl → s.enabled .cox c.val = true → s.closed c.val 8 = false → s.closed c.val t.pair = false →
      s.pairFree c.val t.pair = true → s.bindingOk (pl.bindings.getD t.bind []) = true →
      ∃ u, exec (.heatLaunch c i) s = .next u ∧
        (∀ p ∈ pairTiles c.val t.pair, (u.proc p).running = true ∧ (u.proc p).sched = true ∧ (u.proc p).pc = BitVec.ofNat 32 pl.entry ∧
          (u.proc p).slim = BitVec.ofNat 32 pl.slim ∧ (u.proc p).r 31 = ⟨BitVec.ofNat 32 pl.stackTop, Tag.ptr⟩ ∧ (u.proc p).k = []) ∧
        (∀ p, p ∉ pairTiles c.val t.pair → u.proc p = s.proc p) ∧
        (let r := sharedBase c.val + 0x800 * t.pair
         u.word r = ⟨BitVec.ofNat 32 (queueLocal pl e.slot), Tag.ptr⟩ ∧ u.word (r + 4) = TWord.int (BitVec.ofNat 32 e.tag) ∧
         u.word (r + 8) = TWord.int (BitVec.ofNat 32 (e.tag / 2 ^ 32)) ∧
         u.word (r + 12) = TWord.int (BitVec.ofNat 32 (e.cls + t.srcf * 2 ^ 10 + t.bind * 2 ^ 19)) ∧
         (∀ a, a < r ∨ r + 20 ≤ a → u.byte a = s.byte a)) ∧
        (u.cx c.val).queue = (s.cx c.val).queue.erase e ∧ (∃ h ∈ (u.cx c.val).heats, h.pair = t.pair ∧ h.entry = e ∧ h.launch = s.stroke ∧ h.total = pl.total ∧
          h.plan = pl)) ∧
    (s.archOn = true → s.stroke % frameLen = 0 → (∀ c', c' < 16 → fld (s.reg .cox c' 0x40) 0 2 = (s.cx c').role) →
      ((∀ c', (s.cx c').swap = none) → ∃ u, exec .frameBoundary s = .next u ∧
        (∀ c', c' < 16 → (u.cx c').active = (s.cx c').active ∧ (u.cx c').reopen = []) ∧
        (s.pci.commit = true → ∀ f, f < 128 → (u.fn f).qp = (s.fn f).qpNext ∧ (u.fn f).share = (s.fn f).shareNext ∧
          (u.fn f).jquota = (s.fn f).jquotaNext ∧ (u.fn f).pset = (s.fn f).psetNext) ∧
        (∀ f, f < 128 → (s.fn f).freezing = true → (u.fn f).st = .frozen)) ∧
      (∀ f, (s.cx c.val).swap = some (f, [c.val]) → f < s.stroke / frameLen → s.swapReady c.val = true →
        (∀ c', c' ≠ c.val → (s.cx c').swap = none) → ∃ u, exec .frameBoundary s = .next u ∧
          (u.cx c.val).active = (!(s.cx c.val).active) ∧ (u.cx c.val).swap = none ∧ u.reg .cox c.val 0x44 = 0 ∧ u.reg .cox c.val 0x844 = 0 ∧
          (∀ c', c' < 16 → c' ≠ c.val → (u.cx c').active = (s.cx c').active)))

/-- R45, R82, R101, R112, R122, R126-R128, R344-R354, the end of heats: END at the last stroke of the plan closes the pair's registers
and makes the record flushable, and at another stroke is an occupancy mismatch; an abort (for a late unit, one that found its result late) writes
LAST_ABORT, clears the pair, withdraws the release and puts the heat in line for a spare pair, and a lockstep mismatch fences the
pair; a domain fault fences the course; a spare slot serves the waiting heats in order as re-runs, and after 240,000 strokes a
waiting heat is refused with 0x74; a legacy instance's END ends its command with the firmware's verdict.
Model's choices: log entries 1, 30, 31, 84 and 102. -/
def Obligations.HeatEndRows : Prop :=
  ∀ (s : State) (c : Fin 16) (tl : Fin 16) (p : Fin 8) (i : Fin 1024) (h : Heat) (tpc : Word) (code : Nat) (t : TwoWords) (w : Waiting),
    let pid : ProcId := .tile c tl
    let x := s.proc pid
    let ended (t : State) := ∀ τ ∈ pairTiles c.val p.val, (t.proc τ).running = false ∧ (t.proc τ).k = [] ∧ (t.proc τ).stopped = (s.proc τ).dbl
    let done : Proc := { x with b := x.b.filter fun e => decide (e.1 = 31), k := [], lines := 0, running := false }
    (s.canTransfer pid = true → x.sched = false → (s.cx c.val).role ≠ 2 ∨ tl.val % 2 = 1 →
      exec (.endHeat pid) s = .next (s.retireAt pid done)) ∧
    (∀ e, s.canTransfer pid = true → x.sched = false → (s.cx c.val).role = 2 → tl.val % 2 = 0 →
      (s.cx c.val).legacyBusy = [(tl.val / 2, e)] → ∃ v, v < 256 ∧ exec (.endHeat pid) s =
        .next ((((s.retireAt pid done).draw).updCx c.val fun y => { y with legacyBusy := [] }).classVerdict c.val e v 0xB0 4)) ∧
    (s.canTransfer pid = true → x.sched = true → pid.sends = false → ∃ u, exec (.endHeat pid) s = .next u ∧ (u.proc pid).running = false ∧
      (u.proc pid).k = [] ∧ u.cox = s.cox ∧ u.mem = s.mem) ∧
    (s.canTransfer pid = true → x.sched = true → pid.sends = true →
      (s.cx c.val).heats.find? (fun y => decide (y.pair = tl.val / 2) && !y.ended) = some h →
      s.stroke + 1 ≠ h.launch + h.total → ∃ u, exec (.endHeat pid) s = .next u ∧ (u.proc pid).running = false ∧ u.cox = s.cox ∧
        (c.val, tl.val / 2, 13) ∈ u.sigs) ∧
    (s.canTransfer pid = true → x.sched = true → pid.sends = true →
      (s.cx c.val).heats.find? (fun y => decide (y.pair = tl.val / 2) && !y.ended) = some h → s.stroke + 1 = h.launch + h.total →
      ∃ u, exec (.endHeat pid) s = .next u ∧ (u.proc pid).running = false ∧ (u.proc pid).k = [] ∧ (u.proc pid).lines = 0 ∧
        (u.cx c.val).heats = (s.cx c.val).heats.map (fun y => if y = h then { y with ended := true } else y) ∧
        (∀ k, h.slot = some k → (u.jslot c.val k).st = 2 ∧ (u.jslot c.val k).endAt = s.stroke) ∧
        (∀ j, j < 2 → ∀ a, planeBase c.val (2 * (tl.val / 2) + j) ≤ a → a < planeBase c.val (2 * (tl.val / 2) + j) + 4 * h.keyfoot → u.byte a = 0)) ∧
    (s.heatOn c.val p.val = some h → h.rerun = false → h.home = c.val → (s.cx c.val).role ≠ 2 →
      (s.lateOn c.val p.val = false → exec (.heatAbort c p .lateUnit tpc) s = .next s) ∧
      (∀ q ∈ [(AbortCause.lateUnit, 0xC, 3), (AbortCause.occMismatch, 0xD, 4)], (q.1 = .lateUnit → s.lateOn c.val p.val = true) → ∃ u, exec (.heatAbort c p q.1 tpc) s = .next u ∧
        u.reg .cox c.val 0x5C = BitVec.ofNat 32 (h.cls + p.val * 2 ^ 10 + q.2.1 * 2 ^ 13) ∧ bit (u.reg .cox c.val 0x010) q.2.2 = true ∧ ended u ∧
        (u.cx c.val).heats = (s.cx c.val).heats.erase h ∧ (∃ w ∈ (u.cx c.val).waiting, w.heat.entry = h.entry ∧ w.detect = s.stroke) ∧
        (∀ port, ∀ e ∈ u.egq port, e.tag ≠ h.entry.tag)) ∧
      (code < 16 → code ≠ eccUncorr → ∃ u, exec (.heatAbort c p (.trap code) tpc) s = .next u ∧
        u.reg .cox c.val 0x5C = BitVec.ofNat 32 (h.cls + p.val * 2 ^ 10 + code * 2 ^ 13) ∧ ended u ∧
        (u.cx c.val).heats = (s.cx c.val).heats.erase h ∧ (∃ w ∈ (u.cx c.val).waiting, w.heat.first = some (code, tpc.toNat)) ∧
        u.pfence c.val p.val = s.pfence c.val p.val) ∧
      (∃ u, exec (.lockstepMismatch c p) s = .next u ∧
        u.reg .cox c.val 0x5C = BitVec.ofNat 32 (h.cls + p.val * 2 ^ 10 + 0xE * 2 ^ 13) ∧ bit (u.reg .cox c.val 0x010) 5 = true ∧ ended u ∧
        u.pfence c.val p.val = true ∧ (∃ w ∈ (u.cx c.val).waiting, w.heat.entry = h.entry ∧ w.detect = s.stroke))) ∧
    ((s.cx c.val).role ≠ 2 → ∃ u, exec (.courseDomainFault c) s = .next u ∧ u.pfence c.val 8 = true ∧
      (s.heatOn c.val p.val = some h → ended u)) ∧
    ((s.cx c.val).table[i.val]? = some t → t.kind = 2 → s.stroke % frameLen = t.off → s.archOn = true → s.enabled .cox t.scourse = true →
      s.closed c.val 8 = false → exec (.spareSlot c i) s = .next ((List.zip (s.waitingOrder c.val) (s.sparePairs t)).foldl
        (fun u (z : Waiting × Nat) => u.reissue c.val t.scourse z.2 z.1) (s.replay c.val t))) ∧
    ((s.cx c.val).waiting = [w] → w.detect + 240000 ≤ s.stroke → w.heat.slot = none → exec (.reissueTimeout c) s =
      .next (((s.updCx c.val fun y => { y with waiting := [] }).setSticky .cox c.val 9).classVerdict c.val w.heat.entry 7 0x74 8)) ∧
    (∀ pl, w.heat.plan = pl → ∀ sc, sc < 16 → ∀ u, u = s.reissue c.val sc p.val w →
      (∀ τ ∈ pairTiles sc p.val, (u.proc τ).running = true ∧ (u.proc τ).pc = BitVec.ofNat 32 pl.entry) ∧
      u.word (sharedBase sc + 0x800 * p.val + 12) = TWord.int (BitVec.ofNat 32 (w.heat.entry.cls + 2 ^ 18)) ∧
      ∃ h' ∈ (u.cx sc).heats, h'.pair = p.val ∧ h'.rerun = true ∧ h'.launch = s.stroke ∧ h'.plan = pl)

/-- R52 and R360-R362, the release of a heat's frame at the stroke TOTAL of its heat: where the comparison is equal, the record holds
ACCEPT, no fault has been signalled and the tag is new, the staged frame is released (or dropped where the port cannot take it), held for
the sister's acknowledgement, or dropped on a device that is not ACTIVE; otherwise the reserved entry is freed; at another stroke, for
class 0 and for telemetry nothing changes.
R46, R51 and R58: the verdict of a command heat is REFUSE_INTERNAL without a journal slot, then LOCKED, then HELD, then 0x10 for class 0.
R113, R140, R141, R160, R359 and R365, table and test registers: FT_DATA1 and RES_DATA1 write the inactive buffer at the address and
step it, are rejected on the active one, and read either; SHADOW_BASE clears PASS; PTEST tests a fenced pair and zeroises it; a swap
that finds no ready boundary in 300 frames is abandoned.
Model's choices: log entries 29, 30, 31, 82 and 99. -/
def Obligations.EgressCoxRows : Prop :=
  (∀ (s : State) (c : Fin 16) (p : Fin 8) (h : Heat) (port : Nat),
    let tag := h.entry.tag
    (h.slot = none → s.heatReason h = (7, 0x75)) ∧
    (h.slot ≠ none → s.svc = 3 → s.heatReason h = (9, 0x90)) ∧ (h.slot ≠ none → s.svc = 2 → s.heatReason h = (8, 0x80)) ∧
    (h.slot ≠ none → s.svc < 2 → h.cls = 0 → s.heatReason h = (1, 0x10)) ∧
    (s.stagedPort c.val p.val tag = none → s.heatOn c.val p.val = some h → ∀ eq, exec (.egressRelease c p eq) s = .next s) ∧
    (s.heatOn c.val p.val = some h → s.stagedPort c.val p.val tag = some port → ∀ eq,
      s.stroke ≠ h.launch + h.total ∨ h.cls = 0 ∨ h.plan.telemetry = true → exec (.egressRelease c p eq) s = .next s) ∧
    (s.heatOn c.val p.val = some h → s.stagedPort c.val p.val tag = some port → s.stroke = h.launch + h.total → h.cls ≠ 0 →
      h.plan.telemetry = false → (∀ x ∈ s.pairM.held, x.2.1 ≠ tag) →
      (∀ eq, eq = false ∨ s.accepted c.val h = false ∨ s.signalled c.val p.val = true ∨ tag ∈ s.released →
        ∃ t, exec (.egressRelease c p eq) s = .next t ∧ t.released = s.released ∧ t.out = s.out ∧
          (∀ e ∈ t.egq port, e.released = false → e.tag ≠ tag ∨ e.course ≠ c.val ∨ e.pair ≠ p.val)) ∧
      (h.frame.isSome = true → s.accepted c.val h = true → s.signalled c.val p.val = false → tag ∉ s.released →
      (s.pairGate tag = .now → ∃ t, exec (.egressRelease c p true) s = .next t ∧ t.released = s.released ++ [tag] ∧
        (∀ e ∈ t.egq port, e.tag = tag → e.released = true ∧ e.at_ = s.stroke) ∧ t.mem = s.mem ∧ t.procs = s.procs ∧
        (∀ e, (s.egq port).find? (fun e => decide (e.tag = tag)) = some e → s.portTakes port e = true → ∃ e' ∈ t.egq port, e'.tag = tag ∧
          e'.bytes = e.bytes)) ∧
      (s.pairGate tag = .later → ∃ t, exec (.egressRelease c p true) s = .next t ∧ t.pairM.held = s.pairM.held ++ [(port, tag, s.stroke)] ∧
        t.released = s.released ∧ t.egress = s.egress) ∧
      (s.pairGate tag = .drop → ∃ t, exec (.egressRelease c p true) s = .next t ∧ t.released = s.released ∧ t.mem = s.mem ∧
        (∀ e ∈ t.egq port, e.released = false → e.tag ≠ tag ∨ e.course ≠ c.val ∨ e.pair ≠ p.val))))) ∧
  (∀ (s : State) (m : Master) (c : Fin 16) (v : Word) (ok : Bool),
    let x := s.cx c.val
    let a := s.reg .cox c.val 0x48
    let ra := s.reg .mort 0 0x70
    let rc := fld ra 11 4
    let y := s.cx rc
    (s.grants m 1 .cox c.val 0x50 = true →
      (bit a 10 = x.active → exec (.ftData1Write m c v) s = .next (s.reject .cox c.val 0x50 v)) ∧
      (bit a 10 ≠ x.active → ∃ t, exec (.ftData1Write m c v) s = .next t ∧
        Sparse.get {} (if bit a 10 then (t.cx c.val).ftB else (t.cx c.val).ftA) (fld a 0 10) = ⟨x.ftHold, v⟩ ∧
        (t.cx c.val).table = x.table ∧ t.reg .cox c.val 0x48 = putFld a 0 10 (fld a 0 10 + 1) ∧ bit (t.reg .cox c.val 0x54) 0 = false ∧
        (∀ c', c' ≠ c.val → t.cx c' = s.cx c') ∧ t.mem = s.mem ∧ t.procs = s.procs)) ∧
    (s.grants m 0 .cox c.val 0x50 = true → exec (.ftData1Read m c) s =
      .next ((s.setReg .cox c.val 0x48 (putFld a 0 10 (fld a 0 10 + 1))).emit (.readData m [TWord.int (s.ftEntry c.val).w1]))) ∧
    (s.grants m 1 .mort 0 0x78 = true →
      (bit ra 15 = y.active → exec (.resData1Write m v) s = .next (s.reject .mort 0 0x78 v)) ∧
      (bit ra 15 ≠ y.active → ∃ t, exec (.resData1Write m v) s = .next t ∧
        Sparse.get {} (if bit ra 15 then (t.cx rc).resB else (t.cx rc).resA) (fld ra 0 11) = ⟨s.mort.resHold, v⟩ ∧
        (t.cx rc).resv = y.resv ∧ t.reg .mort 0 0x70 = putFld ra 0 11 (fld ra 0 11 + 1) ∧ bit (t.reg .cox rc 0x54) 0 = false ∧
        (∀ c', c' ≠ rc → t.cx c' = s.cx c') ∧ t.mem = s.mem ∧ t.procs = s.procs)) ∧
    (s.grants m 0 .mort 0 0x78 = true → exec (.resData1Read m) s =
      .next ((s.setReg .mort 0 0x70 (putFld ra 0 11 (fld ra 0 11 + 1))).emit (.readData m [TWord.int s.resEntry.w1]))) ∧
    (s.grants m 1 .cox c.val 0x74 = true → ∃ t, exec (.shadowBaseWrite m c v) s = .next t ∧ t.reg .cox c.val 0x74 = v &&& 0x7FFFF ∧
      bit (t.reg .cox c.val 0x54) 0 = false ∧ t.cox = s.cox ∧ t.mem = s.mem) ∧
    (s.grants m 1 .cox c.val 0x6C = true → bit v 4 = true → x.ptest = none →
      (s.pfence c.val 8 = true ∨ (bit v 3 = false ∧ s.pfence c.val (fld v 0 3) = true) →
        ∃ t, exec (.coxPtestStart m c v) s = .next t ∧
          (t.cx c.val).ptest = some (if bit v 3 then List.range 8 else [fld v 0 3], bit v 3) ∧ t.mem = s.mem ∧ t.procs = s.procs)) ∧
    (∀ p, x.ptest = some ([p], false) → p < 8 → ∃ t, exec (.coxPtestDone c ok) s = .next t ∧ (t.cx c.val).ptest = none ∧
      (p ∈ (t.cx c.val).passed ↔ ok = true) ∧ bit (t.reg .cox c.val 0x6C) 5 = ok ∧ bit (t.reg .cox c.val 0x6C) 6 = (!ok) ∧
      (∀ τ ∈ pairTiles c.val p, t.proc τ = {}) ∧
      (∀ b, b ∈ [2 * p, 2 * p + 1] → ∀ z, scratchBase c.val b ≤ z → z < scratchBase c.val b + 0x10000 → t.byte z = 0)) ∧
    (∀ f cs, x.swap = some (f, cs) → c.val ∈ cs → f + 300 ≤ s.stroke / frameLen → ∃ t, exec (.swapTimeout c) s = .next t ∧
      (t.cx c.val).swap = none ∧ bit (t.reg .cox c.val 0x010) 11 = true ∧ t.mem = s.mem ∧ t.procs = s.procs))

/-! ### Partners, signers and secure time (R218-R241, R251, R358) -/

/-- R222-R226, R230-R232, R240 and R358, the partner ports: a read whose beats have arrived brings the image taken at the request to its
place in shared memory; a check-and-mark of a sequence above the high-water sets it, its window bit and its ring entry and answers 0, and
one too old or known without its ring entry answers 1 and leaves the context; the answer travels back and becomes the word at its place;
high-waters drain over the joint, one in 32 strokes, and a popped checkpoint request is recorded.
Model's choices: log entries 22 and 79. -/
def Obligations.PartnerPortRows : Prop :=
  ∀ (s : State) (m : Master) (r : CtxRead) (q : MarkReq) (p : Fin 4096) (n : Fin 1024),
    let c := s.ctx q.partner
    let left : State := { s with ptn := { s.ptn with reads := [] }, mort := { s.mort with flights := s.mort.flights.filter fun f => decide (f.body ≠ .ctx r) } }
    let told (t : State) (ok : Bool) := (∀ f ∈ s.mort.flights, f.body = .mark q none → { f with body := .mark q (some ok) } ∈ t.mort.flights) ∧
      (q.heat = true → ∀ h ∈ (t.cx q.course).heats, h.pair = q.pair → h.entry.tag = q.tag → h.marked = some ok)
    (s.ptn.reads = [r] → s.readLanded r = true →
      (r.stateOnly = false → exec .partnerContextRead s = .next (left.toShared r.course r.dest r.img)) ∧
      (r.stateOnly = true → exec .partnerStateRead s = .next (left.toShared r.course r.dest r.img))) ∧
    (s.ptn.reads = [r] → s.readLanded r = false → exec .partnerContextRead s = .next s ∧ exec .partnerStateRead s = .next s) ∧
    (∀ f ok, f.body = .mark q (some ok) → q.dest % 4 = 0 → q.dest + 4 ≤ 0x80000 →
      (s.landMark f).word (sharedBase q.course + q.dest) = TWord.int (if ok then 0 else 1)) ∧
    (s.ptn.marks = [q] → q.mark = true → s.markLanding = false →
      (s.ptn.draining = false → c.hw < q.seq → c.ringYoung s.stroke = false → ∃ t, exec .checkAndMark s = .next t ∧ t.ptn.marks = [] ∧
        (t.ctx q.partner).hw = q.seq ∧ (t.ctx q.partner).marked q.seq = true ∧
        (t.ctx q.partner).state = (c.state ||| q.set) &&& ~~~q.clear ∧ (t.ctx q.partner).ringNext = (c.ringNext + 1) % 16 ∧
        (t.ctx q.partner).inRing q.seq q.tag = true ∧ (∀ p', p' ≠ q.partner → t.ctx p' = s.ctx p') ∧
        told t true ∧ t.mem = s.mem ∧ t.procs = s.procs) ∧
      (q.seq + 1024 ≤ c.hw ∨ (c.known q.seq = true ∧ c.inRing q.seq q.tag = false) → ∃ t, exec .checkAndMark s = .next t ∧
        (∀ p', t.ctx p' = s.ctx p') ∧ told t false ∧ t.mem = s.mem ∧ t.procs = s.procs)) ∧
    (s.markLanding = true → exec .checkAndMark s = .next s) ∧
    (s.stroke < s.ptn.bbAt → exec .bbPendingSend s = .next s) ∧
    (∀ k, s.jnt.up = true → s.ptn.bbAt ≤ s.stroke → s.ptn.nextPend = some k → ∃ t, exec .bbPendingSend s = .next t ∧
      t.ptn.bbPend = s.ptn.bbPend.filter (·.1 ≠ k) ∧ t.ptn.bbNext = (k + 1) % 4096 ∧ t.ptn.bbAt = s.stroke + 32 ∧ t.bbNat (8 * k) 8 = (s.ctx k).hw % 2 ^ 64 ∧ t.mem = s.mem) ∧
    (∀ e ∈ s.ptn.bbPend, e.1 = p.val → 1200000 < s.stroke - e.2 → exec (.bbLagTimeout p) s = .next (s.setSticky .ptn 0 4)) ∧
    exec .partnerDrain s = .next { s with ptn := { s.ptn with draining := true } } ∧
    (s.ptn.draining = true → s.ptn.bbPend = [] → s.jnt.up = true → ∃ t, exec .drainComplete s = .next t ∧ t.ptn.drained = true ∧
      t.bbNat 0x8000 4 = 1 ∧ t.mem = s.mem) ∧
    (s.grants m 0 .ptn 0 0x60 = true → ∃ t : State, exec (.ckptPop m) s =
        .next (t.emit (.readData m [TWord.int (Sparse.get 0 s.held (regKey .ptn 0 0x60))])) ∧ t.ptn.ckpt = s.ptn.ckpt.drop 1 ∧
      (∀ k hw rest, s.ptn.ckpt = (k, hw) :: rest → hw ≤ Sparse.get 0 t.flc.ckpt k) ∧
      (bit (s.stky .ptn 0) 6 = true → ∀ e ∈ s.ptn.ctx, e.2.enabled = true → e.2.hw ≤ Sparse.get 0 t.flc.ckpt e.1) ∧
      (∀ k, Sparse.get 0 s.flc.ckpt k ≤ Sparse.get 0 t.flc.ckpt k) ∧ t.mem = s.mem ∧ t.regs = s.regs ∧ t.procs = s.procs) ∧
    exec (.partnerContextEcc p) s = .next ((s.setCtx p.val { withdrawn := true }).setSticky .ptn 0 1) ∧
    (∃ t, exec (.signerSlotEcc n) s = .next t ∧ t.slotKey n.val 0x01 = none ∧ bit (t.reg .sgn 0 0x010) 1 = true ∧ t.mem = s.mem)

/-- R235-R238, R240 and R241, the loads of partners and signer slots: the command register starts one and refuses a second; applied, the
modes install a new disabled context with its window, high-water and keys, update configuration and keys only, enable, disable,
erase, restore and fence, after the check-and-marks of the stroke on that context; a signer load installs the staged slot, erases or revokes.
Model's choices: log entries 21 and 22. -/
def Obligations.PartnerLoadRows : Prop :=
  ∀ (s : State) (m : Master) (v : Word) (p n : Nat) (due : Nat),
    let c := s.ctx p
    let img := s.bytes ctxStaging 2048
    let arg := (s.reg .ptn 0 0x48).toNat
    let new : Ctx := { partner := p, window := 1, cfg := cfgOf img }
    let s0 : State := { s with ptn := { s.ptn with load := none } }
    let g0 : State := { s with ptn := { s.ptn with sgnLoad := none } }
    (s.grants m 1 .ptn 0 0x40 = true →
      ∀ row ∈ ([(.partnerInstall m v, 1), (.partnerUpdate m v, 2), (.partnerEnable m v, 3), (.partnerDisable m v, 4), (.partnerErase m v, 5),
        (.partnerRestore m v, 6), (.partnerFence m v, 7)] : List (Instr × Nat)),
        (s.ptn.load = none → ∃ t, exec row.1 s = .next t ∧ t.ptn.load = some (row.2, fld v 0 12, s.stroke + 2048) ∧
          (∀ p', t.ctx p' = s.ctx p') ∧ t.mem = s.mem ∧ t.procs = s.procs) ∧
        (s.ptn.load.isSome = true → ∃ w, exec row.1 s = .next (s.reject .ptn 0 0x40 w))) ∧
    (∀ mode, s.ptn.load = some (mode, p, due) → s.markLanding = true ∨ (∃ r ∈ s.ptn.marks, r.partner = p) →
      exec .partnerLoadApply s = .next s) ∧
    (s.markLanding = false → (∀ r ∈ s.ptn.marks, r.partner ≠ p) →
    (s.ptn.load = some (1, p, due) → c.enabled = false → new.version = arg → new.version ≠ 0 → s.imageBad p new img = false →
      ∀ ks, s.unwrapAll new = some ks → exec .partnerLoadApply s =
        (let s1 := s0.setCtx p { new with keys := ks }
         .next (({ s1 with ptn := { s1.ptn with restored := s1.ptn.restored.erase p } } : State).loadEnd .ptn 1))) ∧
    (s.ptn.load = some (1, p, due) → c.enabled = false → new.version = arg → new.version ≠ 0 → s.imageBad p new img = true →
      exec .partnerLoadApply s = .next (s0.loadEnd .ptn 2)) ∧
    (s.ptn.load = some (2, p, due) → c.version ≠ 0 → new.version = arg → c.version < new.version → s.imageBad p new img = false →
      ∀ ks, s.unwrapAll new = some ks →
        exec .partnerLoadApply s = .next ((s0.setCtx p { c with cfg := new.cfg, keys := ks }).loadEnd .ptn 1)) ∧
    (s.ptn.load = some (3, p, due) → c.version ≠ 0 →
      exec .partnerLoadApply s = .next ((s0.setCtx p { c with enabled := true }).loadEnd .ptn 1)) ∧
    (s.ptn.load = some (4, p, due) → exec .partnerLoadApply s = .next ((s0.setCtx p { c with enabled := false }).loadEnd .ptn 1)) ∧
    (s.ptn.load = some (5, p, due) → c.enabled = false →
      exec .partnerLoadApply s = .next (((s0.setCtx p {}).bbPut (8 * p) (zeros 8)).loadEnd .ptn 1)) ∧
    (s.ptn.load = some (6, p, due) → c.version ≠ 0 → ∃ t, exec .partnerLoadApply s = .next t ∧ (t.ctx p).hw = s.reg64 .ptn 0 0x48 ∧
      (t.ctx p).window = BitVec.allOnes 1024 ∧ (t.ctx p).ring = [] ∧ (t.ctx p).rate = [] ∧ (t.ctx p).fence = s.reg64 .ptn 0 0x50 ∧
      (t.ctx p).keys = c.keys ∧ (t.ctx p).cfg = c.cfg ∧ (∃ e ∈ t.ptn.bbPend, e.1 = p)) ∧
    (s.ptn.load = some (7, p, due) → c.version ≠ 0 →
      exec .partnerLoadApply s = .next ((s0.setCtx p { c with fence := s.reg64 .ptn 0 0x50 }).loadEnd .ptn 1))) ∧
    (s.grants m 1 .sgn 0 0x40 = true →
      ∀ row ∈ ([(.signerInstall m v, 1), (.signerErase m v, 2), (.signerRevoke m v, 3)] : List (Instr × Nat)),
        (s.ptn.sgnLoad = none → ∃ t, exec row.1 s = .next t ∧ t.ptn.sgnLoad = some (row.2, fld v 0 10, s.stroke + 1024) ∧
          t.mem = s.mem ∧ t.procs = s.procs)) ∧
    (s.ptn.sgnLoad = some (1, n, due) → slotAlgOk (s.byte slotStaging).toNat n = true → (s.byte slotStaging).toNat ≠ 0x22 → s.slotAlg n = 0 →
      leNat (s.bytes (slotStaging + 4) 4) ≠ 0 →
      exec .signerLoadApply s = .next ((g0.putInts (slotBase n) (s.bytes slotStaging 2048)).loadEnd .sgn 1)) ∧
    (s.slotsOf n = [n] →
      (s.ptn.sgnLoad = some (2, n, due) → exec .signerLoadApply s = .next ((g0.wipe (slotBase n) 2048).loadEnd .sgn 1)) ∧
      (s.ptn.sgnLoad = some (3, n, due) → s.slotAlg n ≠ 0 →
        exec .signerLoadApply s = .next ((g0.putByte (slotBase n + 1) (s.byte (slotBase n + 1) ||| 2)).loadEnd .sgn 1)))

/-- R227 and R228, secure time: an adjustment within STEP_MAX is slewed, marks the discipline and validates a time that may be, and one
beyond it sets the sticky bit alone; once time becomes valid the fences of an unknown shutdown time fall to it (R234); the slew ends; the
always-on copy is written over the joint; holdover ends the validity.
Model's choices: log entries 43 and 46. -/
def Obligations.SecureTimeRows : Prop :=
  ∀ (s : State) (m : Master) (v : Word),
    let left := s.tim.slew + v.toInt * usUnits
    let max := fld (s.reg .tim 0 0x4C) 0 20 * 1000 * usUnits
    (s.grants m 1 .tim 0 0x50 = true →
      (left.natAbs ≤ max →
        let u : State := { s with tim := { s.tim with
          slew := left, slewing := decide (left ≠ 0), lastDisc := s.secNow, valid := s.tim.valid || s.tim.rtcCont || s.tim.stepped } }
        (u.tim.valid = s.tim.valid → exec (.timAdj m v) s = .next u) ∧
        (u.tim.valid ≠ s.tim.valid → ∃ t, exec (.timAdj m v) s = .next t ∧ t.tim = u.tim ∧ t.regs = s.regs ∧ t.mem = s.mem ∧ t.procs = s.procs ∧
          (∀ p, (s.ctx p).version ≠ 0 → (s.ctx p).fence = fenceOpen → (t.ctx p).fence = s.secNow ∧ (t.ctx p).hw = (s.ctx p).hw ∧
            (t.ctx p).cfg = (s.ctx p).cfg))) ∧
      (max < left.natAbs → exec (.timAdj m v) s = .next (s.setSticky .tim 0 2))) ∧
    (s.tim.slew = 0 → exec .slewComplete s = .next { s with tim := { s.tim with slewing := false } }) ∧
    (s.jnt.up = true → exec .timRtcWriteback s = .next { s with aon := { s.aon with
      rtc := s.tim.now, holdover := (s.reg .tim 0 0x48).toNat, lastDisc := s.tim.lastDisc, timeValid := s.tim.valid,
      interrupted := s.aon.interrupted && !s.tim.valid } }) ∧
    (s.tim.valid = true → s.tim.lastDisc + (s.reg .tim 0 0x48).toNat * 1000000 ≤ s.secNow → ∃ t, exec .holdoverExpiry s = .next t ∧
      t.tim.valid = false ∧ bit (t.reg .tim 0 0x010) 3 = true ∧ t.tim.now = s.tim.now ∧ t.mem = s.mem ∧ t.procs = s.procs)

/-! ### Link ports and the mortar (R144-R159, R267-R290) -/

/-- R269-R276, R285, R286, R289 and R330, an independent Ethernet port: a good frame with a whole envelope brings it to the classifier, a
bad one sets RX_ERR; slots and duplicate entries expire; upward envelopes, the one a telemetry heat has built or an instance's, queue for
the uplink port; the head of the egress queue is sent (of an entry without a session, as a GOOSE frame with its destination and VLAN), or
else the oldest upward envelope in segments with the carriage header; link, enable and PTP rows act as their rules say.
Model's choices: log entries 33, 35, 36 and 108. -/
def Obligations.EthernetRows : Prop :=
  ∀ (s : State) (m : Master) (n : Fin 64) (f : EthFrame) (pl : List Byte) (key : RasmKey) (mac seq : Nat) (src : Fin 256) (env : List Byte)
      (e : Egress) (rest : List (Nat × List Byte)) (u : Nat) (sp : BitVec 2) (v : Word),
    let x := s.ethP n.val
    let len := leNat ((pl.drop 6).take 2)
    let free (t : State) := ∀ e ∈ t.egq n.val, e.released = false
    (s.enabled .eth n.val = true → s.sisterPort n.val = false → s.ethPair n.val = 0 →
      (s.macFrameOk n.val f = false → exec (.ethFrameReceived n f) s = .next (s.setSticky .eth n.val 3)) ∧
      (s.macFrameOk n.val f = true → s.dstOk n.val f = true → s.vlanOk n.val f = true → f.content = .envL2 pl →
        bit (s.reg .eth n.val 0x40) 7 = true → pl.getD 0 0 = 1 → pl.getD 1 0 = 1 → pl.getD 2 0 = 0 → pl.getD 3 0 = 0 → 1 ≤ len → len ≤ 1456 →
        8 + len ≤ pl.length → x.rasm = [] → ∃ t, exec (.ethFrameReceived n f) s = .next t ∧
          t.ingress = s.ingress ++ [{ cls := 0, src := n.val, stroke := s.stroke, time := s.secNow, valid := s.tim.valid, env := (pl.drop 8).take len }] ∧
          t.regs = s.regs ∧ t.mem = s.mem ∧ t.procs = s.procs)) ∧
    (∀ r ∈ (s.ethP (s.ethMain n.val)).rasm, r.key = key → r.since + 2000 * usUnits ≤ s.wall → exec (.reassemblyTimeout n key) s =
      .next ((s.updEth (s.ethMain n.val) fun y => { y with rasm := y.rasm.filter fun r => decide (r.key ≠ key) }).setSticky .eth (s.ethMain n.val) 5)) ∧
    (∃ t, exec (.dupEntryExpiry n mac seq) s = .next t ∧ t.regs = s.regs ∧ t.mem = s.mem ∧ ∀ d, d ∈ (t.ethP (s.ethMain n.val)).dup ↔
      d ∈ (s.ethP (s.ethMain n.val)).dup ∧ ¬(d.1 = mac ∧ d.2.1 = seq ∧ d.2.2 + 400000 * usUnits ≤ s.wall)) ∧
    (s.ethPair n.val ≠ 0 → s.enabled .eth (s.ethMain n.val) = true → exec (.hsrSupervision n) s =
      .next ((s.emit (.supervision (s.ethMain n.val))).emit (.supervision (s.ethMain n.val + 1)))) ∧
    (let w := s.uplinkReg src.val
     (s.upReady src.val = none → bit w 15 = false → exec (.uplinkEnvelope src env) s = .next (s.uplinkDrop src.val)) ∧
     (∀ c p h other, s.upReady src.val = some (c, p) → (s.cx c).heats.find? (fun h => decide (h.pair = p)) = some h → h.ended = true →
       h.up = some env → h.entry.src = src.val → s.stroke = h.launch + h.total → bit w 15 = false → ∃ t,
       exec (.uplinkEnvelope src other) s = .next t ∧ t.regs = (s.uplinkDrop src.val).regs ∧
       (∀ h' ∈ (t.cx c).heats, h'.pair = p → h'.up = none)) ∧
     (s.upReady src.val = none → bit w 15 = true → bit w 7 = false → s.ethReady (fld w 0 6) = true → (s.ethP (s.ethMain (fld w 0 6))).uplink.length < 16 →
      exec (.uplinkEnvelope src env) s =
        .next (s.updEth (s.ethMain (fld w 0 6)) fun y => { y with uplink := y.uplink ++ [(src.val, env)] }))) ∧
    (s.ethPair n.val = 0 → s.ethReady n.val = true →
      (s.egHead n.val = none → x.uplink = (u, env) :: rest → exec (.ethTxDone n) s =
        (let t := s.setEth n.val { x with uplink := rest, msgid := (x.msgid + 1) % 65536 }
         let udp := fld (s.reg .eth n.val 0x88) 0 16
         let ip : IpHead := { src := (s.reg .eth n.val 0x70).toNat, dst := (s.reg .eth n.val 0x84).toNat, sport := fld (s.reg .eth n.val 0x74) 0 16,
                              dport := udp, tcp := false }
         let mac := (s.reg .eth n.val 0x7C).toNat + 2 ^ 32 * fld (s.reg .eth n.val 0x80) 0 16
         let frames := (segmentsOf x.msgid env).map fun b => Output.upward n.val
           (if udp = 0 then s.wireFrame n.val mac 0x88B5 none b else s.wireFrame n.val mac 0x0800 (some ip) b)
         .next { t with out := s.out ++ frames })) ∧
      (s.egHead n.val = some e → e.at_ + 3 ≤ s.stroke → s.bySession e.partner = false →
        exec (.ethTxDone n) s = .next ((s.egFree n.val e).emit (.ethFrame n.val e.tag
          (s.wireFrame n.val (0x010C * 2 ^ 32 + (s.ctx e.partner).addr2) 0x88B8 none e.bytes))))) ∧
    (s.ethPair n.val = 0 → x.link = true → ∀ i ∈ [Instr.ethLinkDown n, .serdesLaneFault n], ∃ t, exec i s = .next t ∧
      (t.ethP n.val).link = false ∧ bit (t.reg .eth n.val 0x010) 2 = true ∧ free t ∧ t.mem = s.mem ∧ t.procs = s.procs) ∧
    (∃ t, exec (.serdesLaneFault n) s = .next t ∧ bit (t.reg .eth n.val 0x010) 11 = true) ∧
    exec (.ethLinkUp n sp) s = .next (s.setEth n.val { x with link := true, speed := sp.toNat }) ∧
    (bit v 1 = true → exec (.ethEnableWrite m n v) s = exec (.softReset m ⟨.eth, n.val⟩ v) s) ∧
    (s.grants m 1 .eth n.val 0x008 = true → bit v 1 = false →
      (s.enabled .eth n.val = false → exec (.ethEnableWrite m n v) s = .next (s.setRegBit .eth n.val 0x008 0 (bit v 0))) ∧
      (s.enabled .eth n.val = true → bit v 0 = false → s.ethPair n.val = 0 → ∃ t, exec (.ethEnableWrite m n v) s = .next t ∧
        t.enabled .eth n.val = false ∧ free t ∧ (t.ethP n.val).rasm = [] ∧ (t.ethP n.val).uplink = [] ∧ t.mem = s.mem ∧ t.procs = s.procs)) ∧
    (s.grants m 1 .eth n.val 0x108 = true → fld v 0 8 ≠ 0 → bit v 8 = true →
      (x.ptpBusy = false → x.tsValid = false → s.ptpPort n.val = true → exec (.ptpTxGo m n v) s =
        .next ((s.setReg .eth n.val 0x108 (v &&& 0xFF)).updEth n.val fun y => { y with ptpBusy := true })) ∧
      (x.ptpBusy = true → exec (.ptpTxGo m n v) s = .next (s.reject .eth n.val 0x108 v))) ∧
    (x.ptpBusy = true → s.ethPair n.val ≠ 2 → ∃ t, exec (.ptpTxStamped n) s = .next t ∧ (t.ethP n.val).ptpBusy = false ∧
      (t.ethP n.val).tsValid = true ∧ t.reg64 .eth n.val 0x10C = s.stroke % 2 ^ 64 ∧ t.mem = s.mem ∧ t.procs = s.procs) ∧
    (s.grants m 1 .eth n.val 0x104 = true → bit v 0 = true → 0 < x.count → exec (.ptpAckWrite m n v) s =
      .next (s.setEth n.val { x with head := (x.head + 1) % 4, count := x.count - 1 })) ∧
    (s.grants m 0 .eth n.val 0x110 = true → exec (.ptpTsHiRead m n) s =
      .next ((s.setEth n.val { x with tsValid := false }).emit (.readData m [TWord.int (Sparse.get 0 s.held (regKey .eth n.val 0x110))])))

/-- R277, R278 and R289, sessions: a disabled entry takes its words and connects when EN is set; an enabled one takes only the write that
clears EN, which closes it. Established, IEC 60870-5-104 sessions wait for STARTDT and others are OPEN; a failure or t1 closes with
SESSION_DOWN and a back-off of 5 s; t2 and t3 act after 10 and 20 s.
Model's choices: log entries 34 and 39. -/
def Obligations.SessionRows : Prop :=
  ∀ (s : State) (m : Master) (port : Fin 64) (n : Fin 256) (k : Fin 4) (v : Word),
    let i := fld (s.reg .eth port.val 0xD0) 0 8
    let y := (s.ethP port.val).ses i
    let g := s.ethMain port.val
    let x := (s.ethP g).ses n.val
    let down (t : State) := ((t.ethP g).ses n.val).st = 4 ∧ ((t.ethP g).ses n.val).sent = 0 ∧ ((t.ethP g).ses n.val).vs = 0 ∧
      ((t.ethP g).ses n.val).vr = 0 ∧ ((t.ethP g).ses n.val).since = s.wall ∧ (x.st = 3 → bit (t.reg .eth g 0x010) 7 = true)
    (s.grants m 1 .eth port.val (0xD4 + 4 * k.val) = true →
      (y.en = false → k.val = 0 → exec (.sessDataWrite m port k v) s = .next (s.setSes port.val i { y with data0 := v })) ∧
      (y.en = false → k.val = 1 → bit v 29 = false →
        exec (.sessDataWrite m port k v) s = .next (s.setSes port.val i { y with data1 := v &&& 0x3FFFFFFF })) ∧
      (y.en = false → k.val = 1 → bit v 29 = true → port.val = g → s.sisterPort port.val = false → s.fieldOff = false →
        ∃ t, exec (.sessDataWrite m port k v) s = .next t ∧ ((t.ethP port.val).ses i).st = 1 ∧
          ((t.ethP port.val).ses i).data1 = v &&& 0x3FFFFFFF ∧ t.out.getLast? = some (.session port.val i 0) ∧ t.mem = s.mem ∧ t.procs = s.procs) ∧
      (y.en = true → k.val ≠ 1 → exec (.sessDataWrite m port k v) s = .next (s.reject .eth port.val (0xD4 + 4 * k.val) v)) ∧
      (y.en = true → k.val = 1 → bit v 29 = false → ∃ t, exec (.sessDataWrite m port k v) s = .next t ∧
        ((t.ethP port.val).ses i).st = 0 ∧ ((t.ethP port.val).ses i).data1 = v &&& 0x3FFFFFFF ∧ t.mem = s.mem)) ∧
    (x.en = true →
      (x.st = 1 → x.iec = true → exec (.sessionEstablished port n) s =
        .next ((s.setSes g n.val { x with st := 2, since := s.wall, t1At := s.wall }).emit (.session g n.val 1))) ∧
      (x.st = 1 → x.iec = false → exec (.sessionEstablished port n) s = .next (s.setSes g n.val { x with st := 3, since := s.wall })) ∧
      (x.st = 2 → x.iec = true → exec (.startdtConfirmed port n) s =
        .next (s.setSes g n.val { x with st := 3, since := s.wall, sent := 0, vs := 0, recv := 0, vr := 0, t3At := s.wall })) ∧
      (x.st ≠ 0 → x.st ≠ 4 → (∃ t, exec (.sessionFailure port n) s = .next t ∧ down t ∧ t.mem = s.mem) ∧
        exec (.tcpRetransmitTimeout port n) s = .next (s.emit (.session g n.val 5))) ∧
      (x.st = 4 → x.since + 5000000 * usUnits ≤ s.wall → exec (.backoffExpiry port n) s =
        .next ((s.setSes g n.val { x with st := 1, since := s.wall }).emit (.session g n.val 0))) ∧
      (x.iec = true → x.st = 3 →
        (0 < x.sent → x.t1At + 15000000 * usUnits ≤ s.wall → ∃ t, exec (.iec104T1Expiry port n) s = .next t ∧ down t ∧ t.mem = s.mem) ∧
        (0 < x.recv → x.t2At + 10000000 * usUnits ≤ s.wall → exec (.iec104T2Expiry port n) s =
          .next ((s.setSes g n.val { x with recv := 0, t3At := s.wall }).emit (.session g n.val 3))) ∧
        (x.t3At + 20000000 * usUnits ≤ s.wall → exec (.iec104T3Expiry port n) s =
          .next ((s.setSes g n.val { x with testing := true, t3At := s.wall, t1At := if x.sent = 0 then s.wall else x.t1At }).emit
            (.session g n.val 4)))))

/-- R280-R288 and R290, a field serial port: CFG while disabled or to disable; characters gathered, framing errors and breaks discarding
with their PSTKY bits; an FT1.2 frame that checks delivered to its partner, one that does not discarded; GAP frames to a legacy
queue; lead, start, end with the entry freed, lag and driver release, turnaround and retry.
Model's choices: log entries 35, 37 and 38. -/
def Obligations.SerialRows : Prop :=
  ∀ (s : State) (m : Master) (k : Fin 192) (v : Word) (ch : BitVec 9) (parity : Bool) (e : Egress) (echo : List Byte) (len p : Nat) (c : Ctx)
      (tx : FsTx),
    let x := s.fsP k.val
    let b := k.val / 16
    let cfg := s.fsR k.val 0
    let pstky (t : State) (j : Nat) := bit (t.fsR k.val 0x1C) j = true
    (s.grants m 1 .fsp b (fsReg k.val 0) = true →
      (s.fsEn k.val = false → fld v 1 2 = 3 ∨ fld v 3 2 = 3 ∨ 6 ≤ fld v 6 3 →
        exec (.fsCfgWrite m k v) s = .next (s.reject .fsp b (fsReg k.val 0) v)) ∧
      (s.fsEn k.val = false → fld v 1 2 ≠ 3 → fld v 3 2 ≠ 3 → fld v 6 3 < 6 → ∃ t, exec (.fsCfgWrite m k v) s = .next t ∧
        t.fsR k.val 0 = v &&& 0x3FFFFF ∧ t.egress = s.egress ∧ t.mem = s.mem ∧ t.procs = s.procs) ∧
      (s.fsEn k.val = true → bit v 0 = true → exec (.fsCfgWrite m k v) s = .next (s.reject .fsp b (fsReg k.val 0) v)) ∧
      (s.fsEn k.val = true → bit v 0 = false → ∃ t, exec (.fsCfgWrite m k v) s = .next t ∧ t.fsEn k.val = false ∧ (t.fsP k.val).rx = [] ∧
        (t.fsP k.val).tx = none ∧ (∀ e ∈ t.egq (64 + k.val), e.released = false) ∧ t.mem = s.mem ∧ t.procs = s.procs)) ∧
    (s.fsListens k.val = true →
      (s.fsDelim k.val = 0 → fld cfg 1 2 ≠ 2 → x.rxBad = false → x.rx.length < 1024 → ∃ t,
        exec (.fsCharacterReceived k ch true true) s = .next t ∧ (t.fsP k.val).rx = x.rx ++ [ch.setWidth 8] ∧ (t.fsP k.val).rxLast = s.wall ∧
          t.regs = s.regs ∧ t.mem = s.mem) ∧
      (∃ t, exec (.fsCharacterReceived k ch parity false) s = .next t ∧ (t.fsP k.val).rx = [] ∧ pstky t 0 ∧ t.ingress = s.ingress)) ∧
    (s.fsEn k.val = true →
      (b ∉ s.pwr.vioBad → ∃ t, exec (.fsBreak k) s = .next t ∧ (t.fsP k.val).rx = [] ∧ (t.fsP k.val).brk = true ∧ pstky t 2) ∧
      (s.fsDelim k.val = 2 → s.l101 k.val = false → ftLen x.rx = some len → len ≤ x.rx.length →
        (ftOk x.rx = true → s.fsMatch k.val x.rx = some (p, c) → c.enabled = true → ∃ t en, exec (.fsFrameReceived k) s = .next t ∧
          t.ingress = s.ingress ++ [en] ∧ en.src = 64 + k.val ∧ en.partner = p ∧ en.telemetry = true ∧ en.env = x.rx ∧
          (t.fsP k.val).rx = [] ∧ t.mem = s.mem) ∧
        (ftOk x.rx = false → ∃ t, exec (.fsFrameReceived k) s = .next t ∧ (t.fsP k.val).rx = [] ∧ pstky t 4 ∧ t.ingress = s.ingress)) ∧
      (s.fsDelim k.val = 0 → x.rx ≠ [] → fld (s.fsR k.val 0xC) 0 8 * s.fsChar k.val ≤ s.wall - x.rxLast →
        (s.legacyCourse (1024 + 64 + k.val)).isSome = true → ∃ t en, exec (.fsIdleTimeout k) s = .next t ∧
          t.ingress = s.ingress ++ [en] ∧ en.src = 64 + k.val ∧ en.cls = 1024 + 64 + k.val ∧ en.env = x.rx ∧ (t.fsP k.val).rx = []) ∧
      (s.fsNext k.val = some tx → s.fsFull k.val = false → x.phase = .idle → s.fsIdleOk k.val = true → x.rx = [] →
        (match tx with | .frame e => max e.at_ x.ready + 144 | _ => x.ready + 144) ≤ s.stroke →
        exec (.fsLeadStart k) s = .next (s.setFs k.val { x with phase := .lead, since := s.wall, de := true, tx := some tx }))) ∧
    (x.phase = .lead → x.since + fld (s.fsR k.val 8) 0 8 * s.fsBit k.val ≤ s.wall →
      exec (.fsTxStart k) s = .next (s.setFs k.val { x with phase := .sending, since := s.wall })) ∧
    (x.phase = .sending → x.tx = some (.frame e) → s.fsFull k.val = false → ∃ t, exec (.fsTxDone k echo) s = .next t ∧
      (t.fsP k.val).phase = .lag ∧ (t.fsP k.val).since = s.wall ∧ t.egq (64 + k.val) = (s.egq (64 + k.val)).erase e ∧ e.tag ∉ t.released ∧
      (bit cfg 10 = true → echo ≠ s.fsBytes k.val (.frame e) → pstky t 6) ∧ t.mem = s.mem ∧ t.procs = s.procs) ∧
    (x.phase = .lag → x.since + fld (s.fsR k.val 8) 8 8 * s.fsBit k.val ≤ s.wall → s.fsEn k.val = true → ∃ t,
      exec (.fsDriverRelease k) s = .next t ∧ (t.fsP k.val).de = false ∧
        (t.fsP k.val).phase = (if x.await = true ∨ fld (s.fsR k.val 0xC) 8 16 ≠ 0 then .turn else .idle) ∧ t.regs = s.regs) ∧
    (x.phase = .turn →
      (x.await = false → x.since + fld (s.fsR k.val 0xC) 8 16 * 1000 * usUnits ≤ s.wall →
        exec (.fsTurnExpiry k) s = .next (s.setFs k.val { x with phase := .idle, ready := s.stroke, since := s.wall })) ∧
      (x.await = true → x.since + fld (s.fsR k.val 0x10) 5 16 * 1000 * usUnits ≤ s.wall → x.tries < fld (s.fsR k.val 0x10) 0 3 → ∃ t,
        exec (.l101AckTimeout k) s = .next t ∧ (t.fsP k.val).tries = x.tries + 1 ∧ (t.fsP k.val).again = true ∧ (t.fsP k.val).await = false ∧
          (t.fsP k.val).phase = .idle ∧ t.regs = s.regs ∧ t.egress = s.egress))

/-- R72, R144-R159 and R163, the mortar: a message whose beats have crossed the mesh reaches tile scratch, a write with its acknowledge and
a read with its word, each on its way back over the route from the target, and the link directions that corrected a bit of it count that;
one that has not is not delivered; a free beat crosses no slot that a course owns; an address beyond 40 bits faults; an uncorrectable beat
is discarded and counted, a lost link is fenced, and the test of a fenced link records its result.
Model's choices: log entries 12, 13, 72 and 90. -/
def Obligations.MortarRows : Prop :=
  ∀ (s : State) (m : Master) (g : Msg) (d : Fin 120) (v : Word) (ok : Bool) (corr : List (Fin 120)) (p : ProcId) (back : List Nat),
    let s0 : State := ({ s with mort := { s.mort with
      msgs := s.mort.msgs.erase g, flights := s.mort.flights.filter fun f => decide (f.body ≠ .req g) } } : State).countCorr corr
    let sel := fld (s.reg .mort 0 0x40) 0 7
    (2 ^ 40 ≤ g.addr → exec (.mortarDelivery ⟨g, corr⟩) s = .fault .outsideAddressSpace) ∧
    (g ∈ s.mort.msgs → g.addr < 2 ^ 40 → s.arrived g = false → exec (.mortarDelivery ⟨g, corr⟩) s = .next s) ∧
    (g ∈ s.mort.msgs → s.arrived g = true → 0x30000000 ≤ g.addr → g.addr < 0x31000000 → g.addr % 4 = 0 → inPlane g.addr = false →
      s.targetAsleep g.addr = false → g.size = 4 →
      (g.kind = .write → exec (.mortarDelivery ⟨g, corr⟩) s = .next ((s0.putWord g.addr g.word).acknowledge g)) ∧
      (g.kind = .read → s.isBad g.addr = false → (s.word g.addr).tag ≠ Tag.key →
        exec (.mortarDelivery ⟨g, corr⟩) s = .next (s0.respond g false false g.addr (s.word g.addr)))) ∧
    (g.src = .proc p → s.route? (nodeOf g.addr) (masterNode g.src) = some back → ∀ w,
      let f : Flight := { body := .resp g (respOf p g false false g.addr w), sched := g.sched, owner := g.owner.val, route := back,
                          start := s.answerAt g, head := s.answerAt g + 1 }
      s.respond g false false g.addr w = { s with mort := { s.mort with flights := s.mort.flights ++ [f] } }) ∧
    (∀ e, e < 120 → (Sparse.get {} (s.countCorr [d]).mort.link e).corr =
      if e = d.val then satInc (Sparse.get {} s.mort.link e).corr 0xFFFF else (Sparse.get {} s.mort.link e).corr) ∧
    (s.owners d.val s.stroke ≠ [] → s.freeBeat d.val = s) ∧
    (∃ t, exec (.beatUncorrectable g d) s = .next t ∧ (∀ o ∈ t.mort.msgs, o ∈ s.mort.msgs.erase g) ∧ bit (t.reg .mort 0 0x010) 1 = true ∧
      ((Sparse.get {} s.mort.link d.val).lastUe = none → t.mort.msgs = s.mort.msgs.erase g ∧ t.linkFenced d.val = s.linkFenced d.val) ∧
      (Sparse.get {} t.mort.link d.val).uncorr = satInc (Sparse.get {} s.mort.link d.val).uncorr 0xFF ∧
      (∀ t0, (Sparse.get {} s.mort.link d.val).lastUe = some t0 → s.stroke < t0 + 1200000 → t.linkFenced d.val = true) ∧ t.mem = s.mem ∧
      t.procs = s.procs) ∧
    (∃ t, exec (.linkIdleLoss d) s = .next t ∧ t.linkFenced d.val = true ∧ (s.linkFenced d.val = true → t = s) ∧ t.mem = s.mem) ∧
    (s.grants m 1 .mort 0 0x48 = true → bit v 0 = true →
      (s.linkFenced sel = true → s.mort.test = none →
        exec (.linkTestStart m v) s = .next { s with mort := { s.mort with test := some sel } }) ∧
      (s.mort.test.isSome = true → exec (.linkTestStart m v) s = .next (s.reject .mort 0 0x48 v)) ∧
      (s.linkFenced sel = false → exec (.linkTestStart m v) s = .next (s.reject .mort 0 0x48 v))) ∧
    (∀ d0, s.mort.test = some d0 → ∃ t, exec (.linkTestDone ok) s = .next t ∧ t.mort.test = none ∧
      (Sparse.get {} t.mort.link d0).testOk = ok ∧ (Sparse.get {} t.mort.link d0).testFail = (!ok) ∧ t.regs = s.regs ∧ t.mem = s.mem)

/-! ### Pair mode and service (R56, R360-R366) -/

/-- R56, R231, R233 and R360-R366: the standby takes each streamed mark, acknowledges it and stays eligible only without a gap; an acknowledgement
or its timeout lets a held release take effect; the stream's silence ends eligibility; the link and the resync restore it; the
watchdog demotes the active device and empties what it would send; an eligible standby takes over; SERVE follows the life-cycle
state, the role, the configuration record and the mirror pairs (R303, R394), and with it CLEAN returns to 0 and the contexts not yet
restored take their values (R231, R233).
Model's choices: log entry 41. -/
def Obligations.PairModeRows : Prop :=
  ∀ (s : State) (m : Master) (g : StreamMsg) (num tag port t0 : Nat) (p : Fin 4096) (area : List Byte) (v : Word),
    let x := s.pairM
    let c := s.ctx g.partner.val
    (x.role = 2 → ∃ t, exec (.markStreamReceived g) s = .next t ∧ t.pairM.expect = g.num + 1 ∧ t.pairM.lastMsg = s.wall ∧
      t.out.getLast? = some (.sister 1 g.num 0) ∧
      (g.num = x.expect → c.version = g.version → t.pairM.eligible = x.eligible) ∧
      (g.num ≠ x.expect ∨ c.version ≠ g.version → t.pairM.eligible = false ∧ bit (t.reg .sys 0 0x010) 5 = true) ∧
      (g.mark = true → s.ptn.draining = false → c.hw < g.seq → c.ringYoung s.stroke = false → (t.ctx g.partner.val).hw = g.seq) ∧
      t.mem = s.mem ∧ t.procs = s.procs) ∧
    (x.role = 2 → exec (.releaseNoticeReceived tag) s =
      .next { s with pairM := { x with open_ := x.open_.filter (fun e => decide (e.2.2.1 ≠ tag)), lastMsg := s.wall } }) ∧
    (x.role = 1 → x.held = [(port, tag, t0)] → x.unacked = [(num, tag)] → exec (.markAckReceived num) s =
      .next (({ s with pairM := { x with unacked := [], held := [] } } : State).release port tag)) ∧
    (x.role = 1 → x.held = [(port, tag, t0)] → t0 + 12000 ≤ s.stroke → exec .pairAckTimeout s =
      .next (({ s with pairM := { x with alone := true, held := [] } } : State).release port tag)) ∧
    (x.role = 2 → x.lastMsg + 10 * usUnits ≤ s.wall → exec .streamTimeout s =
      .next (({ s with pairM := { x with eligible := false } } : State).setSticky .sys 0 5)) ∧
    (s.pairSet = true → ∃ t, exec .sisterLinkUp s = .next t ∧
      t.pairM = { x with link := true, alone := false, resync := true, unacked := [], lastMsg := s.wall } ∧ t.regs = s.regs ∧ t.mem = s.mem) ∧
    (x.role = 2 → (s.ctx p.val).version ≠ 0 → ∃ t, exec (.resyncDone [(p, area)]) s = .next t ∧
      t.ctx p.val = (s.ctx p.val).takeMutable area ∧ t.pairM = { x with eligible := true, resync := false, lastMsg := s.wall } ∧
      (∀ p', p' ≠ p.val → t.ctx p' = s.ctx p') ∧ t.regs = s.regs ∧ t.mem = s.mem) ∧
    (s.grants m 1 .sys 0 0x050 = true → bit v 0 = true → s.pairSet = true →
      exec (.pairKick m v) s = .next { s with pairM := { x with kick := s.wall } }) ∧
    (x.role = 1 → x.kick + fld (s.reg .sys 0 0x48) 2 10 * usUnits ≤ s.wall → ∃ t, exec .pairWatchdogExpiry s = .next t ∧ t.pairM.role = 3 ∧
      t.pairM.held = [] ∧ bit (t.reg .sys 0 0x010) 4 = true ∧ (∀ k, k < 192 → (t.fsP k).de = false) ∧
      (∀ q, q < 256 → ∀ e ∈ t.egq q, e.released = false) ∧ (∀ k, k < 16 → (t.cx k).queue = []) ∧ t.procs = s.procs) ∧
    (x.role = 2 →
      (x.eligible = false → exec .pairPeerLowTimeout s = .next (({ s with pairM := { x with peer := false } } : State).setSticky .sys 0 2)) ∧
      (x.eligible = true → ∃ t, exec .pairPeerLowTimeout s = .next t ∧ t.pairM.role = 1 ∧ t.pairM.open_ = [] ∧ t.pairM.kick = s.wall ∧
        bit (t.reg .sys 0 0x010) 3 = true ∧ t.procs = s.procs)) ∧
    (s.grants m 1 .sys 0 0x040 = true →
      (bit v 8 = false → exec (.serveWrite m v) s = .next (s.setServe false)) ∧
      (bit v 8 = true → s.lcState = 3 ∨ s.lcState = 4 → s.fieldOff = false → s.kst.cfgFail = false → s.mirrorLost = false →
        ∃ t, exec (.serveWrite m v) s = .next t ∧ bit (t.reg .sys 0 0x040) 8 = true ∧ t.dual.boot = false ∧ t.bbNat 0x8000 4 = 0 ∧
        (∀ k, (s.ctx k).version ≠ 0 → k ∉ s.ptn.restored → k < 4096 → (t.ctx k).window = BitVec.allOnes 1024 ∧ (t.ctx k).ring = [] ∧
          (s.kst.hwLost = false → (t.ctx k).hw = s.bbNat (8 * k) 8 ∧ (t.ctx k).fence = 0) ∧
          (s.kst.hwLost = true → (t.ctx k).hw = max (Sparse.get 0 s.flc.ckpt k) (s.flashHw k))) ∧
        (∀ k, k ∈ s.ptn.restored → t.ctx k = s.ctx k) ∧ t.mem = s.mem ∧ t.procs = s.procs) ∧
      (bit v 8 = true → s.lcState = 3 ∨ s.lcState = 4 → s.fieldOff = true ∨ s.kst.cfgFail = true ∨ s.mirrorLost = true →
        exec (.serveWrite m v) s = .next { s with dual := { s.dual with boot := false } }) ∧
      (bit v 8 = true → s.lcState ≠ 3 → s.lcState ≠ 4 → exec (.serveWrite m v) s = .next (s.reject .sys 0 0x040 v)))

/-! ### The flash controller (R434-R445) -/

/-- R434 and R437-R443: the two keys open a sequence, and a wrong one abandons it; at its last write an erase, SWAP, RETIRE or PROGRAM
begins where no test refuses it, and a PROGRAM of a range that is not erased is refused; an erase is suspended and resumed; a
command that ends well has its effect on its range alone; a read gives the word, or the status word of a busy bank.
Model's choices: log entries 1 and 42. -/
def Obligations.FlashRows : Prop :=
  ∀ (s : State) (m : Master) (v : Word) (c : FCmd) (addr pulses : Nat),
    let x := s.flc
    let key := fld v 0 16
    let o := fld v 0 25
    let idle := s.pwr.warn = none ∧ x.run = none ∧ x.pend = none ∧ x.susp = none
    let started (t : State) (d : FCmd) := t.flc.run = some d ∧ t.flc.seq = 0 ∧ t.flc.done = false ∧ t.flc.error = false ∧
      t.flc.code = d.code ∧ t.flc.bytes = x.bytes ∧ t.mem = s.mem ∧ t.procs = s.procs
    (s.grants m 1 .flc 0 0x040 = true →
      (x.seq = 0 → key = 0x7EA5 → exec (.flashKey m v) s = .next { s with flc := { x with seq := 1, seqAt := s.wall, seqData := [] } }) ∧
      (x.seq = 1 → key = 0x1C3B → exec (.flashKey m v) s = .next { s with flc := { x with seq := 2 } }) ∧
      (x.seq = 0 → key ≠ 0x7EA5 → exec (.flashKey m v) s =
        .next (({ s with flc := { x with seq := 0, seqData := [] } } : State).setSticky .flc 0 7))) ∧
    (x.seq ≠ 0 → x.seqAt + 100 * usUnits ≤ s.wall → exec .flashSeqTimeout s =
      .next (({ s with flc := { x with seq := 0, seqData := [] } } : State).setSticky .flc 0 7)) ∧
    (s.grants m 1 .flc 0 0x048 = true → x.seq = 3 → idle →
      (∀ r ∈ [(Instr.sectorErase m v, 2, 8192), (.blockErase m v, 3, 65536)], x.seqCode = r.2.1 → o % r.2.2 = 0 → s.flProtected o = false →
        (flBank o = 1 → s.logBusy = false) → ∃ t, exec r.1 s = .next t ∧ started t { code := r.2.1, off := o }) ∧
      (x.seqCode = 6 → ∃ t, exec (.flashSwap m v) s = .next t ∧ started t { code := 6, off := o }) ∧
      (x.seqCode = 7 → o % 8192 = 0 → within o logBase 0x200000 = false → within o (twinBase s.kst.twin) 0x200000 = false →
        (if flBank o = 0 then x.spares0 else x.spares1) < 16 → (flBank o = 1 → s.logBusy = false) →
        ∃ t, exec (.flashRetire m v) s = .next t ∧ started t { code := 7, off := o })) ∧
    (s.grants m 1 .flc 0 0x068 = true → x.seq = 11 → idle → s.flProtected x.seqAddr = false → (flBank x.seqAddr = 1 → s.logBusy = false) →
      ((∀ b ∈ s.flBytes x.seqAddr 32, b = 0xFF) → ∃ t, exec (.flashProgram m v) s = .next t ∧
        started t { code := 1, off := x.seqAddr, data := (x.seqData ++ [v]).flatMap fun w => leBytes 4 w.toNat }) ∧
      ((∃ b ∈ s.flBytes x.seqAddr 32, b ≠ 0xFF) → exec (.flashProgram m v) s =
        .next (({ s with flc := { x with seq := 0, seqData := [] } } : State).setSticky .flc 0 0 0x68 1))) ∧
    (s.grants m 1 .flc 0 0x044 = true → x.seq = 0 → s.pwr.warn = none →
      (x.run = some c → c.erase = true → x.suspCount < 64 → exec (.flashSuspend m v) s =
        .next { s with flc := { x with susp := some c, run := none, suspCount := x.suspCount + 1 } }) ∧
      (x.run = none → exec (.flashSuspend m v) s = .next (s.setSticky .flc 0 0 0x44 4)) ∧
      (x.susp = some c → x.run = none → exec (.flashResume m v) s =
        .next { s with flc := { x with run := some c, susp := none, done := false, code := c.code } })) ∧
    (x.run = some c →
      (c.code = 2 ∨ c.code = 3 →
        (∃ t, exec (.flashCommandDone pulses true) s = .next t ∧ t.flc.run = none ∧ t.flc.done = true ∧ t.flc.error = false ∧
          (∀ a, c.range.1 ≤ a → a < c.range.1 + c.range.2 → t.flByte a = 0xFF) ∧
          (∀ a, a < c.range.1 ∨ c.range.1 + c.range.2 ≤ a → t.flByte a = s.flByte a) ∧ t.regs = s.regs ∧ t.mem = s.mem) ∧
        (∃ t, exec (.flashCommandDone pulses false) s = .next t ∧ t.flc.run = none ∧ t.flc.error = true ∧
          bit (t.reg .flc 0 0x010) 5 = true ∧ (∀ a, a < c.range.1 ∨ c.range.1 + c.range.2 ≤ a → t.flByte a = s.flByte a))) ∧
      (c.code = 1 → c.data.length = 32 → pulses ≤ 64 → ∃ t, exec (.flashCommandDone pulses true) s = .next t ∧ t.flc.run = none ∧
        t.flc.error = false ∧ (∀ i, i < 32 → t.flByte (c.off + i) = c.data.getD i 0) ∧
        (∀ a, a < c.off ∨ c.off + 32 ≤ a → t.flByte a = s.flByte a) ∧ t.mem = s.mem)) ∧
    (let a := addr / 4 * 4
     let f := a - flashWindow
     flashWindow ≤ a → a < flashWindow + 2 ^ 25 → m ≠ .debug → s.barred m 0 a 4 = none →
      (s.bankBusy (flBank f) = false → x.susp = none → f / 4 ∉ x.bad → exec (.flashRead m addr) s =
        .next (s.emit (.readData m [TWord.int (leWord (s.flBytes f 4))]))) ∧
      (s.bankBusy (flBank f) = true → exec (.flashRead m addr) s =
        .next (s.emit (.readData m [TWord.int (s.flcSts ||| 0x80000000)]))))

/-! ### Power domains, clocks and resets (R479-R493, R496) -/

/-- R479-R482, R486, R487, R492 and R496: a domain idle for IDLE_HOLD goes to self-refresh or OFF, losing what it holds; a need wakes it and its
memories come up at NONE, a course with its supervisor core at its firmware; a wake that takes twice its time sets WAKE_FAIL and
fences a course; OFF_REQ serves the partner and SGRAM
domains alone; lock, temperature and supply inputs set their record.
Model's choices: log entries 47, 48 and 49. -/
def Obligations.DomainRows : Prop :=
  ∀ (s : State) (m : Master) (d : Fin 36) (b : Fin 12) (w : Fin 3) (v : Word) (high : Bool),
    let st := s.domState d.val
    let rq := fld v 0 6
    let rw := putBit v 6 true
    (7 ≤ d.val → d.val ≠ 28 → d.val ≠ 29 → d.val ≠ 35 → st = .on → s.domAuto d.val = true → s.domNeed d.val = false → s.domForce d.val = false →
      s.domHeld d.val = true → ∃ t, exec (.domainIdleExpiry d) s = .next t ∧ t.domState d.val = (if d.val = 30 ∨ d.val = 31 then .selfRefresh else .off) ∧
        (d.val = 30 ∨ d.val = 31 → (∀ c ∈ sideChannels d.val, (t.sg c).selfRef = true) ∧ t.mem = s.mem) ∧
        (∀ c, c < 16 → d.val = 7 + c → ∀ a, sharedBase c ≤ a → a < sharedBase c + 0x80000 → t.byte a = 0)) ∧
    (7 ≤ d.val → d.val ≠ 28 → d.val ≠ 35 → s.archOn = true → st = .off ∨ st = .selfRefresh → s.domNeed d.val = true ∨ s.domForce d.val = true →
      ∃ t, exec (.domainWake d) s = .next t ∧ t.domState d.val = .waking ∧ Sparse.get 0 t.pwr.wakeAt d.val = s.wall ∧ t.mem = s.mem ∧
        t.procs = s.procs) ∧
    (7 ≤ d.val → st = .waking →
      (∃ t, exec (.domainWakeDone d) s = .next t ∧ t.domState d.val = .on ∧
        (∀ c, c < 16 → d.val = 7 + c → (∀ a, sharedBase c ≤ a → a < sharedBase c + 0x80000 → t.byte a = 0) ∧
          (∀ tl : Fin 16, t.proc (.tile (Fin.ofNat 16 c) tl) = {}) ∧
          (t.proc (.cox (Fin.ofNat 16 c))).running = true ∧ (t.proc (.cox (Fin.ofNat 16 c))).super = true)) ∧
      (Sparse.get 0 s.pwr.wakeAt d.val + 2 * s.wakeUs d.val * usUnits ≤ s.wall → ∃ t, exec (.domainWakeFail d) s = .next t ∧
        t.domState d.val = .off ∧ bit (t.reg .pwr 0 0x010) 2 = true ∧ (d.val < 23 → t.pfence (d.val - 7) 8 = true))) ∧
    (s.grants m 1 .pwr 0 0x064 = true →
      (rq = 29 ∨ rq = 30 ∨ rq = 31 → s.domNeed rq = false → s.domForce rq = false → bit (s.reg .jnl 0 0x40) 0 = false →
        ∃ t, exec (.offReq m v) s = .next t ∧ t.domState rq = .off ∧ t.reg .pwr 0 0x64 = rw &&& 0x3F ∧ t.procs = s.procs) ∧
      (rq ≠ 29 → rq ≠ 30 → rq ≠ 31 → exec (.offReq m v) s = .next ((s.setReg .pwr 0 0x64 (rw &&& 0x3F)).reject .pwr 0 0x64 rw))) ∧
    exec (.pllLockLost true) s = .next (({ s with pwr := { s.pwr with strokeLock := false } } : State).setSticky .clk 0 2) ∧
    exec (.pllLockLost false) s = .next (({ s with pwr := { s.pwr with ksLock := false } } : State).setSticky .clk 0 2) ∧
    exec .refClkLost s = .next (({ s with pwr := { s.pwr with refOk := false } } : State).setSticky .clk 0 3) ∧
    exec .thermalEnter s = .next { s with pwr := { s.pwr with hot := true } } ∧
    exec .thermalExit s = .next { s with pwr := { s.pwr with hot := false } } ∧
    exec (.bankVddioLost b) s = .next { s with pwr := { s.pwr with vioBad := b.val :: s.pwr.vioBad.erase b.val } } ∧
    (∃ t, exec (.bankVddioRestored b high) s = .next t ∧ t.pwr.vioBad = s.pwr.vioBad.erase b.val ∧ t.regs = s.regs ∧ t.mem = s.mem ∧
      (high = true → b.val ∈ t.pwr.vioHigh)) ∧
    (∃ t, exec (.pllLockRegained w) s = .next t ∧ (w.val = 0 → t.pwr.refOk = true) ∧ (w.val = 1 → t.pwr.strokeLock = true) ∧
      (w.val = 2 → t.pwr.ksLock = true) ∧ t.regs = s.regs ∧ t.mem = s.mem)

/-- R231, R484, R485 and R488-R493: a warning records its cause, begins the drain and sends alarms to the ring; a device reset clears all
but the always-on domain, OTP, ROM and flash and counts in BOOTS; an Arch reset keeps the Keystone die; a course reset clears the
tiles of the course, whose supervisor core then starts; the rails' rows clear as their scope says, and a loss without a warning records the
shutdown time.
Model's choices: log entries 45, 46, 48 and 92. -/
def Obligations.ResetRows : Prop :=
  ∀ (s : State) (m : Master) (c : Fin 16) (v : Word) (t0 : Nat),
    let warned (t : State) (cause : Nat) := t.pwr.warn = some s.wall ∧ t.pwr.paddle = false ∧ t.ptn.draining = true ∧ t.aon.toRing = true ∧
      t.aon.shutdown = some (s.rtcNow + 50000) ∧ bit t.aon.cause cause = true ∧ t.procs = s.procs ∧ t.mem = s.mem
    let cleared (t : State) := t.archOn = false ∧ t.procs = coldProcs ∧ (∀ p : ProcId, (t.proc p).running = false) ∧ t.svc = 0 ∧ t.pending = s.pending ∧
      (∀ a, 0x40000 ≤ a → t.byte a = 0) ∧ (∀ a, a < 0x40000 → t.byte a = s.byte a)
    let quiet := s.lcs.target = none ∧ s.lcs.tokTarget = none ∧ s.flc.run = none
    let cs := fld v 8 4
    (s.aon.mainPower = true → s.pwr.warn = none →
      (∃ t, exec (.powerFailWarning false) s = .next t ∧ warned t 3) ∧
      (∃ t, exec (.powerFailWarning true) s = .next t ∧ warned t 3 ∧ bit t.aon.cause 4 = true) ∧
      (∃ t, exec .rstNAssert s = .next t ∧ warned t 2) ∧
      (s.grants m 1 .rst 0 0x048 = true → ∃ t, exec (.resetReqDevice m v) s = .next t ∧ warned t 10)) ∧
    (s.pwr.warn = some t0 → t0 + 150 * usUnits ≤ s.wall → quiet → ∃ t, exec .deviceReset s = .next t ∧ cleared t ∧
      t.aon = { s.aon with boots := satInc s.aon.boots 0xFFFF } ∧ t.flc.bytes = s.flc.bytes ∧ t.pwr.warn = none) ∧
    (s.grants m 1 .rst 0 0x048 = true →
      (s.svc = 0 → s.pwr.warn = none → ∃ t, exec (.resetReqArch m v) s = .next t ∧ (∀ k : Fin 2, t.proc (.ks k) = s.proc (.ks k)) ∧
        (∀ c tl, t.proc (.tile c tl) = {}) ∧ (∀ a, a < 0x04000000 → t.byte a = s.byte a) ∧ (∀ a, 0x04000000 ≤ a → t.byte a = 0) ∧
        t.kst = s.kst ∧ t.flc = s.flc ∧ t.lcs = s.lcs ∧ bit t.aon.cause 11 = true ∧ t.dbg.rights = 0 ∧ t.pending = s.pending) ∧
      (s.svc ≠ 0 → ∃ w, exec (.resetReqArch m v) s = .next ((s.setReg .rst 0 0x48 (v &&& 0xF00)).reject .rst 0 0x48 w)) ∧
      (s.pwr.warn = none → s.pfence cs 8 = true ∨ s.tablesEmpty cs = true → ∃ t, exec (.resetReqCourse m v) s = .next t ∧
        (∀ tl : Fin 16, t.proc (.tile (Fin.ofNat 16 cs) tl) = {}) ∧ t.proc (.cox (Fin.ofNat 16 cs)) = { super := true } ∧ (t.cx cs).ready = false ∧
        (cs, s.wall) ∈ t.pwr.courseRst)) ∧
    (s.pwr.courseRst.find? (fun e => decide (e.1 = c.val)) = some (c.val, t0) → t0 + 40 * usUnits ≤ s.wall →
      ∃ t, exec (.courseResetDone c) s = .next t ∧ (∀ tl : Fin 16, t.proc (.tile c tl) = {}) ∧ (t.proc (.cox c)).running = true ∧
        (t.proc (.cox c)).super = true ∧ (∀ e ∈ t.pwr.courseRst, e.1 ≠ c.val) ∧
        t.regs = s.regs) ∧
    (quiet → s.aon.mainPower = false →
      (∃ t, exec .mainPowerOn s = .next t ∧ cleared t ∧ t.aon = { s.aon with mainPower := true, cause := putBit s.aon.cause 1 true }) ∧
      (∃ t, exec .vbatPowerOn s = .next t ∧ cleared t ∧ t.aon = { vbat := true, cause := 1 } ∧ t.regs = [])) ∧
    (quiet → s.aon.mainPower = true → ∃ t, exec .mainPowerLoss s = .next t ∧ cleared t ∧ t.aon.mainPower = false ∧ t.aon.toRing = true ∧
      t.flc.bytes = s.flc.bytes ∧ (s.pwr.warn = none → t.aon.shutdown = some (s.rtcNow + 50000))) ∧
    (s.grants m 1 .rst 0 0x044 = true → bit v 0 = true → exec (.causeClear m v) s =
      .next { s with aon := { s.aon with cause := s.aon.cause &&& 0xFFFFF000 } })

/-! ### Tamper monitors and the evidence log (R416-R433) -/

/-- R418-R425, R427, R428 and R431: an alarm of an enabled channel sets its bit, applies its effective level and puts one entry on the log
queue, or in the ring; the zeroisation of an Erase clears BBRAM, the keys and the key planes; alarms clear only where the condition is
gone; tests, sweeps, the ring and the log take the writes the rules allow.
Model's choices: log entries 50 and 51. -/
def Obligations.TamperRows : Prop :=
  ∀ (s : State) (m : Master) (c : Fin 128) (k : Fin 4) (v trips : Word),
    let lv := s.effLevel c.val
    let src := fld v 0 7
    let v1 := putBit (putBit v 8 false) 7 true
    let v2 := putBit v 8 true
    let typ := fld (s.reg .elg 0 0x44) 0 8
    (s.monActive c.val = true → s.monEn c.val = true → s.alarm c.val = false → s.tmp.testing.head? ≠ some c.val →
      (s.ringing = false → s.elgReserveFull = false → ∃ t, exec (.monitorTrip [c]) s = .next t ∧ t.alarm c.val = true ∧
        bit (t.stky .tmp 0) 2 = true ∧ (∀ c' : Nat, c' < 128 → c' ≠ c.val → t.alarm c' = s.alarm c') ∧
        (lv = 1 → t.aon.hold = true) ∧
        (2 ≤ lv → t.aon.lock = true ∧ t.dbg.rights = 0 ∧ t.reg .tmp 0 0xA8 = s.reg .tmp 0 0xA8 + 1) ∧
        (lv < 2 → t.aon.lock = s.aon.lock ∧ t.dbg = s.dbg ∧ t.reg .tmp 0 0xA8 = s.reg .tmp 0 0xA8) ∧
        t.tmp.erasing = decide (3 ≤ lv ∨ s.tmp.erasing = true) ∧
        (∃ e : LogEntry, t.tmp.qTamper = s.tmp.qTamper ++ [e] ∧ e.typ = 1 ∧ e.level = lv ∧ e.source = c.val) ∧
        t.mem = s.mem ∧ t.procs = s.procs) ∧
      (s.ringing = true → s.aon.ring.length < 64 → lv < 3 → ∃ t, exec (.monitorTrip [c]) s = .next t ∧ t.alarm c.val = true ∧
        (∃ e : RingAlarm, t.aon.ring = s.aon.ring ++ [e] ∧ e.mon = c.val ∧ e.level = lv ∧ e.cell = !s.aon.mainPower) ∧
        t.tmp.qTamper = s.tmp.qTamper ∧ t.mem = s.mem ∧ t.procs = s.procs)) ∧
    (s.tmp.erasing = true → s.tmp.qTamper ≠ [] → ∃ t, exec .eraseZeroiseDone s = .next t ∧ t.tmp.zeroed = true ∧ t.aon.bbValid = false ∧
      (∀ i tl a, i < 16 → tl < 16 → planeBase i tl ≤ a → a < planeBase i tl + 0x2000 → t.byte a = 0) ∧
      (∀ a, ksPlane ≤ a → a < ksPlane + 0x10000 → t.byte a = 0) ∧ (∀ ch, (t.sg ch).keyed = false) ∧ t.ptn.wrapKey = none ∧
      t.tmp.qTamper = s.tmp.qTamper) ∧
    (s.grants m 1 .tmp 0 (0x040 + 4 * k.val) = true → ∃ t, exec (.alarmClear m k v trips) s = .next t ∧
      t.reg .tmp 0 (0x040 + 4 * k.val) = s.reg .tmp 0 (0x040 + 4 * k.val) &&& ~~~(v &&& ~~~trips) ∧ t.aon = s.aon ∧ t.procs = s.procs ∧
      t.mem = s.mem) ∧
    (s.grants m 1 .tmp 0 0x0A4 = true → bit v 0 = true →
      (s.alarmAt 1 = false → exec (.holdRelease m v) s = .next { s with aon := { s.aon with hold := false } }) ∧
      (s.alarmAt 1 = true → exec (.holdRelease m v) s = .next (s.reject .tmp 0 0x0A4 v))) ∧
    (s.grants m 1 .tmp 0 0x090 = true →
      (s.tmp.testing = [] → s.aon.mainPower = true →
        (s.alarm src = false → s.monEn src = true → exec (.tamperTestStart m v) s =
          .next { s.setReg .tmp 0 0x090 (v1 &&& 0x7F) with tmp := { s.tmp with testing := [src], sweep := false } }) ∧
        exec (.tamperSweep m v) s = .next { s.setReg .tmp 0 0x090 (v2 &&& 0x7F) with
          tmp := { s.tmp with testing := (List.range 128).filter fun j => s.monEn j, sweep := true } }) ∧
      (s.tmp.testing ≠ [] ∨ s.aon.mainPower = false →
        exec (.tamperTestStart m v) s = .next ((s.setReg .tmp 0 0x090 (v1 &&& 0x7F)).reject .tmp 0 0x090 v1) ∧
        exec (.tamperSweep m v) s = .next ((s.setReg .tmp 0 0x090 (v2 &&& 0x7F)).reject .tmp 0 0x090 v2))) ∧
    (∀ n r, s.tmp.testing = n :: r → n < 128 →
      (∃ t, exec (.tamperTestDone true) s = .next t ∧ t.tmp.testing = r ∧ t.regs = s.regs) ∧
      (∃ t, exec (.tamperTestDone false) s = .next t ∧ t.tmp.testing = r ∧ bit (t.reg .tmp 0 (0x94 + 4 * (n / 32))) (n % 32) = true ∧
        bit (t.stky .tmp 0) 4 = true)) ∧
    (s.grants m 1 .tmp 0 0x0B4 = true → bit v 0 = true →
      exec (.ringClear m v) s = .next { s with aon := { s.aon with ring := [], ringOver := 0 } }) ∧
    (s.grants m 1 .elg 0 0x068 = true → bit v 0 = true →
      (3 ≤ typ → typ ≤ 0x0E → s.tmp.qFirm.length < 8 → s.elgFull = false → ∃ t e, exec (.logAppend m v) s = .next t ∧
        t.tmp.qFirm = s.tmp.qFirm ++ [e] ∧ e.typ = typ ∧ e.source = fld (s.reg .elg 0 0x44) 16 16 ∧ e.data = s.regBytes .elg 0 0x48 6 ∧
        t.tmp.qTamper = s.tmp.qTamper ∧ t.regs = s.regs ∧ t.mem = s.mem) ∧
      (typ < 2 ∨ 0x0E < typ ∨ 8 ≤ s.tmp.qFirm.length → exec (.logAppend m v) s = .next (s.reject .elg 0 0x068 v)) ∧
      (3 ≤ typ → typ ≤ 0x0E → s.tmp.qFirm.length < 8 → s.elgFull = true → exec (.logAppend m v) s = .next (s.setSticky .elg 0 2))) ∧
    (∀ e r, s.tmp.qTamper = e :: r → s.tmp.next < 32768 → s.tmp.erasing = false →
      ∃ t, exec (.logEntryProgrammed true) s = .next t ∧ t.tmp.next = s.tmp.next + 1 ∧ t.tmp.qTamper = r ∧ t.tmp.qFirm = s.tmp.qFirm ∧
        t.flBytes (0x1200000 + 64 * s.tmp.next) 64 = entryBytes e s.tmp.next ++ s.elgChain s.tmp.next ∧
        (s.kst.stage ≠ 1 → t.nfc = s.nfc) ∧ t.mem = s.mem)

/-! ### Life cycle and debug (R401-R415) -/

/-- R403 and R405-R408: each legal transition starts programming towards its word or token under the conditions of the table; a busy
block, a transition the state does not list and a missing grant are refused with RESULT 0b010 and CMD_REJECT; the end of programming,
which comes after 10 µs for each bit, sets RESULT, ends the debug rights and starts the device reset after 1 ms.
Model's choices: log entries 1 and 67. -/
def Obligations.LifeCycleRows : Prop :=
  ∀ (s : State) (m : Master) (tab : Bool) (i t0 : Nat),
    let x := s.lcs
    let begun (c : Word) (w : BitVec 64) (tok : Option (Nat × BitVec 64)) : Host.Outcome State Fault Refusal :=
      .next { s.setReg .lcs 0 0x04C c with lcs := { x with
        busy := true, result := 0, since := s.wall, resetAt := none, tokTarget := tok
        target := if x.word ||| w = x.word then none else some (x.word ||| w) } }
    let refused (c v : Word) : Host.Outcome State Fault Refusal :=
      .next (({ s.setReg .lcs 0 0x04C c with lcs := { x with result := 2 } } : State).reject .lcs 0 0x04C v)
    let st := s.lcState
    ((m = .debug ∧ st = 15) ∨ s.grants m 1 .lcs 0 0x04C = true →
      (x.busy = false → x.resetAt = none →
        (m = .debug →
          (st = 0 → x.uid ≠ 0 → x.trim = true → (∀ j, j < 8 → Sparse.get [] x.tokDigest j ≠ []) →
            exec (.lcTargetTestLocked m) s = begun 1 0xFFF none) ∧
          (st = 2 → (List.range 8).find? (fun j => decide (s.token j = 0xFFFFFFFF)) = some i →
            exec (.lcTargetTestLocked m) s = begun 1 0 (some (i, 0xFFFFFFFFFFFFFFFF))) ∧
          (st = 1 → s.nextToken = some i → x.fails < 3 → sha384 (s.regBytes .lcs 0 0x50 4) = Sparse.get [] x.tokDigest i →
            exec (.lcTargetTestOpen m) s = begun 2 0 (some (i, 0xFFFFFFFF))) ∧
          (st = 1 → s.nextToken = some i → x.fails < 3 → sha384 (s.regBytes .lcs 0 0x50 4) ≠ Sparse.get [] x.tokDigest i →
            ∃ t, exec (.lcTargetTestOpen m) s = .next t ∧ t.lcs.fails = x.fails + 1 ∧ t.lcs.result = 2 ∧ t.lcs.busy = false ∧
              bit (t.stky .lcs 0) 3 = true ∧ t.mem = s.mem) ∧
          (st = 1 → s.dbg.rights.getLsbD 4 = true → exec (.lcTargetProvision m) s = begun 3 0xFFFFFF none) ∧
          (st = 0 ∨ st = 1 ∨ st = 2 ∨ st = 15 ∨ (st = 5 ∧ s.dbg.rights.getLsbD 5 = true) →
            exec (.lcTargetScrap m) s = begun 6 0xFFFFFFFFFFFFFFF none)) ∧
        (m.isKs = true →
          (st = 3 → s.lcGrant 4 = true → s.svc = 0 → exec (.lcTargetMission m true) s = begun 4 0xFFFFFFFFF none) ∧
          (st = 3 → s.lcGrant 4 = false ∨ s.svc ≠ 0 ∨ tab = false → exec (.lcTargetMission m tab) s = refused 4 0x14) ∧
          (st = 3 ∨ st = 4 → s.lcGrant 5 = true → s.svc = 0 → exec (.lcTargetReturn m) s = begun 5 0xFFFFFFFFFFFF none) ∧
          (st = 3 ∨ st = 4 ∨ st = 5 → s.lcGrant 6 = true → exec (.lcTargetScrap m) s = begun 6 0xFFFFFFFFFFFFFFF none)) ∧
        (st = 6 → exec (.lcTargetTestLocked m) s = refused 1 0x11 ∧ exec (.lcTargetTestOpen m) s = refused 2 0x12 ∧
          exec (.lcTargetProvision m) s = refused 3 0x13 ∧ exec (.lcTargetMission m tab) s = refused 4 0x14 ∧
          exec (.lcTargetReturn m) s = refused 5 0x15 ∧ exec (.lcTargetScrap m) s = refused 6 0x16)) ∧
      (x.busy = true ∨ x.resetAt ≠ none → exec (.lcTargetTestLocked m) s = refused 1 0x11 ∧
        exec (.lcTargetTestOpen m) s = refused 2 0x12 ∧ exec (.lcTargetProvision m) s = refused 3 0x13 ∧
        exec (.lcTargetMission m tab) s = refused 4 0x14 ∧ exec (.lcTargetReturn m) s = refused 5 0x15 ∧
        exec (.lcTargetScrap m) s = refused 6 0x16)) ∧
    (x.busy = true →
      (s.wall < x.since + s.lcTime → exec (.lcProgramDone true) s = .next s) ∧
      (x.since + s.lcTime ≤ s.wall → ∃ t, exec (.lcProgramDone true) s = .next t ∧
        t.lcs = { x with busy := false, result := 1, resetAt := some (s.wall + msUnits) } ∧
        t.dbg.rights = 0 ∧ (x.target = some 0xFFFFFFFFFFFF ∨ x.target = some 0xFFFFFFFFFFFFFFF → t.aon.bbValid = false ∧ t.aon.bbram = []) ∧
        (x.target = none → t.aon = s.aon) ∧ t.regs = s.regs ∧ t.mem = s.mem) ∧
      (∃ t, exec (.lcProgramDone false) s = .next t ∧ t.lcs.busy = false ∧ t.lcs.result = 3 ∧ t.lcs.target = none ∧
        t.lcs.tokTarget = none ∧ bit (t.stky .lcs 0) 4 = true ∧ (x.target = none → t.lcs.word = x.word) ∧ t.mem = s.mem)) ∧
    (x.resetAt = some t0 → t0 ≤ s.wall → s.aon.mainPower = true → s.pwr.warn = none → ∃ t, exec .lcResetDelay s = .next t ∧
      t.lcs.resetAt = none ∧ t.pwr.warn = some s.wall ∧ bit t.aon.cause 8 = true ∧ t.mem = s.mem)

/-- R410, R411, R413 and R415: SUBMIT hands the certificate over; GRANT gives the rights that the write, the certificate and the state
all allow and draws a new challenge, DENY sets its STKY bit; REVOKE ends the rights; HALT, STEP and RESUME act on the target under
the right it needs; CERT_DATA fills the buffer.
Model's choices: log entries 1 and 66. -/
def Obligations.DebugRows : Prop :=
  ∀ (s : State) (m : Master) (v : Word),
    let st := s.lcState
    let n := fld v 0 9
    let s1 := s.setReg .dbg 0 0x058 (v &&& 0x1FF)
    let may := s.dbgRights.getLsbD (if n = 256 then 3 else 2)
    (s.grants m 1 .dbg 0 0x050 = true →
      (s.dbg.pending = false → st = 1 ∨ st = 3 ∨ st = 4 ∨ st = 5 →
        exec (.debugSubmit m v) s = .next { s with dbg := { s.dbg with pending := true } }) ∧
      (s.dbg.pending = true ∨ (st ≠ 1 ∧ st ≠ 3 ∧ st ≠ 4 ∧ st ≠ 5) →
        exec (.debugSubmit m v) s = .next (s.reject .dbg 0 0x050 (putBit v 0 true)))) ∧
    (s.grants m 1 .dbg 0 0x054 = true → m.isKs = true →
      (s.dbg.pending = false → exec (.debugGrant m v) s = .next ((s.setReg .dbg 0 0x054 (v &&& 0x13F)).reject .dbg 0 0x054 v)) ∧
      (s.dbg.pending = true → ∃ t, exec (.debugGrant m v) s = .next t ∧ t.dbg.pending = false ∧ t.dbg.chal.length = 4 ∧
        t.free = s.free + 4 ∧ t.mem = s.mem ∧
        (bit v 8 = false → s.certOk = true → t.dbg.rights =
          BitVec.ofNat 6 (fld v 0 6) &&& BitVec.ofNat 6 (imgNat (s.certBytes 32) 6 2) &&& s.dbgMax) ∧
        (bit v 8 = true ∨ s.certOk = false → t.dbg.rights = s.dbg.rights ∧ bit (t.stky .dbg 0) 2 = true))) ∧
    (s.grants m 1 .dbg 0 0x054 = true → m.isKs = false → exec (.debugGrant m v) s = .next (s.reject .dbg 0 0x054 v)) ∧
    (bit v 1 = true → exec (.debugRevoke m v) s = exec (.softReset m ⟨.dbg, 0⟩ (putBit v 2 true)) s) ∧
    (s.grants m 1 .dbg 0 0x008 = true → bit v 1 = false →
      (m = .debug ∨ m.isKs = true → exec (.debugRevoke m v) s =
        .next { s.setReg .dbg 0 0x008 (v &&& 1) with dbg := { s.dbg with rights := 0 } }) ∧
      (m ≠ .debug → m.isKs = false → exec (.debugRevoke m v) s = .next (s.reject .dbg 0 0x008 (putBit v 2 true)))) ∧
    (s.grants m 1 .dbg 0 0x058 = true → n ≤ 256 →
      (may = true →
        (s.haltRefused n = false → exec (.debugHalt m v) s = .next (s1.updTargets n fun x => { x with halted := true })) ∧
        (s.haltRefused n = true → exec (.debugHalt m v) s = .next (s1.setSticky .dbg 0 3)) ∧
        exec (.debugStep m v) s = .next (s1.updTargets n fun x => { x with stepOne := x.halted }) ∧
        exec (.debugResume m v) s = .next (s1.updTargets n fun x => { x with halted := false, stepOne := false })) ∧
      (may = false → s.dbgRights.getLsbD 3 = false → ∀ c ∈ [Instr.debugHalt m v, .debugStep m v, .debugResume m v],
        exec c s = .next (s.acuRecord m 1 (pageBase ⟨.dbg, 0⟩ + 0x058) 5 0 false))) ∧
    (s.grants m 1 .dbg 0 0x064 = true →
      let a := fld (s.reg .dbg 0 0x060) 0 11
      exec (.certDataWrite m v) s = .next (({ s with dbg := { s.dbg with cert := Sparse.set 0 s.dbg.cert a v } } : State).setReg .dbg 0 0x060
        (BitVec.ofNat 32 (if a + 1 < 1536 then a + 1 else 0))))

/-! ### Keystone die and joint (R385-R400) -/

/-- R387, R388, R390-R392 and R399: the release of the Keystone reset stops, enters WAIT or runs the selected twin's image under its
locks; XLOCK and PUF_LOCK stay; faults and the watchdog stop the cores, drain and reset after 150 µs; the TRNG answers while it is
healthy.
Model's choices: log entries 1, 62 and 64. -/
def Obligations.KeystoneRows : Prop :=
  ∀ (s : State) (m : Master) (i : BootInputs) (v : Word) (ok : Bool),
    let st := s.lcState
    let sel := s.swapLoad.flc.swapSel
    let img := s.twinImage sel
    let len := imgNat img 8 4
    let w := s.reg .kst 0 0x054
    let old := s.reg .kst 0 0x008
    let down (t : State) (n : Nat) : Prop := t.kst.resetAt = some (s.wall + 150 * usUnits) ∧ bit t.aon.cause n = true ∧
      t.ptn.draining = true ∧ (∀ k : Fin 2, (t.proc (.ks k)).stopped = true) ∧ (∀ c tl, t.proc (.tile c tl) = s.proc (.tile c tl)) ∧
      t.mem = s.mem ∧ t.regs = s.regs
    (s.aon.mainPower = true → s.kst.resetAt = none → s.kst.stage = 0 → (s.proc (.ks 0)).running = false →
      (st = 15 → ∃ t, exec (.keystoneResetRelease i) s = .next t ∧ t.kst.stage = 4 ∧ bit (t.stky .lcs 0) 2 = true ∧ t.procs = s.procs) ∧
      (st ≠ 15 → i.selfTestOk = false → ∃ t, exec (.keystoneResetRelease i) s = .next t ∧ t.kst.stage = 4 ∧ t.procs = s.procs) ∧
      (st ≤ 2 → i.selfTestOk = true → ∃ t, exec (.keystoneResetRelease i) s = .next t ∧ t.kst.stage = 4 ∧ t.procs = s.procs ∧
        t.aon.ring = [] ∧ t.aon.toRing = false ∧ t.aon.cause &&& 0xFFF = 0 ∧ t.mem = s.mem) ∧
      (st = 6 → i.selfTestOk = true → ∃ t, exec (.keystoneResetRelease i) s = .next t ∧ t.kst.stage = 4 ∧ t.lcs.scrapDone = true ∧
        t.procs = s.procs) ∧
      (st = 3 ∨ st = 4 → i.selfTestOk = true →
        (i.helperOk = false → ∃ t, exec (.keystoneResetRelease i) s = .next t ∧ t.kst.stage = 3 ∧ t.procs = s.procs) ∧
        (i.helperOk = true → s.imageOk img (if sel then i.sigBOk else i.sigAOk) = true →
          ∃ t, exec (.keystoneResetRelease i) s = .next t ∧ t.kst.stage = 1 ∧ t.kst.twin = sel ∧ t.kst.version = imgNat img 6 2 ∧
            (∀ k : Fin 2, (t.proc (.ks k)).running = true ∧ (t.proc (.ks k)).super = true ∧
              (t.proc (.ks k)).pc = BitVec.ofNat 32 (imgNat img 12 4)) ∧
            bit (t.reg .kst 0 0x008) 2 = true ∧ bit (t.reg .kst 0 0x008) 3 = true ∧ t.reg .kst 0 0x040 = BitVec.ofNat 32 len ∧
            (∀ j, j < len → t.byte (ksSram + j) = img.getD (0x50 + j) 0)))) ∧
    (bit v 1 = true → exec (.xlockWrite m v) s = exec (.softReset m ⟨.kst, 0⟩ (putBit v 2 true)) s ∧
      exec (.pufLockWrite m v) s = exec (.softReset m ⟨.kst, 0⟩ (putBit v 3 true)) s) ∧
    (s.grants m 1 .kst 0 0x008 = true → bit v 1 = false →
      ∀ c ∈ [(Instr.xlockWrite m v, putBit v 2 true), (.pufLockWrite m v, putBit v 3 true)],
      let s1 := s.setReg .kst 0 0x008 ((old &&& 0xC) ||| (c.2 &&& 0xD))
      exec c.1 s = .next (if bit old 2 then s1.reject .kst 0 0x008 c.2 else s1)) ∧
    (s.grants m 0 .kst 0 0x044 = true →
      (s.kst.trngOk = true → exec (.trngRead m) s = .next (s.draw.emit (.readData m [⟨s.freeW, Tag.int⟩]))) ∧
      (s.kst.trngOk = false → exec (.trngRead m) s = .next ((s.setSticky .kst 0 4).emit (.readData m [⟨0, Tag.int⟩])))) ∧
    (s.grants m 1 .kst 0 0x058 = true → bit v 0 = true →
      exec (.kstWdogKick m v) s = .next { s with kst := { s.kst with kick := s.wall } }) ∧
    (s.kst.resetAt = none →
      (bit w 16 = true → s.kst.kick + fld w 0 16 * msUnits ≤ s.wall → ∃ t, exec .kstWatchdogExpiry s = .next t ∧ down t 7) ∧
      ((s.proc (.ks 0)).running = true → (∃ t, exec (.keystoneFault false) s = .next t ∧ down t 5) ∧
        ((s.proc (.ks 0)).stopped = true ∨ (s.proc (.ks 1)).stopped = true → ∃ t, exec (.keystoneFault true) s = .next t ∧ down t 6))) ∧
    exec (.trngHealthChange ok) s = .next { s with kst := { s.kst with trngOk := ok } }

/-- R14, R397 and R398, the joint: training brings it up with a fresh root; a frame leaves sealed under the key of its epoch with the next
counter of its direction, or as the first of the next epoch after a REKEY or a full counter; the receiver takes only a frame that opens
and that it expects, and counts any other as discarded; a key frame installs the context wrap key; silence takes the joint down, a
retraining brings it back.
Model's choices: log entries 65, 92 and 107. -/
def Obligations.JointRows : Prop :=
  ∀ (s : State) (m : Master) (dir : Bool) (typ route : Nat) (words : List TWord) (frame : List Byte) (v : Word),
    let d := s.jnt.dir dir
    let ex := (s.jnt.dir dir).expect
    let f := s.jnt.frameIn dir frame
    let sent (epoch fcnt : Nat) : Output :=
      .joint dir (s.jnt.sealFrame dir { epoch := epoch, fcnt := fcnt, typ := typ, route := route, words := words, stroke := s.stroke })
    (s.aon.mainPower = true → s.jnt.up = false → s.jnt.keyed = false → s.lcState ≠ 6 → ∃ t, exec .jointTrained s = .next t ∧
      t.archOn = true ∧ t.jnt.up = true ∧ t.jnt.keyed = true ∧ t.jnt.root.length = 32 ∧ t.jnt.tx = {} ∧ t.jnt.rx = {} ∧
      t.jnt.lastRx = s.wall ∧ (s.archOn = true → t.stroke = s.stroke ∧ t.tim = s.tim) ∧ (∀ c : Fin 16, (t.proc (.cox c)).running = true) ∧
      t.mem = s.mem ∧ t.regs = s.regs) ∧
    (s.jnt.up = true → s.jnt.keyed = true → 1 ≤ typ → typ ≤ 5 → words.length ≤ 64 →
      (d.rekey = false → d.next < 2 ^ 32 → ∃ t, exec (.jointFrameSend dir typ route words) s = .next t ∧
        t.out = s.out ++ [sent d.epoch d.next] ∧ (t.jnt.dir dir).next = d.next + 1 ∧ (t.jnt.dir dir).sent = d.next ∧
        t.jnt.dir (!dir) = s.jnt.dir (!dir) ∧ t.regs = s.regs ∧ t.mem = s.mem) ∧
      (d.rekey = true ∨ 2 ^ 32 ≤ d.next → ∃ t, exec (.jointFrameSend dir typ route words) s = .next t ∧
        t.out = s.out ++ [sent ((d.epoch + 1) % 2 ^ 32) 0] ∧ (t.jnt.dir dir).next = 1 ∧
        (t.jnt.dir dir).rekey = false ∧ t.jnt.dir (!dir) = s.jnt.dir (!dir) ∧ t.regs = s.regs ∧ t.mem = s.mem)) ∧
    (s.jnt.up = true → s.jnt.keyed = true →
      (f.tagOk = true → f.epoch = ex.1 → f.fcnt = ex.2 → (dir = false ∨ f.typ ≠ 2) →
        ∃ t, exec (.jointFrameReceived dir frame) s = .next t ∧ (t.jnt.dir dir).exEp = ex.1 ∧ (t.jnt.dir dir).exFc = ex.2 + 1 ∧
          (t.jnt.dir dir).got = ex.2 ∧ (dir = false → t.jnt.lastRx = s.wall) ∧ t.jnt.dir (!dir) = s.jnt.dir (!dir) ∧ t.out = s.out ∧
          t.regs = s.regs ∧ t.mem = s.mem) ∧
      (dir = true → f.tagOk = true → f.epoch = ex.1 → f.fcnt = ex.2 → f.typ = 2 → f.route = 0 → f.words.length = 8 →
        (∀ w ∈ f.words, w.tag = Tag.key) → ∃ t, exec (.jointFrameReceived dir frame) s = .next t ∧ t.ptn.wrapKey = some (bytesOf f.words) ∧
          t.regs = s.regs ∧ t.mem = s.mem) ∧
      (f.tagOk = false ∨ f.epoch ≠ ex.1 ∨ f.fcnt ≠ ex.2 → ∃ t, exec (.jointFrameReceived dir frame) s = .next t ∧
        fld (t.reg .jnt 0 0x050) 0 16 = min (fld (s.reg .jnt 0 0x050) 0 16 + 1) 0xFFFF ∧ (f.tagOk = false → bit (t.stky .jnt 0) 2 = true) ∧
        (f.tagOk = true → f.epoch < ex.1 ∨ (f.epoch = ex.1 ∧ f.fcnt < ex.2) → bit (t.stky .jnt 0) 4 = true) ∧
        t.jnt.dir (!dir) = s.jnt.dir (!dir) ∧ t.ptn = s.ptn ∧ t.mem = s.mem)) ∧
    (s.jnt.up = true → s.jnt.lastRx + msUnits ≤ s.wall → exec .jointIdleTimeout s =
      .next (({ s with jnt := { s.jnt with up := false } } : State).setSticky .jnt 0 3)) ∧
    (s.jnt.up = false → s.jnt.keyed = true → exec .jointRetrained s = .next { s with jnt := { s.jnt with up := true, lastRx := s.wall } }) ∧
    (bit v 1 = true → exec (.jointRekey m v) s = exec (.softReset m ⟨.jnt, 0⟩ (putBit v 2 true)) s) ∧
    (s.grants m 1 .jnt 0 0x008 = true → bit v 1 = false →
      (s.jnt.keyed = true → ∃ t, exec (.jointRekey m v) s = .next t ∧ t.jnt.tx = { s.jnt.tx with rekey := true } ∧
        t.jnt.rx = { s.jnt.rx with rekey := true } ∧ t.reg .jnt 0 0x008 = v &&& 1 ∧ t.mem = s.mem) ∧
      (s.jnt.keyed = false → exec (.jointRekey m v) s =
        .next ((s.setReg .jnt 0 0x008 (v &&& 1)).reject .jnt 0 0x008 (putBit v 2 true))))

/-! ### Card slots and SD host (R446-R462) -/

/-- R446-R453 and R461, a card slot: insertion and removal, activation from class C upwards, the ATR with its PPS, an exchange and the
ways it ends, and the stopped clock. Every other slot keeps its state.
Model's choices: log entries 55 and 110. -/
def Obligations.CardRows : Prop :=
  ∀ (s : State) (m : Master) (n : Fin 4) (v : Word) (bs rsp : List Byte),
    let x := s.slot n.val
    let cfg := s.reg .crd 0 (0x100 + 64 * n.val)
    let cmd := 0x104 + 64 * n.val
    let len := fld v 4 9
    let only (t : State) : Prop := (∀ n', n' ≠ n.val → t.slot n' = s.slot n') ∧ t.mem = s.mem ∧ t.procs = s.procs
    let psticky (t : State) (k : Nat) : Prop := bit (t.reg .crd 0 (0x110 + 64 * n.val)) k = true ∧ bit (t.stky .crd 0) 2 = true
    let up (i : Instr) : Prop :=
      (x.cls < fld cfg 0 2 → ∃ t, exec i s = .next t ∧ (t.slot n.val).st = 2 ∧ (t.slot n.val).cls = x.cls + 1 ∧ only t ∧ t.out = s.out) ∧
      (fld cfg 0 2 ≤ x.cls → ∃ t, exec i s = .next t ∧ (t.slot n.val).st = 5 ∧ (t.slot n.val).result = 5 ∧ (t.slot n.val).done = true ∧
        psticky t 0 ∧ only t ∧ t.out = s.out)
    (x.st = 0 → exec (.cardInsertion n) s = .next (s.setSlot n.val { st := 1, change := true, done := x.done, result := x.result })) ∧
    (x.st ≠ 0 → ∃ t, exec (.cardRemoval n) s = .next t ∧ (t.slot n.val).st = 0 ∧ (t.slot n.val).change = true ∧
      (x.st = 2 ∨ x.st = 4 → (t.slot n.val).done = true ∧ (t.slot n.val).result = 2) ∧ (x.st = 4 → (t.slot n.val).rxlen = 0) ∧ only t) ∧
    (s.grants m 1 .crd 0 cmd = true →
      (x.st = 1 → ∃ t, exec (.cardActivate m n v) s = .next t ∧ (t.slot n.val).st = 2 ∧ (t.slot n.val).cls = 1 ∧
        (t.slot n.val).fidi = 0x11 ∧ only t) ∧
      (x.st ≠ 1 → exec (.cardActivate m n v) s = .next ((s.setReg .crd 0 cmd (v &&& 0x1FF0)).reject .crd 0 cmd v)) ∧
      (x.st ≠ 0 → ∃ t, exec (.cardDeactivate m n v) s = .next t ∧ (t.slot n.val).st = 1 ∧ (t.slot n.val).clkStop = false ∧ only t) ∧
      (x.st = 3 → 4 ≤ len → len ≤ 261 → ∃ t, exec (.cardSend m n v) s = .next t ∧
        (t.slot n.val) = { x with st := 4, clkStop := false, since := s.wall, tries := 0 } ∧
        t.out = s.out ++ [.card n.val ((s.regBytes .crd 0 (0x400 + 0x300 * n.val) 66).take len)] ∧ only t) ∧
      (x.st ≠ 3 ∨ len < 4 ∨ 261 < len → exec (.cardSend m n v) s = .next ((s.setReg .crd 0 cmd (v &&& 0x1FF0)).reject .crd 0 cmd v))) ∧
    (x.st = 2 → x.ppsWait = false → up (.atrTimeout n)) ∧
    (x.st = 2 → x.ppsWait = false →
      (atrRead bs = none → up (.atrReceived n bs)) ∧
      (∀ a c, atrRead bs = some a → a.classes = some c → c.testBit (3 - x.cls) = false → up (.atrReceived n bs)) ∧
      (∀ a, atrRead bs = some a → (∀ c, a.classes = some c → c.testBit (3 - x.cls) = true) →
        let t1 := match a.specific with | some p => decide (p % 16 = 1) | none => a.offersT1
        let ta1 := if a.specific.any (·.testBit 4) then 0x11 else a.ta1.getD 0x11
        ((a.offersT1 = false ∧ a.offersT0 = false) ∨ a.specific.any (fun p => decide (1 < p % 16)) = true →
          ∃ t, exec (.atrReceived n bs) s = .next t ∧ (t.slot n.val).st = 5 ∧ (t.slot n.val).result = 5 ∧ psticky t 0 ∧ only t) ∧
        ((a.offersT1 = true ∨ a.offersT0 = true) → a.specific.any (fun p => decide (1 < p % 16)) = false →
          ∃ t, exec (.atrReceived n bs) s = .next t ∧ (t.slot n.val).proto = t1 ∧ (t.slot n.val).atrlen = bs.length ∧ only t ∧
            (a.specific.isSome = true → (t.slot n.val).st = 3 ∧ (t.slot n.val).result = 1 ∧ (t.slot n.val).fidi = ta1) ∧
            (a.specific = none → x.noPps = true → (t.slot n.val).st = 3 ∧ (t.slot n.val).result = 1 ∧ (t.slot n.val).fidi = x.fidi) ∧
            (a.specific = none → x.noPps = false → (t.slot n.val).st = 2 ∧ (t.slot n.val).ppsWait = true ∧
              t.out = s.out ++ [.card n.val (ppsBytes t1 ta1)])))) ∧
    (x.st = 2 → x.ppsWait = true →
      (∃ t, exec (.ppsResponse n (ppsBytes x.proto x.ta1)) s = .next t ∧ (t.slot n.val).st = 3 ∧ (t.slot n.val).result = 1 ∧
        (t.slot n.val).fidi = x.ta1 ∧ (t.slot n.val).div = max x.divFi (fld cfg 3 6) ∧ only t) ∧
      (∃ t, exec (.ppsResponse n (ppsShort x.proto)) s = .next t ∧ (t.slot n.val).st = 3 ∧ (t.slot n.val).fidi = x.fidi ∧ only t) ∧
      (rsp ≠ ppsBytes x.proto x.ta1 → rsp ≠ ppsShort x.proto → ∃ t, exec (.ppsResponse n rsp) s = .next t ∧ (t.slot n.val).st = 2 ∧
        (t.slot n.val).noPps = true ∧ (t.slot n.val).cls = x.cls ∧ psticky t 1 ∧ only t)) ∧
    (x.st = 4 →
      (2 ≤ rsp.length → rsp.length ≤ 258 → s.wall ≤ x.since + fld cfg 16 16 * msUnits → ∃ t, exec (.cardExchangeDone n rsp) s = .next t ∧
        (t.slot n.val).st = 3 ∧ (t.slot n.val).result = 1 ∧ (t.slot n.val).done = true ∧ (t.slot n.val).rxlen = rsp.length ∧
        ((t.regBytes .crd 0 (0x540 + 0x300 * n.val) 65).take rsp.length = rsp) ∧ only t) ∧
      (x.proto = true → x.tries < 3 → exec (.cardWaitTimeout n) s = .next (s.setSlot n.val { x with tries := x.tries + 1 })) ∧
      (x.proto = true → 3 ≤ x.tries → ∃ t, exec (.cardWaitTimeout n) s = .next t ∧ (t.slot n.val).st = 1 ∧ (t.slot n.val).result = 4 ∧
        psticky t 3 ∧ only t) ∧
      (x.proto = false → ∃ t, exec (.cardWaitTimeout n) s = .next t ∧ (t.slot n.val).st = 3 ∧ (t.slot n.val).result = 4 ∧
        psticky t 3 ∧ only t) ∧
      (x.since + fld cfg 16 16 * msUnits < s.wall → ∃ t, exec (.cardBusyTimeout n) s = .next t ∧ (t.slot n.val).st = 1 ∧
        (t.slot n.val).result = 3 ∧ psticky t 2 ∧ only t)) ∧
    (x.st = 3 → bit cfg 2 = true → x.canStop = true → x.since + 31 * x.div * usUnits ≤ s.wall →
      exec (.cardClockStop n) s = .next (s.setSlot n.val { x with clkStop := true }))

/-- R456-R459 and R462, the SD host: a command goes out unless the host is busy, the card absent, its buffer outside the part it may
reach, or the card protected or held by a retained block; it ends with its response, blocks and data, with a CRC error or at the
timeout; a removal in the busy phase keeps the last block, which REWRITE writes again and DISCARD drops.
Model's choices: log entries 56 and 69. -/
def Obligations.SdHostRows : Prop :=
  ∀ (s : State) (m : Master) (v : Word) (ok wp : Bool) (resp : List Word) (blocks blk : Nat) (data : List Byte),
    let x := s.sdh
    let s1 := s.setReg .sdh 0 0x048 (v &&& 0x7FF)
    let a := (s.reg .sdh 0 0x050).toNat
    let count := fld (s.reg .sdh 0 0x04C) 0 16
    let ended := { s with sdh := { x with busy := false, done := true, rewrite := false } }
    let reach := bit v 8 = false ∨ s.sdDmaOk a (512 * count) = true
    let gone (t : State) : Prop := t.sdh.present = false ∧ t.sdh.busy = false ∧ t.sdh.v18 = false ∧ t.sdh.mode = 0 ∧ t.sdh.change = true ∧ t.mem = s.mem
    (s.grants m 1 .sdh 0 0x048 = true →
      (x.busy = false → x.present = true → reach → sdWrites v = false ∨ (s.sdProtected = false ∧ x.retain = false) →
        ∃ t, exec (.sdCommandGo m v) s = .next t ∧ t.sdh.busy = true ∧ t.sdh.cmd = v &&& 0x7FF ∧ t.reg .sdh 0 0x064 = 0 ∧
          t.out = s.out ++ [.sdCommand (v &&& 0x7FF) (s.reg .sdh 0 0x044)] ∧ t.mem = s.mem) ∧
      (x.busy = true ∨ x.present = false ∨ (bit v 8 = true ∧ s.sdDmaOk a (512 * count) = false) →
        exec (.sdCommandGo m v) s = .next (s1.reject .sdh 0 0x048 v)) ∧
      (x.busy = false → x.present = true → reach → sdWrites v = true → s.sdProtected = true →
        exec (.sdCommandGo m v) s = .next ((s1.reject .sdh 0 0x048 v).setSticky .sdh 0 6))) ∧
    (x.busy = true →
      exec (.sdCommandDone .crcError) s = .next (ended.setSticky .sdh 0 2) ∧ exec .sdCommandTimeout s = .next (ended.setSticky .sdh 0 3) ∧
      ∃ t, exec (.sdCommandDone (.ok resp blocks data)) s = .next t ∧ t.sdh.busy = false ∧ t.sdh.done = true ∧
        t.reg .sdh 0 0x064 = BitVec.ofNat 32 (blocks % 65536) ∧
        (fld x.cmd 6 2 = 1 ∨ fld x.cmd 6 2 = 2 → resp ≠ [] → t.reg .sdh 0 0x054 = resp.getD 0 0) ∧
        (bit x.cmd 8 = true → sdWrites x.cmd = false → a % 4 = 0 →
          t.bytes a (512 * min blocks count) = fixLen (512 * min blocks count) data) ∧
        (bit x.cmd 8 = false ∨ sdWrites x.cmd = true → t.mem = s.mem)) ∧
    (s.grants m 1 .sdh 0 0x070 = true →
      exec (.sdVoltageSwitch m v ok) s = .next (if ok then { s with sdh := { x with v18 := true } } else s.setSticky .sdh 0 7) ∧
      exec (.sdTune m v ok) s = .next (if ok then s else s.setSticky .sdh 0 8)) ∧
    (s.grants m 1 .sdh 0 0x06C = true → x.retain = true →
      (x.inited = true → x.present = true → x.busy = false →
        (s.sdProtected = false → ∃ t, exec (.sdRewrite m v) s = .next t ∧ t.sdh.busy = true ∧ t.sdh.cmd = 0x358 ∧ t.sdh.rewrite = true ∧
          t.sdh.kept = x.kept ∧ t.out = s.out ++ [.sdCommand 0x358 (s.reg .sdh 0 0x068)] ∧ t.mem = s.mem) ∧
        exec (.sdDiscard m v) s = .next { s with sdh := { x with retain := false, kept := [] } }) ∧
      (x.inited = false ∨ x.present = false ∨ x.busy = true → exec (.sdRewrite m v) s = .next (s.reject .sdh 0 0x06C v) ∧
        exec (.sdDiscard m v) s = .next (s.reject .sdh 0 0x06C v))) ∧
    (x.present = true →
      (x.busy = false ∨ sdWrites x.cmd = false → ∃ t, exec (.sdCardRemoval (.idleOrRead blocks)) s = .next t ∧ gone t ∧
        t.sdh.retain = x.retain ∧ bit (t.stky .sdh 0) 4 = true) ∧
      (x.busy = true → sdWrites x.cmd = true →
        (∃ t, exec (.sdCardRemoval (.dataPhase blocks)) s = .next t ∧ gone t ∧ t.sdh.retain = x.retain ∧ bit (t.stky .sdh 0) 4 = true ∧
          t.reg .sdh 0 0x064 = BitVec.ofNat 32 (blocks % 65536)) ∧
        (∃ t, exec (.sdCardRemoval (.busyPhase blocks blk data)) s = .next t ∧ gone t ∧ t.sdh.retain = true ∧
          t.sdh.kept = fixLen 512 data ∧ t.reg .sdh 0 0x068 = BitVec.ofNat 32 blk ∧ bit (t.stky .sdh 0) 5 = true))) ∧
    (x.present = false → exec (.sdCardInsertion wp) s = .next { s with sdh := { x with present := true, wp := wp, change := true } })

/-! ### Contactless reader and tag island (R463-R478) -/

/-- R463-R466 and R478, the reader: polls look for an external field first; a badge that is alone activates; an exchange goes out and
ends with its answer, at BUSY_MAX or with the badge's removal.
Model's choices: log entry 57. -/
def Obligations.ReaderRows : Prop :=
  ∀ (s : State) (m : Master) (n : Nat) (v : Word) (b : BadgeInfo) (rsp : List Byte),
    let x := s.nfc
    let ctl := s.reg .nfc 0 0x040
    let len := fld v 4 9
    let s1 := s.setReg .nfc 0 0x044 (v &&& 0x1FF0)
    let rest (t : State) : Prop := t.mem = s.mem ∧ t.procs = s.procs ∧ t.nfc.mem = x.mem
    (bit ctl 0 = true → x.st ≤ 1 ∨ x.st = 5 → x.pollAt + fld ctl 8 8 * 10 * msUnits ≤ s.wall →
      (∃ t, exec (.nfcPoll true n) s = .next t ∧ t.nfc.st = 1 ∧ t.nfc.ext = true ∧ t.nfc.rfOn = false ∧ t.nfc.extAt = some s.wall ∧
        bit (t.stky .nfc 0) 2 = true ∧ rest t) ∧
      (x.extAt = none → bit ctl 1 = true ∨ bit ctl 2 = true → ∃ t, exec (.nfcPoll false n) s = .next t ∧ t.nfc.st = 1 ∧ t.nfc.badges = n ∧
        t.nfc.pollAt = s.wall ∧ t.nfc.rfOn = false ∧ t.regs = s.regs ∧ rest t)) ∧
    (s.grants m 1 .nfc 0 0x044 = true →
      (bit ctl 0 = true → x.st = 1 → x.extAt = none →
        (x.badges = 1 → ∃ t, exec (.nfcActivate m v false b) s = .next t ∧ t.nfc.st = 3 ∧ t.nfc.typ = b.typeB ∧
          t.nfc.rate = min (b.rate % 4) (fld ctl 3 2) ∧ t.nfc.done = true ∧ t.nfc.result = 1 ∧ t.nfc.rfOn = true ∧
          t.regBytes .nfc 0 0x04C 3 = fixLen 12 b.uid ∧ rest t) ∧
        (2 ≤ x.badges → ∃ t, exec (.nfcActivate m v false b) s = .next t ∧ t.nfc.st = 5 ∧ t.nfc.result = 4 ∧ t.nfc.rfOn = false ∧
          bit (t.stky .nfc 0) 3 = true ∧ rest t)) ∧
      (bit ctl 0 = false ∨ x.st ≠ 1 ∨ x.badges = 0 → exec (.nfcActivate m v false b) s = .next (s1.reject .nfc 0 0x044 v)) ∧
      (2 ≤ x.st → exec (.nfcDeactivate m v) s = .next { s1 with nfc := { x with st := 0, rfOn := false } }) ∧
      (x.st = 3 → 4 ≤ len → len ≤ 261 → ∃ t, exec (.nfcSend m v) s = .next t ∧ t.nfc = { x with st := 4, since := s.wall } ∧
        t.out = s.out ++ [.badge ((s.regBytes .nfc 0 0x400 66).take len)] ∧ t.mem = s.mem ∧ t.procs = s.procs) ∧
      (x.st ≠ 3 ∨ len < 4 ∨ 261 < len → exec (.nfcSend m v) s = .next (s1.reject .nfc 0 0x044 v))) ∧
    (x.st = 4 →
      (2 ≤ rsp.length → rsp.length ≤ 258 → s.wall ≤ x.since + fld ctl 16 16 * msUnits → ∃ t, exec (.nfcExchangeDone rsp) s = .next t ∧
        t.nfc.st = 3 ∧ t.nfc.done = true ∧ t.nfc.result = 1 ∧ t.nfc.rxlen = rsp.length ∧
        (t.regBytes .nfc 0 0x540 65).take rsp.length = rsp ∧ rest t) ∧
      (x.since + fld ctl 16 16 * msUnits < s.wall → exec .nfcBusyTimeout s =
        .next (({ s with nfc := { x with st := 0, rfOn := false, done := true, result := 3 } } : State).setSticky .nfc 0 4)) ∧
      (∃ t, exec .badgeRemoved s = .next t ∧ t.nfc.st = 0 ∧ t.nfc.result = 2 ∧ t.nfc.done = true ∧ t.nfc.rxlen = 0 ∧ t.nfc.rfOn = false ∧
        bit (t.stky .nfc 0) 5 = true ∧ rest t)) ∧
    (x.st = 3 → exec .badgeRemoved s = .next { s with nfc := { x with st := 0, rfOn := false, change := true, badges := 0 } })

/-- R468-R472, the air commands of the tag island, while the reader's own field is off. A request the island takes gets its answer:
inventory by the mask, block reads and writes under the passwords, selection, system information, random numbers, passwords with
their failure counters, and 0x01 for any other command. STAY QUIET and an answered addressed or selected read, write or presentation
start the quiet timer.
Model's choices: log entries 58 and 59. -/
def Obligations.TagAirRows : Prop :=
  ∀ (s : State) (a : TagAddr) (n k count len mask u code : Nat) (data : List Byte) (masked : Word) (r : BitVec 16),
    let x := s.nfc
    let on := { s with nfc := { x with field := true } }
    let answers (i : Instr) (err : Nat) (bs : List Byte) : Prop := ∃ t, exec i s = .next t ∧ t.out = s.out ++ [.tagAnswer err bs] ∧
      t.nfc.mem = x.mem ∧ t.mem = s.mem ∧ t.procs = s.procs
    let timed (i : Instr) : Prop := ∃ t, exec i s = .next t ∧ t.nfc.quiet = if a = .nonAddressed then x.quiet else some s.wall
    x.rfOn = false →
    (x.quiet = none → len ≤ 64 → mask = s.tagUid / 2 ^ (64 - len) →
      answers (.inventory false len mask) 0 ([0, 0] ++ leBytes 8 s.tagUid) ∧
      (len ≤ 60 → answers (.inventory true len mask) 0 ([BitVec.ofNat 8 (s.tagUid / 2 ^ (60 - len) % 16), 0] ++ leBytes 8 s.tagUid))) ∧
    (x.quiet ≠ none ∨ 64 < len ∨ mask ≠ s.tagUid / 2 ^ (64 - len) → exec (.inventory false len mask) s = .next on) ∧
    exec (.stayQuiet (.addressed s.tagUid)) s = .next { s with nfc := { x with field := true, selected := false, quiet := some s.wall } } ∧
    (s.tagTakes a = true →
      timed (.readSingleBlock a n) ∧ timed (.writeSingleBlock a n data) ∧ timed (.presentPassword a k masked) ∧
      (x.readErr n = 0 → answers (.readSingleBlock a n) 0 (x.record n)) ∧
      (x.readErr n ≠ 0 → answers (.readSingleBlock a n) (x.readErr n) []) ∧
      (x.writeErr n = 0 → ∃ t, exec (.writeSingleBlock a n data) s = .next t ∧ t.out = s.out ++ [.tagAnswer 0 []] ∧
        t.nfc.record n = fixLen 32 data ∧ (∀ n', n' < 120 → n' ≠ n → t.nfc.record n' = x.record n') ∧ t.nfc.wip = 0xFF ∧ t.mem = s.mem) ∧
      (x.writeErr n ≠ 0 → answers (.writeSingleBlock a n data) (x.writeErr n) []) ∧
      (count ≤ 8 → (∀ j, j < count → x.readErr (n + j) = 0) →
        answers (.readMultipleBlocks a n count) 0 ((List.range count).flatMap fun j => x.record (n + j))) ∧
      (k < count → k < 8 → (∀ j, j < k → x.readErr (n + j) = 0) → x.readErr (n + k) ≠ 0 →
        answers (.readMultipleBlocks a n count) (x.readErr (n + k)) ((List.range k).flatMap fun j => x.record (n + j))) ∧
      (∃ t, exec (.resetToReady a) s = .next t ∧ t.out = s.out ++ [.tagAnswer 0 []] ∧ t.nfc.selected = false ∧ t.nfc.inForce = none ∧
        (∀ w, a = .addressed w → t.nfc.quiet = none) ∧ t.mem = s.mem) ∧
      answers (.getSystemInformation a) 0 ([0x0F] ++ leBytes 8 s.tagUid ++ [0, 0, 119, 31, 9]) ∧
      (∃ t w, exec (.getRandom a) s = .next t ∧ t.nfc.random = some w ∧ t.out = s.out ++ [.tagAnswer 0 (leBytes 2 w.toNat)] ∧ t.mem = s.mem) ∧
      answers (.getPasswordStatus a) 0 [BitVec.ofNat 8 (x.failOf 0), BitVec.ofNat 8 (x.failOf 1), BitVec.ofNat 8 (x.failOf 2)] ∧
      answers (.tagUnknownCommand a code) 1 [] ∧
      (k < 3 → 8 ≤ x.failOf k → answers (.presentPassword a k masked) 0xA2 []) ∧
      (k < 3 → x.failOf k < 8 → x.random = none → answers (.presentPassword a k masked) 0xA3 []) ∧
      (k < 3 → x.failOf k < 8 → x.random = some r → ∃ t, exec (.presentPassword a k masked) s = .next t ∧
        t.nfc.failOf k = x.failOf k + 1 ∧ t.nfc.random = none ∧ t.nfc.mem = x.mem ∧ t.mem = s.mem ∧
        (masked = Sparse.get 0 x.pw k ^^^ (r ++ r) → t.nfc.inForce = some k ∧ t.out = s.out ++ [.tagAnswer 0 []]) ∧
        (masked ≠ Sparse.get 0 x.pw k ^^^ (r ++ r) → t.nfc.inForce = none ∧ t.out = s.out ++ [.tagAnswer 0xA1 []]) ∧
        (x.failOf k = 7 → bit (t.stky .nfc 0) 6 = true))) ∧
    (∃ t, exec (.select s.tagUid) s = .next t ∧ t.nfc.selected = true ∧ t.out = s.out ++ [.tagAnswer 0 []] ∧ t.mem = s.mem) ∧
    (u ≠ s.tagUid → ∃ t, exec (.select u) s = .next t ∧ t.nfc.selected = false ∧ t.out = s.out ∧ t.mem = s.mem)

/-- R469, R473-R475, R477 and R478: the quiet timer runs out; a field loss ends selection and presentation and leaves a record cut in
its write whole, old or new; the repair at power-up keeps every record; Keystone reads and commits records; passwords change under
their grant alone.
Model's choices: log entries 1 and 59. -/
def Obligations.TagMemoryRows : Prop :=
  ∀ (s : State) (m : Master) (w : TornWrite) (v : Word) (q : Nat),
    let x := s.nfc
    let rec_ := fld (s.reg .nfc 0 0x060) 0 7
    let pk := fld (s.reg .nfc 0 0x088) 0 2
    let val := s.reg .nfc 0 0x08C
    let lost (y : Nfc) : Prop := y.selected = false ∧ y.inForce = none ∧ y.field = false ∧ y.random = none ∧ y.quiet = x.quiet
    (x.quiet = some q → q + x.qtime * 600 * msUnits ≤ s.wall → ∃ t, exec .quietTimerExpiry s = .next t ∧ t.nfc.quiet = none ∧
      t.nfc.selected = x.selected ∧ (x.selected = true → t.nfc.inForce = x.inForce) ∧ t.nfc.mem = x.mem ∧ t.regs = s.regs ∧ t.mem = s.mem) ∧
    exec (.tagFieldLoss none) s = .next { s with nfc := { x with selected := false, inForce := none, field := false, random := none } } ∧
    (x.rfOn = false → x.writeErr w.record = 0 → ∃ t, exec (.tagFieldLoss (some w)) s = .next t ∧ lost t.nfc ∧ t.mem = s.mem ∧
      (∀ n, n < 120 → n ≠ w.record → t.nfc.record n = x.record n) ∧
      t.nfc.record w.record = (match w.point with
        | .beforeShadow | .beforeFlag | .duringFlag false => x.record w.record
        | .duringFlag true | .afterFlag => fixLen 32 w.data) ∧ t.out = s.out) ∧
    (x.wip < 120 → ∃ t, exec .islandPowerUp s = .next t ∧ (∀ n, n < 120 → t.nfc.record n = x.record n) ∧ t.nfc.wip = 0xFF ∧
      (s.aon.mainPower = true → bit (t.stky .nfc 0) 7 = true ∧ t.nfc.torn = 0) ∧
      (s.aon.mainPower = false → t.nfc.torn = x.torn + 1 ∧ t.regs = s.regs) ∧ t.mem = s.mem) ∧
    (s.grants m 1 .nfc 0 0x064 = true → rec_ < 120 →
      (bit v 1 = false → bit v 4 = false → ∃ t, exec (.trecRead m v) s = .next t ∧ t.regBytes .nfc 0 0x068 8 = x.record rec_ ∧
        t.nfc.trecDone = true ∧ t.nfc.mem = x.mem ∧ t.mem = s.mem) ∧
      (bit v 0 = false → bit v 4 = false → ∃ t, exec (.trecCommit m v) s = .next t ∧ t.nfc.record rec_ = s.regBytes .nfc 0 0x068 8 ∧
        (∀ n, n < 120 → n ≠ rec_ → t.nfc.record n = x.record n) ∧ t.nfc.trecDone = true ∧ t.regs = s.regs ∧ t.mem = s.mem) ∧
      (bit v 0 = false → bit v 1 = false → bit v 3 = false → exec (.trecAck m v) s = .next { s with nfc := { x with contact := false } })) ∧
    (s.grants m 1 .nfc 0 0x090 = true →
      ((∃ e ∈ s.dual.req, e.2.granted = true ∧ e.2.kind = 2 ∧ e.2.digest = s.pwDigest pk 1 ∧ e.2.pwVal = val) →
        exec (.passwordSet m v) s = .next { s with nfc := { x with pw := Sparse.set 0 x.pw pk val } }) ∧
      ((∀ e ∈ s.dual.req, e.2.granted = true → e.2.kind = 2 → e.2.digest ≠ s.pwDigest pk 1) →
        exec (.passwordSet m v) s = .next (s.reject .nfc 0 0x090 v)) ∧
      (s.grantFor (s.pwDigest pk 2) = true → exec (.passwordResetCount m v) s =
        .next { s with nfc := { x with fail := Sparse.set 0 x.fail pk 0 } }) ∧
      (s.grantFor (s.pwDigest pk 2) = false → exec (.passwordResetCount m v) s = .next (s.reject .nfc 0 0x090 v)))
end

