-- ==== Sys2Proof/Laws/Sparse.lean ====
section
/-! SUPPORT. Laws of the sparse maps: reads after writes, and the canonical form. -/

namespace Sys2Proof.Machine

variable {α : Type}

theorem Sparse.get_del_self (d : α) (m : List (Nat × α)) (q : Nat) : Sparse.get d (Sparse.del q m) q = d := by
  induction m with
  | nil => rfl
  | cons e r ih =>
    obtain ⟨k, v⟩ := e
    by_cases h : k = q
    · simpa [Sparse.del, h] using ih
    · simpa [Sparse.del, Sparse.get, h] using ih

theorem Sparse.get_del_ne (d : α) (m : List (Nat × α)) {q k : Nat} (h : k ≠ q) :
    Sparse.get d (Sparse.del q m) k = Sparse.get d m k := by
  induction m with
  | nil => rfl
  | cons e r ih =>
    obtain ⟨j, v⟩ := e
    by_cases hj : j = q
    · subst hj
      simpa [Sparse.del, Sparse.get, Ne.symm h] using ih
    · by_cases hk : j = k
      · simp [Sparse.del, Sparse.get, hk, h]
      · simpa [Sparse.del, Sparse.get, hj, hk] using ih

theorem Sparse.get_ins (d : α) (m : List (Nat × α)) (q k : Nat) (x : α) (hq : ∀ e ∈ m, e.1 ≠ q) :
    Sparse.get d (Sparse.ins q x m) k = if q = k then x else Sparse.get d m k := by
  induction m with
  | nil => rfl
  | cons e r ih =>
    obtain ⟨j, v⟩ := e
    have hr := ih fun e he => hq e (List.mem_cons_of_mem _ he)
    have hj : j ≠ q := hq _ List.mem_cons_self
    by_cases hlt : q < j
    · simp [Sparse.ins, hlt, Sparse.get]
    · simp only [Sparse.ins, hlt, if_false, Sparse.get, hr]
      by_cases h1 : j = k
      · subst h1; simp [Ne.symm hj]
      · simp [h1]

theorem Sparse.not_mem_del (m : List (Nat × α)) (q : Nat) : ∀ e ∈ Sparse.del q m, e.1 ≠ q := by
  induction m with
  | nil => simp [Sparse.del]
  | cons e r ih =>
    obtain ⟨j, v⟩ := e
    by_cases h : j = q
    · simpa [Sparse.del, h] using ih
    · intro e he
      simp only [Sparse.del, h, if_false, List.mem_cons] at he
      rcases he with rfl | he
      · exact h
      · exact ih e he

theorem Sparse.del_eq_self (m : List (Nat × α)) (q : Nat) (h : ∀ e ∈ m, e.1 ≠ q) : Sparse.del q m = m := by
  induction m with
  | nil => rfl
  | cons e r ih =>
    obtain ⟨j, v⟩ := e
    have hj : j ≠ q := h _ List.mem_cons_self
    simp [Sparse.del, hj, ih fun e he => h e (List.mem_cons_of_mem _ he)]

theorem Sparse.del_ins (m : List (Nat × α)) (q : Nat) (x : α) (h : ∀ e ∈ m, e.1 ≠ q) :
    Sparse.del q (Sparse.ins q x m) = m := by
  induction m with
  | nil => simp [Sparse.ins, Sparse.del]
  | cons e r ih =>
    obtain ⟨j, v⟩ := e
    have hj : j ≠ q := h _ List.mem_cons_self
    have hr : ∀ e ∈ r, e.1 ≠ q := fun e he => h e (List.mem_cons_of_mem _ he)
    by_cases hlt : q < j
    · simp [Sparse.ins, hlt, Sparse.del, hj, Sparse.del_eq_self r q hr]
    · simp [Sparse.ins, hlt, Sparse.del, hj, ih hr]

variable [DecidableEq α]

/-- A read after a write of the same key gives the value written. -/
@[simp] theorem Sparse.get_set_self (d : α) (m : List (Nat × α)) (q : Nat) (x : α) :
    Sparse.get d (Sparse.set d m q x) q = x := by
  unfold Sparse.set
  split
  · next h => rw [Sparse.get_del_self, h]
  · rw [Sparse.get_ins d _ q q x (Sparse.not_mem_del m q)]; simp

/-- A write leaves every other key alone. -/
theorem Sparse.get_set_ne (d : α) (m : List (Nat × α)) {q k : Nat} (x : α) (h : k ≠ q) :
    Sparse.get d (Sparse.set d m q x) k = Sparse.get d m k := by
  unfold Sparse.set
  split
  · exact Sparse.get_del_ne d m h
  · rw [Sparse.get_ins d _ q k x (Sparse.not_mem_del m q), if_neg (Ne.symm h), Sparse.get_del_ne d m h]

/-- A write leaves every other key alone, whatever default the reader takes. -/
theorem Sparse.get_set_ne' (d d' : α) (m : List (Nat × α)) {q k : Nat} (x : α) (h : k ≠ q) :
    Sparse.get d' (Sparse.set d m q x) k = Sparse.get d' m k := by
  unfold Sparse.set
  split
  · exact Sparse.get_del_ne d' m h
  · rw [Sparse.get_ins d' _ q k x (Sparse.not_mem_del m q), if_neg (Ne.symm h), Sparse.get_del_ne d' m h]

/-- A read after a write of any key. -/
theorem Sparse.get_set (d : α) (m : List (Nat × α)) (q k : Nat) (x : α) :
    Sparse.get d (Sparse.set d m q x) k = if k = q then x else Sparse.get d m k := by
  split
  · next h => rw [h, Sparse.get_set_self]
  · next h => exact Sparse.get_set_ne d m x h

/-- The last write of a key stands. -/
@[simp] theorem Sparse.set_set (d : α) (m : List (Nat × α)) (q : Nat) (x y : α) :
    Sparse.set d (Sparse.set d m q x) q y = Sparse.set d m q y := by
  have hd : Sparse.del q (Sparse.set d m q x) = Sparse.del q m := by
    unfold Sparse.set
    split
    · exact Sparse.del_eq_self _ q (Sparse.not_mem_del m q)
    · exact Sparse.del_ins _ q x (Sparse.not_mem_del m q)
  unfold Sparse.set at hd ⊢
  rw [hd]

/-- Head bound of a canonical map: every key is above `lo`. -/
def Sparse.above (lo : Nat) (m : List (Nat × α)) : Prop := ∀ e ∈ m, lo < e.1

theorem Sparse.wf_tail {d : α} {e : Nat × α} {m : List (Nat × α)} (h : Sparse.wf d (e :: m) = true) :
    Sparse.wf d m = true := by
  obtain ⟨k, v⟩ := e
  cases m with
  | nil => rfl
  | cons f r => obtain ⟨k', v'⟩ := f; simp [Sparse.wf] at h; exact h.2

theorem Sparse.wf_head {d : α} {k : Nat} {v : α} {m : List (Nat × α)} (h : Sparse.wf d ((k, v) :: m) = true) :
    v ≠ d ∧ Sparse.above k m := by
  induction m generalizing k v with
  | nil => simp [Sparse.wf] at h; exact ⟨h, by simp [Sparse.above]⟩
  | cons f r ih =>
    obtain ⟨k', v'⟩ := f
    simp [Sparse.wf] at h
    refine ⟨h.1.1, ?_⟩
    intro e he
    rcases List.mem_cons.mp he with rfl | he
    · exact h.1.2
    · exact Nat.lt_trans h.1.2 ((ih h.2).2 e he)

theorem Sparse.wf_cons {d : α} {k : Nat} {v : α} {m : List (Nat × α)} (hv : v ≠ d) (ha : Sparse.above k m)
    (hm : Sparse.wf d m = true) : Sparse.wf d ((k, v) :: m) = true := by
  cases m with
  | nil => simp [Sparse.wf, hv]
  | cons f r =>
    obtain ⟨k', v'⟩ := f
    have := ha (k', v') List.mem_cons_self
    simp [Sparse.wf, hv, hm, this]

omit [DecidableEq α] in
theorem Sparse.del_above {lo q : Nat} {m : List (Nat × α)} (h : Sparse.above lo m) :
    Sparse.above lo (Sparse.del q m) := by
  induction m with
  | nil => simpa [Sparse.del] using h
  | cons e r ih =>
    obtain ⟨k, v⟩ := e
    have hr := ih fun e he => h e (List.mem_cons_of_mem _ he)
    by_cases hk : k = q
    · simpa [Sparse.del, hk] using hr
    · intro e he
      simp only [Sparse.del, hk, if_false, List.mem_cons] at he
      rcases he with rfl | he
      · exact h _ List.mem_cons_self
      · exact hr e he

omit [DecidableEq α] in
theorem Sparse.ins_above {lo q : Nat} {x : α} {m : List (Nat × α)} (h : Sparse.above lo m) (hq : lo < q) :
    Sparse.above lo (Sparse.ins q x m) := by
  induction m with
  | nil => simpa [Sparse.ins, Sparse.above] using hq
  | cons e r ih =>
    obtain ⟨k, v⟩ := e
    have hr := ih fun e he => h e (List.mem_cons_of_mem _ he)
    intro e he
    by_cases hlt : q < k
    · simp only [Sparse.ins, hlt, if_true, List.mem_cons] at he
      rcases he with rfl | he
      · exact hq
      · exact h e (List.mem_cons.mpr he)
    · simp only [Sparse.ins, hlt, if_false, List.mem_cons] at he
      rcases he with rfl | he
      · exact h _ List.mem_cons_self
      · exact hr e he

theorem Sparse.wf_del {d : α} {m : List (Nat × α)} (q : Nat) (h : Sparse.wf d m = true) :
    Sparse.wf d (Sparse.del q m) = true := by
  induction m with
  | nil => rfl
  | cons e r ih =>
    obtain ⟨k, v⟩ := e
    have hh := Sparse.wf_head h
    have hr := ih (Sparse.wf_tail h)
    by_cases hk : k = q
    · simpa [Sparse.del, hk] using hr
    · simpa [Sparse.del, hk] using Sparse.wf_cons hh.1 (Sparse.del_above hh.2) hr

theorem Sparse.wf_ins {d : α} {m : List (Nat × α)} (q : Nat) {x : α} (hx : x ≠ d) (hq : ∀ e ∈ m, e.1 ≠ q)
    (h : Sparse.wf d m = true) : Sparse.wf d (Sparse.ins q x m) = true := by
  induction m with
  | nil => simp [Sparse.ins, Sparse.wf, hx]
  | cons e r ih =>
    obtain ⟨k, v⟩ := e
    have hh := Sparse.wf_head h
    have hr := ih (fun e he => hq e (List.mem_cons_of_mem _ he)) (Sparse.wf_tail h)
    have hk : k ≠ q := hq _ List.mem_cons_self
    by_cases hlt : q < k
    · simp only [Sparse.ins, hlt, if_true]
      refine Sparse.wf_cons hx ?_ h
      intro e he
      rcases List.mem_cons.mp he with rfl | he
      · exact hlt
      · exact Nat.lt_trans hlt (hh.2 e he)
    · simp only [Sparse.ins, hlt, if_false]
      exact Sparse.wf_cons hh.1 (Sparse.ins_above hh.2 (by omega)) hr

/-- A write keeps the canonical form. -/
theorem Sparse.wf_set {d : α} {m : List (Nat × α)} (q : Nat) (x : α) (h : Sparse.wf d m = true) :
    Sparse.wf d (Sparse.set d m q x) = true := by
  unfold Sparse.set
  split
  · exact Sparse.wf_del q h
  · next hx => exact Sparse.wf_ins q hx (Sparse.not_mem_del m q) (Sparse.wf_del q h)

omit [DecidableEq α] in
theorem Sparse.filter_above {lo : Nat} {m : List (Nat × α)} (f : Nat × α → Bool) (h : Sparse.above lo m) :
    Sparse.above lo (m.filter f) := fun e he => h e (List.mem_filter.mp he).1

/-- Removing entries keeps the canonical form. -/
theorem Sparse.wf_filter {d : α} {m : List (Nat × α)} (f : Nat × α → Bool) (h : Sparse.wf d m = true) :
    Sparse.wf d (m.filter f) = true := by
  induction m with
  | nil => rfl
  | cons e r ih =>
    obtain ⟨k, v⟩ := e
    have hh := Sparse.wf_head h
    have hr := ih (Sparse.wf_tail h)
    by_cases hf : f (k, v) = true
    · simpa [List.filter_cons, hf] using Sparse.wf_cons hh.1 (Sparse.filter_above f hh.2) hr
    · simpa [List.filter_cons, hf] using hr

end Sys2Proof.Machine
end

