-- ==== Sys2Proof/Laws/State.lean ====
section
/-! SUPPORT. What each named update of State leaves alone, field by field, and that memory keeps its canonical form. -/

namespace Sys2Proof.Machine

variable (s : State)

/-! ### State.emit -/

@[simp] theorem State.emit_pending (o : Output) : (s.emit o).pending = s.pending := rfl
@[simp] theorem State.emit_regs (o : Output) : (s.emit o).regs = s.regs := rfl
@[simp] theorem State.emit_held (o : Output) : (s.emit o).held = s.held := rfl
@[simp] theorem State.emit_mem (o : Output) : (s.emit o).mem = s.mem := rfl
@[simp] theorem State.emit_tags (o : Output) : (s.emit o).tags = s.tags := rfl
@[simp] theorem State.emit_badWords (o : Output) : (s.emit o).badWords = s.badWords := rfl
@[simp] theorem State.emit_routes (o : Output) : (s.emit o).routes = s.routes := rfl
@[simp] theorem State.emit_sent (o : Output) : (s.emit o).sent = s.sent := rfl
@[simp] theorem State.emit_swNow (o : Output) : (s.emit o).swNow = s.swNow := rfl
@[simp] theorem State.emit_sevg (o : Output) : (s.emit o).sevg = s.sevg := rfl
@[simp] theorem State.emit_sevs (o : Output) : (s.emit o).sevs = s.sevs := rfl
@[simp] theorem State.emit_stroke (o : Output) : (s.emit o).stroke = s.stroke := rfl
@[simp] theorem State.emit_archOn (o : Output) : (s.emit o).archOn = s.archOn := rfl
@[simp] theorem State.emit_planWipe (o : Output) : (s.emit o).planWipe = s.planWipe := rfl
@[simp] theorem State.emit_dropping (o : Output) : (s.emit o).dropping = s.dropping := rfl
@[simp] theorem State.emit_planFloor (o : Output) : (s.emit o).planFloor = s.planFloor := rfl
@[simp] theorem State.emit_sigs (o : Output) : (s.emit o).sigs = s.sigs := rfl
@[simp] theorem State.emit_unitDue (o : Output) : (s.emit o).unitDue = s.unitDue := rfl
@[simp] theorem State.emit_late (o : Output) : (s.emit o).late = s.late := rfl
@[simp] theorem State.emit_heldW0 (o : Output) : (s.emit o).heldW0 = s.heldW0 := rfl
@[simp] theorem State.emit_shLog (o : Output) : (s.emit o).shLog = s.shLog := rfl
@[simp] theorem State.emit_lockBad (o : Output) : (s.emit o).lockBad = s.lockBad := rfl
@[simp] theorem State.emit_lock (o : Output) : (s.emit o).lock = s.lock := rfl
@[simp] theorem State.emit_evtHigh (o : Output) : (s.emit o).evtHigh = s.evtHigh := rfl
@[simp] theorem State.emit_ksCopy (o : Output) : (s.emit o).ksCopy = s.ksCopy := rfl
@[simp] theorem State.emit_wall (o : Output) : (s.emit o).wall = s.wall := rfl
@[simp] theorem State.emit_acuBase (o : Output) : (s.emit o).acuBase = s.acuBase := rfl
@[simp] theorem State.emit_acuAttr (o : Output) : (s.emit o).acuAttr = s.acuAttr := rfl
@[simp] theorem State.emit_acuBaseSh (o : Output) : (s.emit o).acuBaseSh = s.acuBaseSh := rfl
@[simp] theorem State.emit_acuAttrSh (o : Output) : (s.emit o).acuAttrSh = s.acuAttrSh := rfl
@[simp] theorem State.emit_acuEcc (o : Output) : (s.emit o).acuEcc = s.acuEcc := rfl
@[simp] theorem State.emit_dual (o : Output) : (s.emit o).dual = s.dual := rfl
@[simp] theorem State.emit_mort (o : Output) : (s.emit o).mort = s.mort := rfl
@[simp] theorem State.emit_cox (o : Output) : (s.emit o).cox = s.cox := rfl
@[simp] theorem State.emit_plans (o : Output) : (s.emit o).plans = s.plans := rfl
@[simp] theorem State.emit_intake (o : Output) : (s.emit o).intake = s.intake := rfl
@[simp] theorem State.emit_audit (o : Output) : (s.emit o).audit = s.audit := rfl
@[simp] theorem State.emit_procs (o : Output) : (s.emit o).procs = s.procs := rfl
@[simp] theorem State.emit_pke (o : Output) : (s.emit o).pke = s.pke := rfl
@[simp] theorem State.emit_cluster (o : Output) : (s.emit o).cluster = s.cluster := rfl
@[simp] theorem State.emit_hsh (o : Output) : (s.emit o).hsh = s.hsh := rfl
@[simp] theorem State.emit_cip (o : Output) : (s.emit o).cip = s.cip := rfl
@[simp] theorem State.emit_ptn (o : Output) : (s.emit o).ptn = s.ptn := rfl
@[simp] theorem State.emit_tim (o : Output) : (s.emit o).tim = s.tim := rfl
@[simp] theorem State.emit_aon (o : Output) : (s.emit o).aon = s.aon := rfl
@[simp] theorem State.emit_jnl (o : Output) : (s.emit o).jnl = s.jnl := rfl
@[simp] theorem State.emit_sgm (o : Output) : (s.emit o).sgm = s.sgm := rfl
@[simp] theorem State.emit_moverW (o : Output) : (s.emit o).moverW = s.moverW := rfl
@[simp] theorem State.emit_moverE (o : Output) : (s.emit o).moverE = s.moverE := rfl
@[simp] theorem State.emit_eth (o : Output) : (s.emit o).eth = s.eth := rfl
@[simp] theorem State.emit_fsp (o : Output) : (s.emit o).fsp = s.fsp := rfl
@[simp] theorem State.emit_egress (o : Output) : (s.emit o).egress = s.egress := rfl
@[simp] theorem State.emit_pci (o : Output) : (s.emit o).pci = s.pci := rfl
@[simp] theorem State.emit_kst (o : Output) : (s.emit o).kst = s.kst := rfl
@[simp] theorem State.emit_jnt (o : Output) : (s.emit o).jnt = s.jnt := rfl
@[simp] theorem State.emit_lcs (o : Output) : (s.emit o).lcs = s.lcs := rfl
@[simp] theorem State.emit_dbg (o : Output) : (s.emit o).dbg = s.dbg := rfl
@[simp] theorem State.emit_tmp (o : Output) : (s.emit o).tmp = s.tmp := rfl
@[simp] theorem State.emit_flc (o : Output) : (s.emit o).flc = s.flc := rfl
@[simp] theorem State.emit_crd (o : Output) : (s.emit o).crd = s.crd := rfl
@[simp] theorem State.emit_sdh (o : Output) : (s.emit o).sdh = s.sdh := rfl
@[simp] theorem State.emit_nfc (o : Output) : (s.emit o).nfc = s.nfc := rfl
@[simp] theorem State.emit_pwr (o : Output) : (s.emit o).pwr = s.pwr := rfl
@[simp] theorem State.emit_pairM (o : Output) : (s.emit o).pairM = s.pairM := rfl
@[simp] theorem State.emit_ingress (o : Output) : (s.emit o).ingress = s.ingress := rfl
@[simp] theorem State.emit_released (o : Output) : (s.emit o).released = s.released := rfl
@[simp] theorem State.emit_free (o : Output) : (s.emit o).free = s.free := rfl

/-! ### State.draw -/

@[simp] theorem State.draw_pending  : (s.draw).pending = s.pending := rfl
@[simp] theorem State.draw_regs  : (s.draw).regs = s.regs := rfl
@[simp] theorem State.draw_held  : (s.draw).held = s.held := rfl
@[simp] theorem State.draw_mem  : (s.draw).mem = s.mem := rfl
@[simp] theorem State.draw_tags  : (s.draw).tags = s.tags := rfl
@[simp] theorem State.draw_badWords  : (s.draw).badWords = s.badWords := rfl
@[simp] theorem State.draw_routes  : (s.draw).routes = s.routes := rfl
@[simp] theorem State.draw_sent  : (s.draw).sent = s.sent := rfl
@[simp] theorem State.draw_swNow  : (s.draw).swNow = s.swNow := rfl
@[simp] theorem State.draw_sevg  : (s.draw).sevg = s.sevg := rfl
@[simp] theorem State.draw_sevs  : (s.draw).sevs = s.sevs := rfl
@[simp] theorem State.draw_stroke  : (s.draw).stroke = s.stroke := rfl
@[simp] theorem State.draw_archOn  : (s.draw).archOn = s.archOn := rfl
@[simp] theorem State.draw_planWipe  : (s.draw).planWipe = s.planWipe := rfl
@[simp] theorem State.draw_dropping  : (s.draw).dropping = s.dropping := rfl
@[simp] theorem State.draw_planFloor  : (s.draw).planFloor = s.planFloor := rfl
@[simp] theorem State.draw_sigs  : (s.draw).sigs = s.sigs := rfl
@[simp] theorem State.draw_unitDue  : (s.draw).unitDue = s.unitDue := rfl
@[simp] theorem State.draw_late  : (s.draw).late = s.late := rfl
@[simp] theorem State.draw_heldW0  : (s.draw).heldW0 = s.heldW0 := rfl
@[simp] theorem State.draw_shLog  : (s.draw).shLog = s.shLog := rfl
@[simp] theorem State.draw_lockBad  : (s.draw).lockBad = s.lockBad := rfl
@[simp] theorem State.draw_lock  : (s.draw).lock = s.lock := rfl
@[simp] theorem State.draw_evtHigh  : (s.draw).evtHigh = s.evtHigh := rfl
@[simp] theorem State.draw_ksCopy  : (s.draw).ksCopy = s.ksCopy := rfl
@[simp] theorem State.draw_wall  : (s.draw).wall = s.wall := rfl
@[simp] theorem State.draw_acuBase  : (s.draw).acuBase = s.acuBase := rfl
@[simp] theorem State.draw_acuAttr  : (s.draw).acuAttr = s.acuAttr := rfl
@[simp] theorem State.draw_acuBaseSh  : (s.draw).acuBaseSh = s.acuBaseSh := rfl
@[simp] theorem State.draw_acuAttrSh  : (s.draw).acuAttrSh = s.acuAttrSh := rfl
@[simp] theorem State.draw_acuEcc  : (s.draw).acuEcc = s.acuEcc := rfl
@[simp] theorem State.draw_dual  : (s.draw).dual = s.dual := rfl
@[simp] theorem State.draw_mort  : (s.draw).mort = s.mort := rfl
@[simp] theorem State.draw_cox  : (s.draw).cox = s.cox := rfl
@[simp] theorem State.draw_plans  : (s.draw).plans = s.plans := rfl
@[simp] theorem State.draw_intake  : (s.draw).intake = s.intake := rfl
@[simp] theorem State.draw_audit  : (s.draw).audit = s.audit := rfl
@[simp] theorem State.draw_procs  : (s.draw).procs = s.procs := rfl
@[simp] theorem State.draw_pke  : (s.draw).pke = s.pke := rfl
@[simp] theorem State.draw_cluster  : (s.draw).cluster = s.cluster := rfl
@[simp] theorem State.draw_hsh  : (s.draw).hsh = s.hsh := rfl
@[simp] theorem State.draw_cip  : (s.draw).cip = s.cip := rfl
@[simp] theorem State.draw_ptn  : (s.draw).ptn = s.ptn := rfl
@[simp] theorem State.draw_tim  : (s.draw).tim = s.tim := rfl
@[simp] theorem State.draw_aon  : (s.draw).aon = s.aon := rfl
@[simp] theorem State.draw_jnl  : (s.draw).jnl = s.jnl := rfl
@[simp] theorem State.draw_sgm  : (s.draw).sgm = s.sgm := rfl
@[simp] theorem State.draw_moverW  : (s.draw).moverW = s.moverW := rfl
@[simp] theorem State.draw_moverE  : (s.draw).moverE = s.moverE := rfl
@[simp] theorem State.draw_eth  : (s.draw).eth = s.eth := rfl
@[simp] theorem State.draw_fsp  : (s.draw).fsp = s.fsp := rfl
@[simp] theorem State.draw_egress  : (s.draw).egress = s.egress := rfl
@[simp] theorem State.draw_pci  : (s.draw).pci = s.pci := rfl
@[simp] theorem State.draw_kst  : (s.draw).kst = s.kst := rfl
@[simp] theorem State.draw_jnt  : (s.draw).jnt = s.jnt := rfl
@[simp] theorem State.draw_lcs  : (s.draw).lcs = s.lcs := rfl
@[simp] theorem State.draw_dbg  : (s.draw).dbg = s.dbg := rfl
@[simp] theorem State.draw_tmp  : (s.draw).tmp = s.tmp := rfl
@[simp] theorem State.draw_flc  : (s.draw).flc = s.flc := rfl
@[simp] theorem State.draw_crd  : (s.draw).crd = s.crd := rfl
@[simp] theorem State.draw_sdh  : (s.draw).sdh = s.sdh := rfl
@[simp] theorem State.draw_nfc  : (s.draw).nfc = s.nfc := rfl
@[simp] theorem State.draw_pwr  : (s.draw).pwr = s.pwr := rfl
@[simp] theorem State.draw_pairM  : (s.draw).pairM = s.pairM := rfl
@[simp] theorem State.draw_ingress  : (s.draw).ingress = s.ingress := rfl
@[simp] theorem State.draw_released  : (s.draw).released = s.released := rfl
@[simp] theorem State.draw_out  : (s.draw).out = s.out := rfl

/-! ### State.setReg -/

@[simp] theorem State.setReg_pending (b : Block) (i off : Nat) (v : Word) : (s.setReg b i off v).pending = s.pending := rfl
@[simp] theorem State.setReg_held (b : Block) (i off : Nat) (v : Word) : (s.setReg b i off v).held = s.held := rfl
@[simp] theorem State.setReg_mem (b : Block) (i off : Nat) (v : Word) : (s.setReg b i off v).mem = s.mem := rfl
@[simp] theorem State.setReg_tags (b : Block) (i off : Nat) (v : Word) : (s.setReg b i off v).tags = s.tags := rfl
@[simp] theorem State.setReg_badWords (b : Block) (i off : Nat) (v : Word) : (s.setReg b i off v).badWords = s.badWords := rfl
@[simp] theorem State.setReg_routes (b : Block) (i off : Nat) (v : Word) : (s.setReg b i off v).routes = s.routes := rfl
@[simp] theorem State.setReg_sent (b : Block) (i off : Nat) (v : Word) : (s.setReg b i off v).sent = s.sent := rfl
@[simp] theorem State.setReg_swNow (b : Block) (i off : Nat) (v : Word) : (s.setReg b i off v).swNow = s.swNow := rfl
@[simp] theorem State.setReg_sevg (b : Block) (i off : Nat) (v : Word) : (s.setReg b i off v).sevg = s.sevg := rfl
@[simp] theorem State.setReg_sevs (b : Block) (i off : Nat) (v : Word) : (s.setReg b i off v).sevs = s.sevs := rfl
@[simp] theorem State.setReg_stroke (b : Block) (i off : Nat) (v : Word) : (s.setReg b i off v).stroke = s.stroke := rfl
@[simp] theorem State.setReg_archOn (b : Block) (i off : Nat) (v : Word) : (s.setReg b i off v).archOn = s.archOn := rfl
@[simp] theorem State.setReg_planWipe (b : Block) (i off : Nat) (v : Word) : (s.setReg b i off v).planWipe = s.planWipe := rfl
@[simp] theorem State.setReg_dropping (b : Block) (i off : Nat) (v : Word) : (s.setReg b i off v).dropping = s.dropping := rfl
@[simp] theorem State.setReg_planFloor (b : Block) (i off : Nat) (v : Word) : (s.setReg b i off v).planFloor = s.planFloor := rfl
@[simp] theorem State.setReg_sigs (b : Block) (i off : Nat) (v : Word) : (s.setReg b i off v).sigs = s.sigs := rfl
@[simp] theorem State.setReg_unitDue (b : Block) (i off : Nat) (v : Word) : (s.setReg b i off v).unitDue = s.unitDue := rfl
@[simp] theorem State.setReg_late (b : Block) (i off : Nat) (v : Word) : (s.setReg b i off v).late = s.late := rfl
@[simp] theorem State.setReg_heldW0 (b : Block) (i off : Nat) (v : Word) : (s.setReg b i off v).heldW0 = s.heldW0 := rfl
@[simp] theorem State.setReg_shLog (b : Block) (i off : Nat) (v : Word) : (s.setReg b i off v).shLog = s.shLog := rfl
@[simp] theorem State.setReg_lockBad (b : Block) (i off : Nat) (v : Word) : (s.setReg b i off v).lockBad = s.lockBad := rfl
@[simp] theorem State.setReg_lock (b : Block) (i off : Nat) (v : Word) : (s.setReg b i off v).lock = s.lock := rfl
@[simp] theorem State.setReg_evtHigh (b : Block) (i off : Nat) (v : Word) : (s.setReg b i off v).evtHigh = s.evtHigh := rfl
@[simp] theorem State.setReg_ksCopy (b : Block) (i off : Nat) (v : Word) : (s.setReg b i off v).ksCopy = s.ksCopy := rfl
@[simp] theorem State.setReg_wall (b : Block) (i off : Nat) (v : Word) : (s.setReg b i off v).wall = s.wall := rfl
@[simp] theorem State.setReg_acuBase (b : Block) (i off : Nat) (v : Word) : (s.setReg b i off v).acuBase = s.acuBase := rfl
@[simp] theorem State.setReg_acuAttr (b : Block) (i off : Nat) (v : Word) : (s.setReg b i off v).acuAttr = s.acuAttr := rfl
@[simp] theorem State.setReg_acuBaseSh (b : Block) (i off : Nat) (v : Word) : (s.setReg b i off v).acuBaseSh = s.acuBaseSh := rfl
@[simp] theorem State.setReg_acuAttrSh (b : Block) (i off : Nat) (v : Word) : (s.setReg b i off v).acuAttrSh = s.acuAttrSh := rfl
@[simp] theorem State.setReg_acuEcc (b : Block) (i off : Nat) (v : Word) : (s.setReg b i off v).acuEcc = s.acuEcc := rfl
@[simp] theorem State.setReg_dual (b : Block) (i off : Nat) (v : Word) : (s.setReg b i off v).dual = s.dual := rfl
@[simp] theorem State.setReg_mort (b : Block) (i off : Nat) (v : Word) : (s.setReg b i off v).mort = s.mort := rfl
@[simp] theorem State.setReg_cox (b : Block) (i off : Nat) (v : Word) : (s.setReg b i off v).cox = s.cox := rfl
@[simp] theorem State.setReg_plans (b : Block) (i off : Nat) (v : Word) : (s.setReg b i off v).plans = s.plans := rfl
@[simp] theorem State.setReg_intake (b : Block) (i off : Nat) (v : Word) : (s.setReg b i off v).intake = s.intake := rfl
@[simp] theorem State.setReg_audit (b : Block) (i off : Nat) (v : Word) : (s.setReg b i off v).audit = s.audit := rfl
@[simp] theorem State.setReg_procs (b : Block) (i off : Nat) (v : Word) : (s.setReg b i off v).procs = s.procs := rfl
@[simp] theorem State.setReg_pke (b : Block) (i off : Nat) (v : Word) : (s.setReg b i off v).pke = s.pke := rfl
@[simp] theorem State.setReg_cluster (b : Block) (i off : Nat) (v : Word) : (s.setReg b i off v).cluster = s.cluster := rfl
@[simp] theorem State.setReg_hsh (b : Block) (i off : Nat) (v : Word) : (s.setReg b i off v).hsh = s.hsh := rfl
@[simp] theorem State.setReg_cip (b : Block) (i off : Nat) (v : Word) : (s.setReg b i off v).cip = s.cip := rfl
@[simp] theorem State.setReg_ptn (b : Block) (i off : Nat) (v : Word) : (s.setReg b i off v).ptn = s.ptn := rfl
@[simp] theorem State.setReg_tim (b : Block) (i off : Nat) (v : Word) : (s.setReg b i off v).tim = s.tim := rfl
@[simp] theorem State.setReg_aon (b : Block) (i off : Nat) (v : Word) : (s.setReg b i off v).aon = s.aon := rfl
@[simp] theorem State.setReg_jnl (b : Block) (i off : Nat) (v : Word) : (s.setReg b i off v).jnl = s.jnl := rfl
@[simp] theorem State.setReg_sgm (b : Block) (i off : Nat) (v : Word) : (s.setReg b i off v).sgm = s.sgm := rfl
@[simp] theorem State.setReg_moverW (b : Block) (i off : Nat) (v : Word) : (s.setReg b i off v).moverW = s.moverW := rfl
@[simp] theorem State.setReg_moverE (b : Block) (i off : Nat) (v : Word) : (s.setReg b i off v).moverE = s.moverE := rfl
@[simp] theorem State.setReg_eth (b : Block) (i off : Nat) (v : Word) : (s.setReg b i off v).eth = s.eth := rfl
@[simp] theorem State.setReg_fsp (b : Block) (i off : Nat) (v : Word) : (s.setReg b i off v).fsp = s.fsp := rfl
@[simp] theorem State.setReg_egress (b : Block) (i off : Nat) (v : Word) : (s.setReg b i off v).egress = s.egress := rfl
@[simp] theorem State.setReg_pci (b : Block) (i off : Nat) (v : Word) : (s.setReg b i off v).pci = s.pci := rfl
@[simp] theorem State.setReg_kst (b : Block) (i off : Nat) (v : Word) : (s.setReg b i off v).kst = s.kst := rfl
@[simp] theorem State.setReg_jnt (b : Block) (i off : Nat) (v : Word) : (s.setReg b i off v).jnt = s.jnt := rfl
@[simp] theorem State.setReg_lcs (b : Block) (i off : Nat) (v : Word) : (s.setReg b i off v).lcs = s.lcs := rfl
@[simp] theorem State.setReg_dbg (b : Block) (i off : Nat) (v : Word) : (s.setReg b i off v).dbg = s.dbg := rfl
@[simp] theorem State.setReg_tmp (b : Block) (i off : Nat) (v : Word) : (s.setReg b i off v).tmp = s.tmp := rfl
@[simp] theorem State.setReg_flc (b : Block) (i off : Nat) (v : Word) : (s.setReg b i off v).flc = s.flc := rfl
@[simp] theorem State.setReg_crd (b : Block) (i off : Nat) (v : Word) : (s.setReg b i off v).crd = s.crd := rfl
@[simp] theorem State.setReg_sdh (b : Block) (i off : Nat) (v : Word) : (s.setReg b i off v).sdh = s.sdh := rfl
@[simp] theorem State.setReg_nfc (b : Block) (i off : Nat) (v : Word) : (s.setReg b i off v).nfc = s.nfc := rfl
@[simp] theorem State.setReg_pwr (b : Block) (i off : Nat) (v : Word) : (s.setReg b i off v).pwr = s.pwr := rfl
@[simp] theorem State.setReg_pairM (b : Block) (i off : Nat) (v : Word) : (s.setReg b i off v).pairM = s.pairM := rfl
@[simp] theorem State.setReg_ingress (b : Block) (i off : Nat) (v : Word) : (s.setReg b i off v).ingress = s.ingress := rfl
@[simp] theorem State.setReg_released (b : Block) (i off : Nat) (v : Word) : (s.setReg b i off v).released = s.released := rfl
@[simp] theorem State.setReg_free (b : Block) (i off : Nat) (v : Word) : (s.setReg b i off v).free = s.free := rfl
@[simp] theorem State.setReg_out (b : Block) (i off : Nat) (v : Word) : (s.setReg b i off v).out = s.out := rfl

/-! ### State.setProc -/

@[simp] theorem State.setProc_pending (p : ProcId) (x : Proc) : (s.setProc p x).pending = s.pending := rfl
@[simp] theorem State.setProc_regs (p : ProcId) (x : Proc) : (s.setProc p x).regs = s.regs := rfl
@[simp] theorem State.setProc_held (p : ProcId) (x : Proc) : (s.setProc p x).held = s.held := rfl
@[simp] theorem State.setProc_mem (p : ProcId) (x : Proc) : (s.setProc p x).mem = s.mem := rfl
@[simp] theorem State.setProc_tags (p : ProcId) (x : Proc) : (s.setProc p x).tags = s.tags := rfl
@[simp] theorem State.setProc_badWords (p : ProcId) (x : Proc) : (s.setProc p x).badWords = s.badWords := rfl
@[simp] theorem State.setProc_routes (p : ProcId) (x : Proc) : (s.setProc p x).routes = s.routes := rfl
@[simp] theorem State.setProc_sent (p : ProcId) (x : Proc) : (s.setProc p x).sent = s.sent := rfl
@[simp] theorem State.setProc_swNow (p : ProcId) (x : Proc) : (s.setProc p x).swNow = s.swNow := rfl
@[simp] theorem State.setProc_sevg (p : ProcId) (x : Proc) : (s.setProc p x).sevg = s.sevg := rfl
@[simp] theorem State.setProc_sevs (p : ProcId) (x : Proc) : (s.setProc p x).sevs = s.sevs := rfl
@[simp] theorem State.setProc_stroke (p : ProcId) (x : Proc) : (s.setProc p x).stroke = s.stroke := rfl
@[simp] theorem State.setProc_archOn (p : ProcId) (x : Proc) : (s.setProc p x).archOn = s.archOn := rfl
@[simp] theorem State.setProc_planWipe (p : ProcId) (x : Proc) : (s.setProc p x).planWipe = s.planWipe := rfl
@[simp] theorem State.setProc_dropping (p : ProcId) (x : Proc) : (s.setProc p x).dropping = s.dropping := rfl
@[simp] theorem State.setProc_planFloor (p : ProcId) (x : Proc) : (s.setProc p x).planFloor = s.planFloor := rfl
@[simp] theorem State.setProc_sigs (p : ProcId) (x : Proc) : (s.setProc p x).sigs = s.sigs := rfl
@[simp] theorem State.setProc_unitDue (p : ProcId) (x : Proc) : (s.setProc p x).unitDue = s.unitDue := rfl
@[simp] theorem State.setProc_late (p : ProcId) (x : Proc) : (s.setProc p x).late = s.late := rfl
@[simp] theorem State.setProc_heldW0 (p : ProcId) (x : Proc) : (s.setProc p x).heldW0 = s.heldW0 := rfl
@[simp] theorem State.setProc_shLog (p : ProcId) (x : Proc) : (s.setProc p x).shLog = s.shLog := rfl
@[simp] theorem State.setProc_lockBad (p : ProcId) (x : Proc) : (s.setProc p x).lockBad = s.lockBad := rfl
@[simp] theorem State.setProc_lock (p : ProcId) (x : Proc) : (s.setProc p x).lock = s.lock := rfl
@[simp] theorem State.setProc_evtHigh (p : ProcId) (x : Proc) : (s.setProc p x).evtHigh = s.evtHigh := rfl
@[simp] theorem State.setProc_ksCopy (p : ProcId) (x : Proc) : (s.setProc p x).ksCopy = s.ksCopy := rfl
@[simp] theorem State.setProc_wall (p : ProcId) (x : Proc) : (s.setProc p x).wall = s.wall := rfl
@[simp] theorem State.setProc_acuBase (p : ProcId) (x : Proc) : (s.setProc p x).acuBase = s.acuBase := rfl
@[simp] theorem State.setProc_acuAttr (p : ProcId) (x : Proc) : (s.setProc p x).acuAttr = s.acuAttr := rfl
@[simp] theorem State.setProc_acuBaseSh (p : ProcId) (x : Proc) : (s.setProc p x).acuBaseSh = s.acuBaseSh := rfl
@[simp] theorem State.setProc_acuAttrSh (p : ProcId) (x : Proc) : (s.setProc p x).acuAttrSh = s.acuAttrSh := rfl
@[simp] theorem State.setProc_acuEcc (p : ProcId) (x : Proc) : (s.setProc p x).acuEcc = s.acuEcc := rfl
@[simp] theorem State.setProc_dual (p : ProcId) (x : Proc) : (s.setProc p x).dual = s.dual := rfl
@[simp] theorem State.setProc_mort (p : ProcId) (x : Proc) : (s.setProc p x).mort = s.mort := rfl
@[simp] theorem State.setProc_cox (p : ProcId) (x : Proc) : (s.setProc p x).cox = s.cox := rfl
@[simp] theorem State.setProc_plans (p : ProcId) (x : Proc) : (s.setProc p x).plans = s.plans := rfl
@[simp] theorem State.setProc_intake (p : ProcId) (x : Proc) : (s.setProc p x).intake = s.intake := rfl
@[simp] theorem State.setProc_audit (p : ProcId) (x : Proc) : (s.setProc p x).audit = s.audit := rfl
@[simp] theorem State.setProc_pke (p : ProcId) (x : Proc) : (s.setProc p x).pke = s.pke := rfl
@[simp] theorem State.setProc_cluster (p : ProcId) (x : Proc) : (s.setProc p x).cluster = s.cluster := rfl
@[simp] theorem State.setProc_hsh (p : ProcId) (x : Proc) : (s.setProc p x).hsh = s.hsh := rfl
@[simp] theorem State.setProc_cip (p : ProcId) (x : Proc) : (s.setProc p x).cip = s.cip := rfl
@[simp] theorem State.setProc_ptn (p : ProcId) (x : Proc) : (s.setProc p x).ptn = s.ptn := rfl
@[simp] theorem State.setProc_tim (p : ProcId) (x : Proc) : (s.setProc p x).tim = s.tim := rfl
@[simp] theorem State.setProc_aon (p : ProcId) (x : Proc) : (s.setProc p x).aon = s.aon := rfl
@[simp] theorem State.setProc_jnl (p : ProcId) (x : Proc) : (s.setProc p x).jnl = s.jnl := rfl
@[simp] theorem State.setProc_sgm (p : ProcId) (x : Proc) : (s.setProc p x).sgm = s.sgm := rfl
@[simp] theorem State.setProc_moverW (p : ProcId) (x : Proc) : (s.setProc p x).moverW = s.moverW := rfl
@[simp] theorem State.setProc_moverE (p : ProcId) (x : Proc) : (s.setProc p x).moverE = s.moverE := rfl
@[simp] theorem State.setProc_eth (p : ProcId) (x : Proc) : (s.setProc p x).eth = s.eth := rfl
@[simp] theorem State.setProc_fsp (p : ProcId) (x : Proc) : (s.setProc p x).fsp = s.fsp := rfl
@[simp] theorem State.setProc_egress (p : ProcId) (x : Proc) : (s.setProc p x).egress = s.egress := rfl
@[simp] theorem State.setProc_pci (p : ProcId) (x : Proc) : (s.setProc p x).pci = s.pci := rfl
@[simp] theorem State.setProc_kst (p : ProcId) (x : Proc) : (s.setProc p x).kst = s.kst := rfl
@[simp] theorem State.setProc_jnt (p : ProcId) (x : Proc) : (s.setProc p x).jnt = s.jnt := rfl
@[simp] theorem State.setProc_lcs (p : ProcId) (x : Proc) : (s.setProc p x).lcs = s.lcs := rfl
@[simp] theorem State.setProc_dbg (p : ProcId) (x : Proc) : (s.setProc p x).dbg = s.dbg := rfl
@[simp] theorem State.setProc_tmp (p : ProcId) (x : Proc) : (s.setProc p x).tmp = s.tmp := rfl
@[simp] theorem State.setProc_flc (p : ProcId) (x : Proc) : (s.setProc p x).flc = s.flc := rfl
@[simp] theorem State.setProc_crd (p : ProcId) (x : Proc) : (s.setProc p x).crd = s.crd := rfl
@[simp] theorem State.setProc_sdh (p : ProcId) (x : Proc) : (s.setProc p x).sdh = s.sdh := rfl
@[simp] theorem State.setProc_nfc (p : ProcId) (x : Proc) : (s.setProc p x).nfc = s.nfc := rfl
@[simp] theorem State.setProc_pwr (p : ProcId) (x : Proc) : (s.setProc p x).pwr = s.pwr := rfl
@[simp] theorem State.setProc_pairM (p : ProcId) (x : Proc) : (s.setProc p x).pairM = s.pairM := rfl
@[simp] theorem State.setProc_ingress (p : ProcId) (x : Proc) : (s.setProc p x).ingress = s.ingress := rfl
@[simp] theorem State.setProc_released (p : ProcId) (x : Proc) : (s.setProc p x).released = s.released := rfl
@[simp] theorem State.setProc_free (p : ProcId) (x : Proc) : (s.setProc p x).free = s.free := rfl
@[simp] theorem State.setProc_out (p : ProcId) (x : Proc) : (s.setProc p x).out = s.out := rfl

/-! ### State.putByte -/

@[simp] theorem State.putByte_pending (a : Nat) (v : Byte) : (s.putByte a v).pending = s.pending := rfl
@[simp] theorem State.putByte_regs (a : Nat) (v : Byte) : (s.putByte a v).regs = s.regs := rfl
@[simp] theorem State.putByte_held (a : Nat) (v : Byte) : (s.putByte a v).held = s.held := rfl
@[simp] theorem State.putByte_tags (a : Nat) (v : Byte) : (s.putByte a v).tags = s.tags := rfl
@[simp] theorem State.putByte_badWords (a : Nat) (v : Byte) : (s.putByte a v).badWords = s.badWords := rfl
@[simp] theorem State.putByte_routes (a : Nat) (v : Byte) : (s.putByte a v).routes = s.routes := rfl
@[simp] theorem State.putByte_sent (a : Nat) (v : Byte) : (s.putByte a v).sent = s.sent := rfl
@[simp] theorem State.putByte_swNow (a : Nat) (v : Byte) : (s.putByte a v).swNow = s.swNow := rfl
@[simp] theorem State.putByte_sevg (a : Nat) (v : Byte) : (s.putByte a v).sevg = s.sevg := rfl
@[simp] theorem State.putByte_sevs (a : Nat) (v : Byte) : (s.putByte a v).sevs = s.sevs := rfl
@[simp] theorem State.putByte_stroke (a : Nat) (v : Byte) : (s.putByte a v).stroke = s.stroke := rfl
@[simp] theorem State.putByte_archOn (a : Nat) (v : Byte) : (s.putByte a v).archOn = s.archOn := rfl
@[simp] theorem State.putByte_planWipe (a : Nat) (v : Byte) : (s.putByte a v).planWipe = s.planWipe := rfl
@[simp] theorem State.putByte_dropping (a : Nat) (v : Byte) : (s.putByte a v).dropping = s.dropping := rfl
@[simp] theorem State.putByte_planFloor (a : Nat) (v : Byte) : (s.putByte a v).planFloor = s.planFloor := rfl
@[simp] theorem State.putByte_sigs (a : Nat) (v : Byte) : (s.putByte a v).sigs = s.sigs := rfl
@[simp] theorem State.putByte_unitDue (a : Nat) (v : Byte) : (s.putByte a v).unitDue = s.unitDue := rfl
@[simp] theorem State.putByte_late (a : Nat) (v : Byte) : (s.putByte a v).late = s.late := rfl
@[simp] theorem State.putByte_heldW0 (a : Nat) (v : Byte) : (s.putByte a v).heldW0 = s.heldW0 := rfl
@[simp] theorem State.putByte_shLog (a : Nat) (v : Byte) : (s.putByte a v).shLog = s.shLog := rfl
@[simp] theorem State.putByte_lockBad (a : Nat) (v : Byte) : (s.putByte a v).lockBad = s.lockBad := rfl
@[simp] theorem State.putByte_lock (a : Nat) (v : Byte) : (s.putByte a v).lock = s.lock := rfl
@[simp] theorem State.putByte_evtHigh (a : Nat) (v : Byte) : (s.putByte a v).evtHigh = s.evtHigh := rfl
@[simp] theorem State.putByte_ksCopy (a : Nat) (v : Byte) : (s.putByte a v).ksCopy = s.ksCopy := rfl
@[simp] theorem State.putByte_wall (a : Nat) (v : Byte) : (s.putByte a v).wall = s.wall := rfl
@[simp] theorem State.putByte_acuBase (a : Nat) (v : Byte) : (s.putByte a v).acuBase = s.acuBase := rfl
@[simp] theorem State.putByte_acuAttr (a : Nat) (v : Byte) : (s.putByte a v).acuAttr = s.acuAttr := rfl
@[simp] theorem State.putByte_acuBaseSh (a : Nat) (v : Byte) : (s.putByte a v).acuBaseSh = s.acuBaseSh := rfl
@[simp] theorem State.putByte_acuAttrSh (a : Nat) (v : Byte) : (s.putByte a v).acuAttrSh = s.acuAttrSh := rfl
@[simp] theorem State.putByte_acuEcc (a : Nat) (v : Byte) : (s.putByte a v).acuEcc = s.acuEcc := rfl
@[simp] theorem State.putByte_dual (a : Nat) (v : Byte) : (s.putByte a v).dual = s.dual := rfl
@[simp] theorem State.putByte_mort (a : Nat) (v : Byte) : (s.putByte a v).mort = s.mort := rfl
@[simp] theorem State.putByte_cox (a : Nat) (v : Byte) : (s.putByte a v).cox = s.cox := rfl
@[simp] theorem State.putByte_plans (a : Nat) (v : Byte) : (s.putByte a v).plans = s.plans := rfl
@[simp] theorem State.putByte_intake (a : Nat) (v : Byte) : (s.putByte a v).intake = s.intake := rfl
@[simp] theorem State.putByte_audit (a : Nat) (v : Byte) : (s.putByte a v).audit = s.audit := rfl
@[simp] theorem State.putByte_procs (a : Nat) (v : Byte) : (s.putByte a v).procs = s.procs := rfl
@[simp] theorem State.putByte_pke (a : Nat) (v : Byte) : (s.putByte a v).pke = s.pke := rfl
@[simp] theorem State.putByte_cluster (a : Nat) (v : Byte) : (s.putByte a v).cluster = s.cluster := rfl
@[simp] theorem State.putByte_hsh (a : Nat) (v : Byte) : (s.putByte a v).hsh = s.hsh := rfl
@[simp] theorem State.putByte_cip (a : Nat) (v : Byte) : (s.putByte a v).cip = s.cip := rfl
@[simp] theorem State.putByte_ptn (a : Nat) (v : Byte) : (s.putByte a v).ptn = s.ptn := rfl
@[simp] theorem State.putByte_tim (a : Nat) (v : Byte) : (s.putByte a v).tim = s.tim := rfl
@[simp] theorem State.putByte_aon (a : Nat) (v : Byte) : (s.putByte a v).aon = s.aon := rfl
@[simp] theorem State.putByte_jnl (a : Nat) (v : Byte) : (s.putByte a v).jnl = s.jnl := rfl
@[simp] theorem State.putByte_sgm (a : Nat) (v : Byte) : (s.putByte a v).sgm = s.sgm := rfl
@[simp] theorem State.putByte_moverW (a : Nat) (v : Byte) : (s.putByte a v).moverW = s.moverW := rfl
@[simp] theorem State.putByte_moverE (a : Nat) (v : Byte) : (s.putByte a v).moverE = s.moverE := rfl
@[simp] theorem State.putByte_eth (a : Nat) (v : Byte) : (s.putByte a v).eth = s.eth := rfl
@[simp] theorem State.putByte_fsp (a : Nat) (v : Byte) : (s.putByte a v).fsp = s.fsp := rfl
@[simp] theorem State.putByte_egress (a : Nat) (v : Byte) : (s.putByte a v).egress = s.egress := rfl
@[simp] theorem State.putByte_pci (a : Nat) (v : Byte) : (s.putByte a v).pci = s.pci := rfl
@[simp] theorem State.putByte_kst (a : Nat) (v : Byte) : (s.putByte a v).kst = s.kst := rfl
@[simp] theorem State.putByte_jnt (a : Nat) (v : Byte) : (s.putByte a v).jnt = s.jnt := rfl
@[simp] theorem State.putByte_lcs (a : Nat) (v : Byte) : (s.putByte a v).lcs = s.lcs := rfl
@[simp] theorem State.putByte_dbg (a : Nat) (v : Byte) : (s.putByte a v).dbg = s.dbg := rfl
@[simp] theorem State.putByte_tmp (a : Nat) (v : Byte) : (s.putByte a v).tmp = s.tmp := rfl
@[simp] theorem State.putByte_flc (a : Nat) (v : Byte) : (s.putByte a v).flc = s.flc := rfl
@[simp] theorem State.putByte_crd (a : Nat) (v : Byte) : (s.putByte a v).crd = s.crd := rfl
@[simp] theorem State.putByte_sdh (a : Nat) (v : Byte) : (s.putByte a v).sdh = s.sdh := rfl
@[simp] theorem State.putByte_nfc (a : Nat) (v : Byte) : (s.putByte a v).nfc = s.nfc := rfl
@[simp] theorem State.putByte_pwr (a : Nat) (v : Byte) : (s.putByte a v).pwr = s.pwr := rfl
@[simp] theorem State.putByte_pairM (a : Nat) (v : Byte) : (s.putByte a v).pairM = s.pairM := rfl
@[simp] theorem State.putByte_ingress (a : Nat) (v : Byte) : (s.putByte a v).ingress = s.ingress := rfl
@[simp] theorem State.putByte_released (a : Nat) (v : Byte) : (s.putByte a v).released = s.released := rfl
@[simp] theorem State.putByte_free (a : Nat) (v : Byte) : (s.putByte a v).free = s.free := rfl
@[simp] theorem State.putByte_out (a : Nat) (v : Byte) : (s.putByte a v).out = s.out := rfl

/-! ### State.holdHi -/

@[simp] theorem State.holdHi_pending (b : Block) (i hi : Nat) (v : Word) : (s.holdHi b i hi v).pending = s.pending := rfl
@[simp] theorem State.holdHi_regs (b : Block) (i hi : Nat) (v : Word) : (s.holdHi b i hi v).regs = s.regs := rfl
@[simp] theorem State.holdHi_mem (b : Block) (i hi : Nat) (v : Word) : (s.holdHi b i hi v).mem = s.mem := rfl
@[simp] theorem State.holdHi_tags (b : Block) (i hi : Nat) (v : Word) : (s.holdHi b i hi v).tags = s.tags := rfl
@[simp] theorem State.holdHi_badWords (b : Block) (i hi : Nat) (v : Word) : (s.holdHi b i hi v).badWords = s.badWords := rfl
@[simp] theorem State.holdHi_routes (b : Block) (i hi : Nat) (v : Word) : (s.holdHi b i hi v).routes = s.routes := rfl
@[simp] theorem State.holdHi_sent (b : Block) (i hi : Nat) (v : Word) : (s.holdHi b i hi v).sent = s.sent := rfl
@[simp] theorem State.holdHi_swNow (b : Block) (i hi : Nat) (v : Word) : (s.holdHi b i hi v).swNow = s.swNow := rfl
@[simp] theorem State.holdHi_sevg (b : Block) (i hi : Nat) (v : Word) : (s.holdHi b i hi v).sevg = s.sevg := rfl
@[simp] theorem State.holdHi_sevs (b : Block) (i hi : Nat) (v : Word) : (s.holdHi b i hi v).sevs = s.sevs := rfl
@[simp] theorem State.holdHi_stroke (b : Block) (i hi : Nat) (v : Word) : (s.holdHi b i hi v).stroke = s.stroke := rfl
@[simp] theorem State.holdHi_archOn (b : Block) (i hi : Nat) (v : Word) : (s.holdHi b i hi v).archOn = s.archOn := rfl
@[simp] theorem State.holdHi_planWipe (b : Block) (i hi : Nat) (v : Word) : (s.holdHi b i hi v).planWipe = s.planWipe := rfl
@[simp] theorem State.holdHi_dropping (b : Block) (i hi : Nat) (v : Word) : (s.holdHi b i hi v).dropping = s.dropping := rfl
@[simp] theorem State.holdHi_planFloor (b : Block) (i hi : Nat) (v : Word) : (s.holdHi b i hi v).planFloor = s.planFloor := rfl
@[simp] theorem State.holdHi_sigs (b : Block) (i hi : Nat) (v : Word) : (s.holdHi b i hi v).sigs = s.sigs := rfl
@[simp] theorem State.holdHi_unitDue (b : Block) (i hi : Nat) (v : Word) : (s.holdHi b i hi v).unitDue = s.unitDue := rfl
@[simp] theorem State.holdHi_late (b : Block) (i hi : Nat) (v : Word) : (s.holdHi b i hi v).late = s.late := rfl
@[simp] theorem State.holdHi_heldW0 (b : Block) (i hi : Nat) (v : Word) : (s.holdHi b i hi v).heldW0 = s.heldW0 := rfl
@[simp] theorem State.holdHi_shLog (b : Block) (i hi : Nat) (v : Word) : (s.holdHi b i hi v).shLog = s.shLog := rfl
@[simp] theorem State.holdHi_lockBad (b : Block) (i hi : Nat) (v : Word) : (s.holdHi b i hi v).lockBad = s.lockBad := rfl
@[simp] theorem State.holdHi_lock (b : Block) (i hi : Nat) (v : Word) : (s.holdHi b i hi v).lock = s.lock := rfl
@[simp] theorem State.holdHi_evtHigh (b : Block) (i hi : Nat) (v : Word) : (s.holdHi b i hi v).evtHigh = s.evtHigh := rfl
@[simp] theorem State.holdHi_ksCopy (b : Block) (i hi : Nat) (v : Word) : (s.holdHi b i hi v).ksCopy = s.ksCopy := rfl
@[simp] theorem State.holdHi_wall (b : Block) (i hi : Nat) (v : Word) : (s.holdHi b i hi v).wall = s.wall := rfl
@[simp] theorem State.holdHi_acuBase (b : Block) (i hi : Nat) (v : Word) : (s.holdHi b i hi v).acuBase = s.acuBase := rfl
@[simp] theorem State.holdHi_acuAttr (b : Block) (i hi : Nat) (v : Word) : (s.holdHi b i hi v).acuAttr = s.acuAttr := rfl
@[simp] theorem State.holdHi_acuBaseSh (b : Block) (i hi : Nat) (v : Word) : (s.holdHi b i hi v).acuBaseSh = s.acuBaseSh := rfl
@[simp] theorem State.holdHi_acuAttrSh (b : Block) (i hi : Nat) (v : Word) : (s.holdHi b i hi v).acuAttrSh = s.acuAttrSh := rfl
@[simp] theorem State.holdHi_acuEcc (b : Block) (i hi : Nat) (v : Word) : (s.holdHi b i hi v).acuEcc = s.acuEcc := rfl
@[simp] theorem State.holdHi_dual (b : Block) (i hi : Nat) (v : Word) : (s.holdHi b i hi v).dual = s.dual := rfl
@[simp] theorem State.holdHi_mort (b : Block) (i hi : Nat) (v : Word) : (s.holdHi b i hi v).mort = s.mort := rfl
@[simp] theorem State.holdHi_cox (b : Block) (i hi : Nat) (v : Word) : (s.holdHi b i hi v).cox = s.cox := rfl
@[simp] theorem State.holdHi_plans (b : Block) (i hi : Nat) (v : Word) : (s.holdHi b i hi v).plans = s.plans := rfl
@[simp] theorem State.holdHi_intake (b : Block) (i hi : Nat) (v : Word) : (s.holdHi b i hi v).intake = s.intake := rfl
@[simp] theorem State.holdHi_audit (b : Block) (i hi : Nat) (v : Word) : (s.holdHi b i hi v).audit = s.audit := rfl
@[simp] theorem State.holdHi_procs (b : Block) (i hi : Nat) (v : Word) : (s.holdHi b i hi v).procs = s.procs := rfl
@[simp] theorem State.holdHi_pke (b : Block) (i hi : Nat) (v : Word) : (s.holdHi b i hi v).pke = s.pke := rfl
@[simp] theorem State.holdHi_cluster (b : Block) (i hi : Nat) (v : Word) : (s.holdHi b i hi v).cluster = s.cluster := rfl
@[simp] theorem State.holdHi_hsh (b : Block) (i hi : Nat) (v : Word) : (s.holdHi b i hi v).hsh = s.hsh := rfl
@[simp] theorem State.holdHi_cip (b : Block) (i hi : Nat) (v : Word) : (s.holdHi b i hi v).cip = s.cip := rfl
@[simp] theorem State.holdHi_ptn (b : Block) (i hi : Nat) (v : Word) : (s.holdHi b i hi v).ptn = s.ptn := rfl
@[simp] theorem State.holdHi_tim (b : Block) (i hi : Nat) (v : Word) : (s.holdHi b i hi v).tim = s.tim := rfl
@[simp] theorem State.holdHi_aon (b : Block) (i hi : Nat) (v : Word) : (s.holdHi b i hi v).aon = s.aon := rfl
@[simp] theorem State.holdHi_jnl (b : Block) (i hi : Nat) (v : Word) : (s.holdHi b i hi v).jnl = s.jnl := rfl
@[simp] theorem State.holdHi_sgm (b : Block) (i hi : Nat) (v : Word) : (s.holdHi b i hi v).sgm = s.sgm := rfl
@[simp] theorem State.holdHi_moverW (b : Block) (i hi : Nat) (v : Word) : (s.holdHi b i hi v).moverW = s.moverW := rfl
@[simp] theorem State.holdHi_moverE (b : Block) (i hi : Nat) (v : Word) : (s.holdHi b i hi v).moverE = s.moverE := rfl
@[simp] theorem State.holdHi_eth (b : Block) (i hi : Nat) (v : Word) : (s.holdHi b i hi v).eth = s.eth := rfl
@[simp] theorem State.holdHi_fsp (b : Block) (i hi : Nat) (v : Word) : (s.holdHi b i hi v).fsp = s.fsp := rfl
@[simp] theorem State.holdHi_egress (b : Block) (i hi : Nat) (v : Word) : (s.holdHi b i hi v).egress = s.egress := rfl
@[simp] theorem State.holdHi_pci (b : Block) (i hi : Nat) (v : Word) : (s.holdHi b i hi v).pci = s.pci := rfl
@[simp] theorem State.holdHi_kst (b : Block) (i hi : Nat) (v : Word) : (s.holdHi b i hi v).kst = s.kst := rfl
@[simp] theorem State.holdHi_jnt (b : Block) (i hi : Nat) (v : Word) : (s.holdHi b i hi v).jnt = s.jnt := rfl
@[simp] theorem State.holdHi_lcs (b : Block) (i hi : Nat) (v : Word) : (s.holdHi b i hi v).lcs = s.lcs := rfl
@[simp] theorem State.holdHi_dbg (b : Block) (i hi : Nat) (v : Word) : (s.holdHi b i hi v).dbg = s.dbg := rfl
@[simp] theorem State.holdHi_tmp (b : Block) (i hi : Nat) (v : Word) : (s.holdHi b i hi v).tmp = s.tmp := rfl
@[simp] theorem State.holdHi_flc (b : Block) (i hi : Nat) (v : Word) : (s.holdHi b i hi v).flc = s.flc := rfl
@[simp] theorem State.holdHi_crd (b : Block) (i hi : Nat) (v : Word) : (s.holdHi b i hi v).crd = s.crd := rfl
@[simp] theorem State.holdHi_sdh (b : Block) (i hi : Nat) (v : Word) : (s.holdHi b i hi v).sdh = s.sdh := rfl
@[simp] theorem State.holdHi_nfc (b : Block) (i hi : Nat) (v : Word) : (s.holdHi b i hi v).nfc = s.nfc := rfl
@[simp] theorem State.holdHi_pwr (b : Block) (i hi : Nat) (v : Word) : (s.holdHi b i hi v).pwr = s.pwr := rfl
@[simp] theorem State.holdHi_pairM (b : Block) (i hi : Nat) (v : Word) : (s.holdHi b i hi v).pairM = s.pairM := rfl
@[simp] theorem State.holdHi_ingress (b : Block) (i hi : Nat) (v : Word) : (s.holdHi b i hi v).ingress = s.ingress := rfl
@[simp] theorem State.holdHi_released (b : Block) (i hi : Nat) (v : Word) : (s.holdHi b i hi v).released = s.released := rfl
@[simp] theorem State.holdHi_free (b : Block) (i hi : Nat) (v : Word) : (s.holdHi b i hi v).free = s.free := rfl
@[simp] theorem State.holdHi_out (b : Block) (i hi : Nat) (v : Word) : (s.holdHi b i hi v).out = s.out := rfl

/-! ### Composed updates: each changes only the fields named -/

/-- `setReg` changes register cells only. -/
theorem State.setReg_only (b : Block) (i off : Nat) (v : Word) : ∃ r, s.setReg b i off v = { s with regs := r } := ⟨_, rfl⟩
/-- `setReg64` changes register cells only. -/
theorem State.setReg64_only (b : Block) (i off v : Nat) : ∃ r, s.setReg64 b i off v = { s with regs := r } := by
  obtain ⟨r, h⟩ := s.setReg_only b i off (w32 v)
  obtain ⟨r', h'⟩ := (s.setReg b i off (w32 v)).setReg_only b i (off + 4) (w32 (v / 2 ^ 32))
  exact ⟨r', by unfold State.setReg64; rw [h', h]⟩
/-- `updReg` changes register cells only. -/
theorem State.updReg_only (b : Block) (i off : Nat) (f : Word → Word) : ∃ r, s.updReg b i off f = { s with regs := r } := ⟨_, rfl⟩
/-- `setSticky` changes register cells only. -/
theorem State.setSticky_only (b : Block) (i n off code : Nat) : ∃ r, s.setSticky b i n off code = { s with regs := r } := by
  unfold State.setSticky
  extract_lets old s1 rec_
  obtain ⟨r1, h1⟩ := s.setReg_only b i 0x010 (putBit old n true)
  split
  · exact ⟨r1, h1⟩
  · obtain ⟨r2, h2⟩ := s1.setReg_only b i 0x01C rec_
    obtain ⟨r3, h3⟩ := (s1.setReg b i 0x01C rec_).setReg64_only b i 0x020 (s.capture b i)
    refine ⟨r3, ?_⟩
    rw [h3, h2]
    show ({ s1 with regs := r3 } : State) = _
    rw [show s1 = _ from h1]
/-- `reject` changes register cells only. -/
theorem State.reject_only (b : Block) (i off : Nat) (v : Word) : ∃ r, s.reject b i off v = { s with regs := r } :=
  s.setSticky_only b i 0 off _
/-- `clearSticky` changes register cells, and may draw a free value. -/
theorem State.clearSticky_only (b : Block) (i : Nat) (v hw : Word) :
    ∃ r n, s.clearSticky b i v hw = { s with regs := r, free := n } := by
  unfold State.clearSticky
  dsimp only
  split
  · split
    · obtain ⟨r, h⟩ := s.draw.setSticky_only b i _ (fld s.freeW 8 12) (fld s.freeW 0 8)
      rw [h]
      exact ⟨_, _, rfl⟩
    · obtain ⟨r, h⟩ := s.setSticky_only b i _ 0 0
      rw [h]
      exact ⟨_, _, rfl⟩
  · split
    · exact ⟨_, s.free, rfl⟩
    · exact ⟨_, s.free, rfl⟩
/-- `acuRecord` changes register cells, and answers the master. -/
theorem State.acuRecord_only (m : Master) (kind a reason region : Nat) (mt : Bool) :
    ∃ r, s.acuRecord m kind a reason region mt = { s with regs := r, out := s.out ++ [.errorResponse m] } := by
  unfold State.acuRecord
  dsimp only
  split
  · obtain ⟨r1, h1⟩ := (s.emit (.errorResponse m)).updReg_only .acu m.acu 0x058 fun v => putFld v 0 16 (satInc (fld v 0 16) 0xFFFF)
    rw [h1]
    generalize hx : ({ s.emit (.errorResponse m) with regs := r1 } : State) = y
    obtain ⟨r, h⟩ := y.setSticky_only .acu m.acu 2 0 0
    exact ⟨r, by rw [h, ← hx]; rfl⟩
  · generalize hi : (w32 (s.acuCtx m) ||| w32 (kind * 2 ^ 7) ||| w32 (reason * 2 ^ 9) ||| w32 (region * 2 ^ 12) |||
      flag mt 16 ||| w32 (m.number * 2 ^ 17) ||| flag true 31) = info
    obtain ⟨r1, h1⟩ := (s.emit (.errorResponse m)).setReg_only .acu m.acu 0x044 info
    rw [h1]
    generalize hx1 : ({ s.emit (.errorResponse m) with regs := r1 } : State) = y1
    obtain ⟨r2, h2⟩ := y1.setReg64_only .acu m.acu 0x048 a
    rw [h2]
    generalize hx2 : ({ y1 with regs := r2 } : State) = y2
    obtain ⟨r3, h3⟩ := y2.setReg64_only .acu m.acu 0x050 (s.capture .acu m.acu)
    rw [h3]
    generalize hx3 : ({ y2 with regs := r3 } : State) = y3
    obtain ⟨r4, h4⟩ := y3.setSticky_only .acu m.acu 2 0 0
    exact ⟨r4, by rw [h4, ← hx3, ← hx2, ← hx1]; rfl⟩

/-! ### State.setSticky -/

@[simp] theorem State.setSticky_pending (b : Block) (i n off code : Nat) : (s.setSticky b i n off code).pending = s.pending := by
  obtain ⟨r, h⟩ := s.setSticky_only b i n off code; rw [h]
@[simp] theorem State.setSticky_held (b : Block) (i n off code : Nat) : (s.setSticky b i n off code).held = s.held := by
  obtain ⟨r, h⟩ := s.setSticky_only b i n off code; rw [h]
@[simp] theorem State.setSticky_mem (b : Block) (i n off code : Nat) : (s.setSticky b i n off code).mem = s.mem := by
  obtain ⟨r, h⟩ := s.setSticky_only b i n off code; rw [h]
@[simp] theorem State.setSticky_tags (b : Block) (i n off code : Nat) : (s.setSticky b i n off code).tags = s.tags := by
  obtain ⟨r, h⟩ := s.setSticky_only b i n off code; rw [h]
@[simp] theorem State.setSticky_badWords (b : Block) (i n off code : Nat) : (s.setSticky b i n off code).badWords = s.badWords := by
  obtain ⟨r, h⟩ := s.setSticky_only b i n off code; rw [h]
@[simp] theorem State.setSticky_routes (b : Block) (i n off code : Nat) : (s.setSticky b i n off code).routes = s.routes := by
  obtain ⟨r, h⟩ := s.setSticky_only b i n off code; rw [h]
@[simp] theorem State.setSticky_sent (b : Block) (i n off code : Nat) : (s.setSticky b i n off code).sent = s.sent := by
  obtain ⟨r, h⟩ := s.setSticky_only b i n off code; rw [h]
@[simp] theorem State.setSticky_swNow (b : Block) (i n off code : Nat) : (s.setSticky b i n off code).swNow = s.swNow := by
  obtain ⟨r, h⟩ := s.setSticky_only b i n off code; rw [h]
@[simp] theorem State.setSticky_sevg (b : Block) (i n off code : Nat) : (s.setSticky b i n off code).sevg = s.sevg := by
  obtain ⟨r, h⟩ := s.setSticky_only b i n off code; rw [h]
@[simp] theorem State.setSticky_sevs (b : Block) (i n off code : Nat) : (s.setSticky b i n off code).sevs = s.sevs := by
  obtain ⟨r, h⟩ := s.setSticky_only b i n off code; rw [h]
@[simp] theorem State.setSticky_stroke (b : Block) (i n off code : Nat) : (s.setSticky b i n off code).stroke = s.stroke := by
  obtain ⟨r, h⟩ := s.setSticky_only b i n off code; rw [h]
@[simp] theorem State.setSticky_archOn (b : Block) (i n off code : Nat) : (s.setSticky b i n off code).archOn = s.archOn := by
  obtain ⟨r, h⟩ := s.setSticky_only b i n off code; rw [h]
@[simp] theorem State.setSticky_planWipe (b : Block) (i n off code : Nat) : (s.setSticky b i n off code).planWipe = s.planWipe := by
  obtain ⟨r, h⟩ := s.setSticky_only b i n off code; rw [h]
@[simp] theorem State.setSticky_dropping (b : Block) (i n off code : Nat) : (s.setSticky b i n off code).dropping = s.dropping := by
  obtain ⟨r, h⟩ := s.setSticky_only b i n off code; rw [h]
@[simp] theorem State.setSticky_planFloor (b : Block) (i n off code : Nat) : (s.setSticky b i n off code).planFloor = s.planFloor := by
  obtain ⟨r, h⟩ := s.setSticky_only b i n off code; rw [h]
@[simp] theorem State.setSticky_sigs (b : Block) (i n off code : Nat) : (s.setSticky b i n off code).sigs = s.sigs := by
  obtain ⟨r, h⟩ := s.setSticky_only b i n off code; rw [h]
@[simp] theorem State.setSticky_unitDue (b : Block) (i n off code : Nat) : (s.setSticky b i n off code).unitDue = s.unitDue := by
  obtain ⟨r, h⟩ := s.setSticky_only b i n off code; rw [h]
@[simp] theorem State.setSticky_late (b : Block) (i n off code : Nat) : (s.setSticky b i n off code).late = s.late := by
  obtain ⟨r, h⟩ := s.setSticky_only b i n off code; rw [h]
@[simp] theorem State.setSticky_heldW0 (b : Block) (i n off code : Nat) : (s.setSticky b i n off code).heldW0 = s.heldW0 := by
  obtain ⟨r, h⟩ := s.setSticky_only b i n off code; rw [h]
@[simp] theorem State.setSticky_shLog (b : Block) (i n off code : Nat) : (s.setSticky b i n off code).shLog = s.shLog := by
  obtain ⟨r, h⟩ := s.setSticky_only b i n off code; rw [h]
@[simp] theorem State.setSticky_lockBad (b : Block) (i n off code : Nat) : (s.setSticky b i n off code).lockBad = s.lockBad := by
  obtain ⟨r, h⟩ := s.setSticky_only b i n off code; rw [h]
@[simp] theorem State.setSticky_lock (b : Block) (i n off code : Nat) : (s.setSticky b i n off code).lock = s.lock := by
  obtain ⟨r, h⟩ := s.setSticky_only b i n off code; rw [h]
@[simp] theorem State.setSticky_evtHigh (b : Block) (i n off code : Nat) : (s.setSticky b i n off code).evtHigh = s.evtHigh := by
  obtain ⟨r, h⟩ := s.setSticky_only b i n off code; rw [h]
@[simp] theorem State.setSticky_ksCopy (b : Block) (i n off code : Nat) : (s.setSticky b i n off code).ksCopy = s.ksCopy := by
  obtain ⟨r, h⟩ := s.setSticky_only b i n off code; rw [h]
@[simp] theorem State.setSticky_wall (b : Block) (i n off code : Nat) : (s.setSticky b i n off code).wall = s.wall := by
  obtain ⟨r, h⟩ := s.setSticky_only b i n off code; rw [h]
@[simp] theorem State.setSticky_acuBase (b : Block) (i n off code : Nat) : (s.setSticky b i n off code).acuBase = s.acuBase := by
  obtain ⟨r, h⟩ := s.setSticky_only b i n off code; rw [h]
@[simp] theorem State.setSticky_acuAttr (b : Block) (i n off code : Nat) : (s.setSticky b i n off code).acuAttr = s.acuAttr := by
  obtain ⟨r, h⟩ := s.setSticky_only b i n off code; rw [h]
@[simp] theorem State.setSticky_acuBaseSh (b : Block) (i n off code : Nat) : (s.setSticky b i n off code).acuBaseSh = s.acuBaseSh := by
  obtain ⟨r, h⟩ := s.setSticky_only b i n off code; rw [h]
@[simp] theorem State.setSticky_acuAttrSh (b : Block) (i n off code : Nat) : (s.setSticky b i n off code).acuAttrSh = s.acuAttrSh := by
  obtain ⟨r, h⟩ := s.setSticky_only b i n off code; rw [h]
@[simp] theorem State.setSticky_acuEcc (b : Block) (i n off code : Nat) : (s.setSticky b i n off code).acuEcc = s.acuEcc := by
  obtain ⟨r, h⟩ := s.setSticky_only b i n off code; rw [h]
@[simp] theorem State.setSticky_dual (b : Block) (i n off code : Nat) : (s.setSticky b i n off code).dual = s.dual := by
  obtain ⟨r, h⟩ := s.setSticky_only b i n off code; rw [h]
@[simp] theorem State.setSticky_mort (b : Block) (i n off code : Nat) : (s.setSticky b i n off code).mort = s.mort := by
  obtain ⟨r, h⟩ := s.setSticky_only b i n off code; rw [h]
@[simp] theorem State.setSticky_cox (b : Block) (i n off code : Nat) : (s.setSticky b i n off code).cox = s.cox := by
  obtain ⟨r, h⟩ := s.setSticky_only b i n off code; rw [h]
@[simp] theorem State.setSticky_plans (b : Block) (i n off code : Nat) : (s.setSticky b i n off code).plans = s.plans := by
  obtain ⟨r, h⟩ := s.setSticky_only b i n off code; rw [h]
@[simp] theorem State.setSticky_intake (b : Block) (i n off code : Nat) : (s.setSticky b i n off code).intake = s.intake := by
  obtain ⟨r, h⟩ := s.setSticky_only b i n off code; rw [h]
@[simp] theorem State.setSticky_audit (b : Block) (i n off code : Nat) : (s.setSticky b i n off code).audit = s.audit := by
  obtain ⟨r, h⟩ := s.setSticky_only b i n off code; rw [h]
@[simp] theorem State.setSticky_procs (b : Block) (i n off code : Nat) : (s.setSticky b i n off code).procs = s.procs := by
  obtain ⟨r, h⟩ := s.setSticky_only b i n off code; rw [h]
@[simp] theorem State.setSticky_pke (b : Block) (i n off code : Nat) : (s.setSticky b i n off code).pke = s.pke := by
  obtain ⟨r, h⟩ := s.setSticky_only b i n off code; rw [h]
@[simp] theorem State.setSticky_cluster (b : Block) (i n off code : Nat) : (s.setSticky b i n off code).cluster = s.cluster := by
  obtain ⟨r, h⟩ := s.setSticky_only b i n off code; rw [h]
@[simp] theorem State.setSticky_hsh (b : Block) (i n off code : Nat) : (s.setSticky b i n off code).hsh = s.hsh := by
  obtain ⟨r, h⟩ := s.setSticky_only b i n off code; rw [h]
@[simp] theorem State.setSticky_cip (b : Block) (i n off code : Nat) : (s.setSticky b i n off code).cip = s.cip := by
  obtain ⟨r, h⟩ := s.setSticky_only b i n off code; rw [h]
@[simp] theorem State.setSticky_ptn (b : Block) (i n off code : Nat) : (s.setSticky b i n off code).ptn = s.ptn := by
  obtain ⟨r, h⟩ := s.setSticky_only b i n off code; rw [h]
@[simp] theorem State.setSticky_tim (b : Block) (i n off code : Nat) : (s.setSticky b i n off code).tim = s.tim := by
  obtain ⟨r, h⟩ := s.setSticky_only b i n off code; rw [h]
@[simp] theorem State.setSticky_aon (b : Block) (i n off code : Nat) : (s.setSticky b i n off code).aon = s.aon := by
  obtain ⟨r, h⟩ := s.setSticky_only b i n off code; rw [h]
@[simp] theorem State.setSticky_jnl (b : Block) (i n off code : Nat) : (s.setSticky b i n off code).jnl = s.jnl := by
  obtain ⟨r, h⟩ := s.setSticky_only b i n off code; rw [h]
@[simp] theorem State.setSticky_sgm (b : Block) (i n off code : Nat) : (s.setSticky b i n off code).sgm = s.sgm := by
  obtain ⟨r, h⟩ := s.setSticky_only b i n off code; rw [h]
@[simp] theorem State.setSticky_moverW (b : Block) (i n off code : Nat) : (s.setSticky b i n off code).moverW = s.moverW := by
  obtain ⟨r, h⟩ := s.setSticky_only b i n off code; rw [h]
@[simp] theorem State.setSticky_moverE (b : Block) (i n off code : Nat) : (s.setSticky b i n off code).moverE = s.moverE := by
  obtain ⟨r, h⟩ := s.setSticky_only b i n off code; rw [h]
@[simp] theorem State.setSticky_eth (b : Block) (i n off code : Nat) : (s.setSticky b i n off code).eth = s.eth := by
  obtain ⟨r, h⟩ := s.setSticky_only b i n off code; rw [h]
@[simp] theorem State.setSticky_fsp (b : Block) (i n off code : Nat) : (s.setSticky b i n off code).fsp = s.fsp := by
  obtain ⟨r, h⟩ := s.setSticky_only b i n off code; rw [h]
@[simp] theorem State.setSticky_egress (b : Block) (i n off code : Nat) : (s.setSticky b i n off code).egress = s.egress := by
  obtain ⟨r, h⟩ := s.setSticky_only b i n off code; rw [h]
@[simp] theorem State.setSticky_pci (b : Block) (i n off code : Nat) : (s.setSticky b i n off code).pci = s.pci := by
  obtain ⟨r, h⟩ := s.setSticky_only b i n off code; rw [h]
@[simp] theorem State.setSticky_kst (b : Block) (i n off code : Nat) : (s.setSticky b i n off code).kst = s.kst := by
  obtain ⟨r, h⟩ := s.setSticky_only b i n off code; rw [h]
@[simp] theorem State.setSticky_jnt (b : Block) (i n off code : Nat) : (s.setSticky b i n off code).jnt = s.jnt := by
  obtain ⟨r, h⟩ := s.setSticky_only b i n off code; rw [h]
@[simp] theorem State.setSticky_lcs (b : Block) (i n off code : Nat) : (s.setSticky b i n off code).lcs = s.lcs := by
  obtain ⟨r, h⟩ := s.setSticky_only b i n off code; rw [h]
@[simp] theorem State.setSticky_dbg (b : Block) (i n off code : Nat) : (s.setSticky b i n off code).dbg = s.dbg := by
  obtain ⟨r, h⟩ := s.setSticky_only b i n off code; rw [h]
@[simp] theorem State.setSticky_tmp (b : Block) (i n off code : Nat) : (s.setSticky b i n off code).tmp = s.tmp := by
  obtain ⟨r, h⟩ := s.setSticky_only b i n off code; rw [h]
@[simp] theorem State.setSticky_flc (b : Block) (i n off code : Nat) : (s.setSticky b i n off code).flc = s.flc := by
  obtain ⟨r, h⟩ := s.setSticky_only b i n off code; rw [h]
@[simp] theorem State.setSticky_crd (b : Block) (i n off code : Nat) : (s.setSticky b i n off code).crd = s.crd := by
  obtain ⟨r, h⟩ := s.setSticky_only b i n off code; rw [h]
@[simp] theorem State.setSticky_sdh (b : Block) (i n off code : Nat) : (s.setSticky b i n off code).sdh = s.sdh := by
  obtain ⟨r, h⟩ := s.setSticky_only b i n off code; rw [h]
@[simp] theorem State.setSticky_nfc (b : Block) (i n off code : Nat) : (s.setSticky b i n off code).nfc = s.nfc := by
  obtain ⟨r, h⟩ := s.setSticky_only b i n off code; rw [h]
@[simp] theorem State.setSticky_pwr (b : Block) (i n off code : Nat) : (s.setSticky b i n off code).pwr = s.pwr := by
  obtain ⟨r, h⟩ := s.setSticky_only b i n off code; rw [h]
@[simp] theorem State.setSticky_pairM (b : Block) (i n off code : Nat) : (s.setSticky b i n off code).pairM = s.pairM := by
  obtain ⟨r, h⟩ := s.setSticky_only b i n off code; rw [h]
@[simp] theorem State.setSticky_ingress (b : Block) (i n off code : Nat) : (s.setSticky b i n off code).ingress = s.ingress := by
  obtain ⟨r, h⟩ := s.setSticky_only b i n off code; rw [h]
@[simp] theorem State.setSticky_released (b : Block) (i n off code : Nat) : (s.setSticky b i n off code).released = s.released := by
  obtain ⟨r, h⟩ := s.setSticky_only b i n off code; rw [h]
@[simp] theorem State.setSticky_free (b : Block) (i n off code : Nat) : (s.setSticky b i n off code).free = s.free := by
  obtain ⟨r, h⟩ := s.setSticky_only b i n off code; rw [h]
@[simp] theorem State.setSticky_out (b : Block) (i n off code : Nat) : (s.setSticky b i n off code).out = s.out := by
  obtain ⟨r, h⟩ := s.setSticky_only b i n off code; rw [h]

/-! ### Registers -/

/-- A register cell reads the value written to it. -/
@[simp] theorem State.reg_setReg_self (b : Block) (i off : Nat) (v : Word) : (s.setReg b i off v).reg b i off = v := by
  simp [State.reg, State.setReg]
/-- A write of one register cell leaves the others. -/
theorem State.reg_setReg_ne (b b' : Block) (i i' off off' : Nat) (v : Word) (h : regKey b' i' off' ≠ regKey b i off) :
    (s.setReg b i off v).reg b' i' off' = s.reg b' i' off' := by
  exact Sparse.get_set_ne' (regReset b i off) (regReset b' i' off') s.regs v h
/-- The last write of a register cell stands. -/
@[simp] theorem State.setReg_setReg (b : Block) (i off : Nat) (v w : Word) :
    (s.setReg b i off v).setReg b i off w = s.setReg b i off w := by
  simp [State.setReg]

/-! ### Processors -/

/-- A processor reads back what was written. -/
@[simp] theorem State.proc_setProc_self (p : ProcId) (x : Proc) : (s.setProc p x).proc p = x := by
  simp [State.proc, State.setProc]
/-- A write of one processor leaves the others. -/
theorem State.proc_setProc_ne (p q : ProcId) (x : Proc) (h : q.key ≠ p.key) : (s.setProc p x).proc q = s.proc q := by
  simp only [State.proc, State.setProc]
  exact Sparse.get_set_ne _ _ _ h
/-- The last write of a processor stands. -/
@[simp] theorem State.setProc_setProc (p : ProcId) (x y : Proc) : (s.setProc p x).setProc p y = s.setProc p y := by
  simp [State.setProc]
@[simp] theorem State.updProc_setProc (p : ProcId) (x : Proc) (f : Proc → Proc) :
    (s.setProc p x).updProc p f = s.setProc p (f x) := by
  simp [State.updProc]

/-! ### Memory -/

/-- A byte reads back what was written. -/
@[simp] theorem State.byte_putByte_self (a : Nat) (v : Byte) : (s.putByte a v).byte a = v := by
  simp [State.byte, State.putByte]
/-- A write of one byte leaves the others. -/
theorem State.byte_putByte_ne {a b : Nat} (v : Byte) (h : b ≠ a) : (s.putByte a v).byte b = s.byte b := by
  simp only [State.byte, State.putByte]
  exact Sparse.get_set_ne _ _ _ h
/-- Bytes outside a written range keep their values. -/
theorem State.byte_putBytes_out (bs : List Byte) : ∀ (s : State) {a b : Nat}, b < a ∨ a + bs.length ≤ b →
    (s.putBytes a bs).byte b = s.byte b := by
  induction bs with
  | nil => intro s a b _; rfl
  | cons v r ih =>
    intro s a b h
    simp only [List.length_cons] at h
    simp only [State.putBytes]
    rw [ih _ (by omega), State.byte_putByte_ne _ _ (by omega)]
/-- Bytes inside a written range read back. -/
theorem State.byte_putBytes_in (bs : List Byte) : ∀ (s : State) {a i : Nat} (h : i < bs.length),
    (s.putBytes a bs).byte (a + i) = bs[i] := by
  induction bs with
  | nil => intro s a i h; simp at h
  | cons v r ih =>
    intro s a i h
    cases i with
    | zero =>
      simp only [State.putBytes, Nat.add_zero, List.getElem_cons_zero]
      rw [State.byte_putBytes_out _ _ (by omega)]; simp
    | succ n =>
      simp only [State.putBytes, List.getElem_cons_succ]
      have := ih (s.putByte a v) (a := a + 1) (i := n) (by simpa using h)
      rw [← this]; congr 1; omega
/-- `putBytes` changes memory bytes only. -/
theorem State.putBytes_only (bs : List Byte) : ∀ (s : State) (a : Nat), ∃ m, s.putBytes a bs = { s with mem := m } := by
  induction bs with
  | nil => intro s a; exact ⟨s.mem, rfl⟩
  | cons v r ih => intro s a; obtain ⟨m, h⟩ := ih (s.putByte a v) (a + 1); exact ⟨m, h⟩
/-- `putWord` changes memory bytes, tags and the list of bad words only. -/
theorem State.putWord_only (a : Nat) (w : TWord) :
    ∃ m t b, s.putWord a w = { s with mem := m, tags := t, badWords := b } := by
  obtain ⟨m, h⟩ := State.putBytes_only (leBytes 4 w.data.toNat) s a
  refine ⟨m, Sparse.set 0 s.tags (a / 4) w.tag.toNat, s.badWords.filter (· ≠ a / 4), ?_⟩
  unfold State.putWord
  rw [h]
/-- `putWords` changes memory bytes, tags and the list of bad words only. -/
theorem State.putWords_only (ws : List TWord) : ∀ (s : State) (a : Nat),
    ∃ m t b, s.putWords a ws = { s with mem := m, tags := t, badWords := b } := by
  induction ws with
  | nil => intro s a; exact ⟨_, _, _, rfl⟩
  | cons w r ih =>
    intro s a
    obtain ⟨m, t, b, h⟩ := s.putWord_only a w
    obtain ⟨m', t', b', h'⟩ := ih (s.putWord a w) (a + 4)
    exact ⟨m', t', b', by simp only [State.putWords]; rw [h', h]⟩
/-- `wipe` changes memory bytes, tags and the list of bad words only. -/
theorem State.wipe_only (a n : Nat) : ∃ m t b, s.wipe a n = { s with mem := m, tags := t, badWords := b } :=
  ⟨s.mem.filter fun c => c.1 < a || a + n ≤ c.1, s.tags.filter fun c => 4 * c.1 < a || a + n ≤ 4 * c.1,
    s.badWords.filter fun c => 4 * c < a || a + n ≤ 4 * c, rfl⟩

/-! ### The canonical form of memory (State.Inv) -/

theorem Memory.wf_iff : Memory.wf s = true ↔ Sparse.wf (0 : Byte) s.mem = true ∧ Sparse.wf 0 s.tags = true := by
  simp [Memory.wf, Bool.and_eq_true]
/-- The canonical form speaks of bytes and tags only. -/
theorem Memory.wf_congr {s t : State} (hm : t.mem = s.mem) (ht : t.tags = s.tags) : Memory.wf t = Memory.wf s := by
  simp [Memory.wf, hm, ht]
theorem Memory.wf_putByte {s : State} (h : Memory.wf s = true) (a : Nat) (v : Byte) : Memory.wf (s.putByte a v) = true := by
  rw [Memory.wf_iff] at h ⊢
  exact ⟨Sparse.wf_set a v h.1, h.2⟩
theorem Memory.wf_putBytes (bs : List Byte) : ∀ {s : State} (a : Nat), Memory.wf s = true → Memory.wf (s.putBytes a bs) = true := by
  induction bs with
  | nil => intro s a h; exact h
  | cons v r ih => intro s a h; exact ih (a + 1) (Memory.wf_putByte h a v)
theorem Memory.wf_putWord {s : State} (h : Memory.wf s = true) (a : Nat) (w : TWord) : Memory.wf (s.putWord a w) = true := by
  have h1 := Memory.wf_putBytes (leBytes 4 w.data.toNat) a h
  rw [Memory.wf_iff] at h1 ⊢
  exact ⟨h1.1, Sparse.wf_set _ _ h1.2⟩
theorem Memory.wf_putWords (ws : List TWord) : ∀ {s : State} (a : Nat), Memory.wf s = true → Memory.wf (s.putWords a ws) = true := by
  induction ws with
  | nil => intro s a h; exact h
  | cons w r ih => intro s a h; exact ih (a + 4) (Memory.wf_putWord h a w)
theorem Memory.wf_putInts {s : State} (h : Memory.wf s = true) (a : Nat) (bs : List Byte) :
    Memory.wf (s.putInts a bs) = true := Memory.wf_putWords _ a h
theorem Memory.wf_wipe {s : State} (h : Memory.wf s = true) (a n : Nat) : Memory.wf (s.wipe a n) = true := by
  rw [Memory.wf_iff] at h ⊢
  exact ⟨Sparse.wf_filter _ h.1, Sparse.wf_filter _ h.2⟩
/-- A fold of steps that each keep the canonical form keeps it. -/
theorem Memory.wf_foldl {β : Type} (f : State → β → State) (hf : ∀ s b, Memory.wf s = true → Memory.wf (f s b) = true)
    (l : List β) : ∀ {s : State}, Memory.wf s = true → Memory.wf (l.foldl f s) = true := by
  induction l with
  | nil => intro s h; exact h
  | cons b r ih => intro s h; exact ih (hf s b h)

end Sys2Proof.Machine
end

