-- ==== Sys2Proof/Laws/Issue.lean ====
section
/-! SUPPORT. What one issue of a processor does when its checks pass, and what a granted page access does. -/

namespace Sys2Proof.Machine

@[simp] theorem Proc.setR_stepOne (x : Proc) (n : Nat) (w : TWord) : (x.setR n w).stepOne = x.stepOne := by
  unfold Proc.setR; split <;> rfl
@[simp] theorem Proc.setK_stepOne (x : Proc) (n : Nat) (w : TWord) : (x.setK n w).stepOne = x.stepOne := rfl
@[simp] theorem Proc.loopBack_stepOne (n : Nat) : ∀ x : Proc, (x.loopBack n).stepOne = x.stepOne := by
  induction n with
  | zero => intro x; rfl
  | succ n ih =>
    intro x
    unfold Proc.loopBack
    split
    · rfl
    · dsimp only
      split
      · rfl
      · rw [ih]
@[simp] theorem Proc.advance_stepOne (x : Proc) : x.advance.stepOne = x.stepOne := Proc.loopBack_stepOne 4 x

theorem Proc.stepOne_false {x : Proc} (h : x.stepOne = false) : ({ x with stepOne := false } : Proc) = x := by
  cases x; simp_all

/-- An instruction of a processor that has no load under way does not wait (R76). -/
@[simp] theorem State.whenReady_canRun {s : State} {p : ProcId} (regs : List Nat) (t : State) (hr : s.canRun p = true) :
    s.whenReady p regs t = t := by
  simp only [State.canRun, Bool.and_eq_true] at hr
  have h : s.loadsOf p = [] := by simpa using hr.1.1.1
  unfold State.whenReady
  rw [h]
  rfl

/-- An instruction whose checks all pass has its effect. -/
theorem State.issue_pass {s : State} {p : ProcId} {ctl : Bool} {cs : Proc → List Chk} {eff : Proc → State → State}
    (hr : s.canRun p = true) (hc : (ctl && (s.proc p).atLoopEnd) = false) (hb : (cs (s.proc p)).find? (·.bad) = none) :
    s.issue p ctl cs eff =
      if (s.proc p).stepOne then (eff (s.proc p) s).updProc p fun y => { y with stepOne := false } else eff (s.proc p) s := by
  simp only [State.canRun, Bool.and_eq_true, Bool.not_eq_true'] at hr
  have hf : s.firstBad p (s.proc p) ctl cs = none := by
    simp only [State.firstBad, State.chkFetch, List.cons_append, List.nil_append, List.find?_cons, hr.1.2, hr.2, hc, hb,
      Bool.not_true]
  simp [State.issue, hr.1.1.2, hf]

/-- An effect g on the device, then the processor f, with the next pc of R87. -/
theorem State.issue_retire {s : State} {p : ProcId} {ctl : Bool} {cs : Proc → List Chk} {g : Proc → State → State}
    {f : Proc → State → Proc} (hr : s.canRun p = true) (hc : (ctl && (s.proc p).atLoopEnd) = false)
    (hb : (cs (s.proc p)).find? (·.bad) = none) (hf : (f (s.proc p) s).stepOne = (s.proc p).stepOne) :
    s.issue p ctl cs (fun x s => (g x s).thenNext p (f x s)) = (g (s.proc p) s).retire p (f (s.proc p) s) := by
  rw [State.issue_pass hr hc hb]
  unfold State.retire State.thenNext
  split
  · rw [State.updProc_setProc]
  · next h => rw [Proc.stepOne_false (by rw [Proc.advance_stepOne, hf]; simpa using h)]

/-- An effect g on the device, then the processor f, which holds its next pc. -/
theorem State.issue_retireAt {s : State} {p : ProcId} {ctl : Bool} {cs : Proc → List Chk} {g : Proc → State → State}
    {f : Proc → State → Proc} (hr : s.canRun p = true) (hc : (ctl && (s.proc p).atLoopEnd) = false)
    (hb : (cs (s.proc p)).find? (·.bad) = none) (hf : (f (s.proc p) s).stepOne = (s.proc p).stepOne) :
    s.issue p ctl cs (fun x s => (g x s).setProc p (f x s)) = (g (s.proc p) s).retireAt p (f (s.proc p) s) := by
  rw [State.issue_pass hr hc hb]
  unfold State.retireAt
  split
  · rw [State.updProc_setProc]
  · next h => rw [Proc.stepOne_false (by rw [hf]; simpa using h)]

/-- The first failing check of an instruction that can run traps, and that is the whole effect. -/
theorem State.issue_trap {s : State} {p : ProcId} {ctl : Bool} {cs : Proc → List Chk} {eff : Proc → State → State} {c : Chk}
    (hr : s.canRun p = true) (hs : (s.proc p).stepOne = false) (hc : (ctl && (s.proc p).atLoopEnd) = false)
    (hb : (cs (s.proc p)).find? (·.bad) = some c) : s.issue p ctl cs eff = s.trap p c.code (s.proc p).pc c.addr := by
  simp only [State.canRun, Bool.and_eq_true, Bool.not_eq_true'] at hr
  have hf : s.firstBad p (s.proc p) ctl cs = some c := by
    simp only [State.firstBad, State.chkFetch, List.cons_append, List.nil_append, List.find?_cons, hr.1.2, hr.2, hc, hb,
      Bool.not_true]
  simp [State.issue, hr.1.1.2, hf, hs]

/-- A computing instruction whose operands the table lists writes its result. -/
theorem State.compute_pass {s : State} {p : ProcId} {d : Nat} {ops : Proc → List TWord} {res : Proc → Option TWord}
    {legal : Proc → Bool} {w : TWord} (hr : s.canRun p = true) (hl : legal (s.proc p) = true)
    (ho : (ops (s.proc p)).any (fun w => decide (w.tag = Tag.none)) = false) (hw : res (s.proc p) = some w)
    (hd : (s.proc p).takes d w) :
    s.compute p d ops res legal = s.retire p ((s.proc p).setR d w) := by
  have h31 : spTagOk d w = true := by
    unfold spTagOk; by_cases h : d = 31
    · simp [h, (hd h).1]
    · simp [h]
  have hsl : (decide (d = 31) && decide (w.data.toNat < (s.proc p).slim.toNat)) = false := by
    by_cases h : d = 31
    · simp [h, Nat.not_lt.mpr (hd h).2]
    · simp [h]
  unfold State.compute
  rw [State.issue_retire (g := fun _ s => s) (f := fun x _ => x.setR d ((res x).getD TWord.none)) hr (by simp) _ (by simp)]
  · simp [hw]
  · simp [chkLegal, chkUse, chkTag, chkSp, hl, ho, hw, h31, hsl]

/-- A granted register write acts on the page. -/
theorem State.gated_grants {s : State} {m : Master} {b : Block} {i off : Nat} (act : State → State)
    (h : s.grants m 1 b i off = true) : s.gated m b i off act = act s := by
  unfold State.grants at h
  unfold State.gated
  split at h
  · next h' => rw [h']
  all_goals exact absurd h (by simp)

/-- A granted register read acts on the page and answers its word. -/
theorem State.gatedRead_grants {s : State} {m : Master} {b : Block} {i off : Nat} (act : State → State × Word)
    (h : s.grants m 0 b i off = true) :
    s.gatedRead m b i off act = (act s).1.emit (.readData m [TWord.int (act s).2]) := by
  unfold State.grants at h
  unfold State.gatedRead
  split at h
  · next h' => rw [h']
  all_goals exact absurd h (by simp)

end Sys2Proof.Machine
end

