-- ==== Sys2Proof/Machine/SgramImage.lean ====
section
/-! DEFINITION. What the SGRAM devices hold: the layout of a channel (R293), the metadata of a line (R294), its sealing under the key set
of the channel (R295) and the counter tree's node lines (R299), all as functions of the state. No command reads the devices, and the
reserved area is never accessed. -/

namespace Sys2Proof.Machine

/-! ### The layout of a channel (R293) -/

/-- What lies at a channel address: a line of level 0 (data) or of a tree level, the metadata of one, or the reserved area; with the offset
in it. -/
inductive SgPlace where
  | line (level ix off : Nat)
  | info (level ix off : Nat)
  | reserved
  deriving DecidableEq, Repr

/-- Start of the lines of a level, and of their metadata, in a channel. -/
def lineBase (level : Nat) : Nat := [0, 0x3C000000, 0x3CF00000, 0x3CF3C000].getD level 0
def metaBase (level : Nat) : Nat := [0x28000000, 0x3CA00000, 0x3CF28000, 0x3CF3CA00].getD level 0
/-- Lines of a level. -/
def lineCount (level : Nat) : Nat := [10485760, 163840, 2560, 40].getD level 0
/-- The place of a channel address. -/
def sgPlace (a : Nat) : SgPlace :=
  match (List.range 4).find? fun l => decide (lineBase l ≤ a) && decide (a < lineBase l + 64 * lineCount l) with
  | some l => .line l ((a - lineBase l) / 64) ((a - lineBase l) % 64)
  | none => match (List.range 4).find? fun l => decide (metaBase l ≤ a) && decide (a < metaBase l + 32 * lineCount l) with
    | some l => .info l ((a - metaBase l) / 32) ((a - metaBase l) % 32)
    | none => .reserved

/-! ### Sealing (R294, R295, R299) -/

/-- Product with α in the XTS field, on the 16 bytes of a tweak as a number, least significant byte first. -/
def xtsDouble (t : Nat) : Nat := if t.testBit 127 then (2 * t % 2 ^ 128) ^^^ 0x87 else 2 * t
/-- AES-256-XTS of whole blocks: the key pair, the 16 tweak bytes, the text. -/
def xtsSeal (key tweak text : List Byte) : List Byte :=
  ((chunks 16 (text.length / 16) text).foldl (fun (acc : List Byte × Nat) b =>
    let t := leBytes 16 acc.2
    (acc.1 ++ xorBytes (aesEnc (key.take 32) (xorBytes b t)) t, xtsDouble acc.2)) ([], leNat (aesEnc (key.drop 32) tweak))).1
/-- The channel line number: the channel address of a line over 64. -/
def lineNumber (level ix : Nat) : Nat := lineBase level / 64 + ix
/-- The words of a node line: MAJOR, then the 64 MINOR fields of its children (R299). -/
def SgmCh.node (x : SgmCh) (level ix : Nat) : List Byte :=
  leBytes 64 (Sparse.get 0 x.major (treeKey level ix) % 2 ^ 64 +
    (List.range 64).foldl (fun n j => n + Sparse.get 0 x.minor (treeKey (level - 1) (64 * ix + j)) % 128 * 2 ^ (64 + 7 * j)) 0)
/-- The plaintext of a line, and its MASK. -/
def State.linePlain (s : State) (ch level ix : Nat) : List Byte × Nat :=
  if level = 0 then
    let ws := s.lineWords ch ix
    (ws.flatMap fun w => leBytes 4 w.data.toNat, (List.range 16).foldl (fun n j => if (ws.getD j TWord.none).tag = Tag.int then n + 2 ^ j else n) 0)
  else ((s.sg ch).node level ix, 0xFFFF)
/-- Its ciphertext under the XTS key pair of the channel's key set. -/
def State.lineCipher (s : State) (ch level ix : Nat) : List Byte :=
  xtsSeal (bytesOf ((s.sg ch).key.take 16))
    (leBytes 16 ((s.sg ch).ver level ix % 2 ^ 64 + 2 ^ 64 * lineNumber level ix + 2 ^ 88 * ch)) (s.linePlain ch level ix).1
/-- The 32 bytes of its metadata: CHECK, MASK, MAC, VERSION (R294). -/
def State.lineMeta (s : State) (ch level ix : Nat) : List Byte :=
  let x := s.sg ch
  let c := s.lineCipher ch level ix
  let mask := leBytes 2 (s.linePlain ch level ix).2
  let v := x.ver level ix % 2 ^ 64
  let iv := beBytes 12 (v + 2 ^ 64 * lineNumber level ix + 2 ^ 88 * ch)
  leBytes 14 ((List.range 16).foldl (fun n j => n + (Config.checkBits (leWord ((c.drop (4 * j)).take 4))).toNat * 2 ^ (7 * j)) 0) ++
    mask ++ (gcmTag (bytesOf (x.key.drop 16)) iv (c ++ mask) []).take 8 ++ leBytes 8 v
/-- The byte that the device holds at a channel address; none where the line was never written, and in the reserved area (R293, R299). -/
def State.sgramByte (s : State) (ch a : Nat) : Option Byte :=
  match sgPlace a with
  | .line l i o => if (s.sg ch).ver l i = 0 then none else (s.lineCipher ch l i)[o]?
  | .info l i o => if (s.sg ch).ver l i = 0 then none else (s.lineMeta ch l i)[o]?
  | .reserved => none

end Sys2Proof.Machine
end

