-- ==== Sys2Proof/WellFormed.lean ====
section
/-! DEFINITION. Which commands are well formed: operands whose range the operand's type does not fix already. -/

namespace Sys2Proof

/-- An address of the 40-bit physical space (R144). -/
def addrOk (a : Nat) : Bool := decide (a < 2 ^ 40)

/-- An access size of the device: 1, 2 or 4 bytes (R10, R68). -/
def sizeOk (n : Nat) : Bool := decide (n = 1) || decide (n = 2) || decide (n = 4)

/-- A page that exists (R25). -/
def pageOk (pg : PageRef) : Bool := decide (pg.inst < pg.block.insts)

/-- A mortar message that a master can issue (R147): address and size as an access, a known destination. -/
def msgOk (m : Msg) : Bool := addrOk m.addr && sizeOk m.size && decide (m.dest ≤ 32)

/-- A MAC address is 48 bits (R269). -/
def macOk (a : Nat) : Bool := decide (a < 2 ^ 48)

/-- A frame as the MAC hands it over. -/
def frameOk (f : EthFrame) : Bool := macOk f.dst && macOk f.src && f.vids.all fun v => decide (v < 4096)

/-- Well-formed commands. Every other operand is held to its range by its type. -/
def Instr.wf : Instr → Bool
  | .registerWrite _ a n _ => addrOk a && sizeOk n
  | .faultTimeLoRead _ a => addrOk a
  | .rwpShadowWrite _ a _ => addrOk a
  | .stkyClear _ pg _ _ => pageOk pg
  | .softReset _ pg _ => pageOk pg
  | .mortarDelivery m => msgOk m.msg
  | .beatUncorrectable m _ => msgOk m
  | .ethFrameReceived _ f => frameOk f
  | .dupEntryExpiry _ mac n => macOk mac && decide (n < 2 ^ 16)
  | .sgramRead _ a n _ => addrOk a && decide (0 < n)
  | .sgramWrite _ a ws => addrOk a && !ws.isEmpty
  | .flashRead _ a => addrOk a
  | .descriptorFetch _ _ d => decide (d.length = 128)
  | _ => true

end Sys2Proof
end

