-- ==== Sys2Proof/Tests/Slice0.lean ====
section
/-! SUPPORT. Tests: ill-formed commands that the checks refuse, values the spec and the published standards work out, and for
every statement with hypotheses states at which they hold together. -/

open Sys2Proof Sys2Proof.Machine

namespace Sys2Proof.Tests

set_option Elab.async false

/-- The state after reset with the joint up, so that Keystone's accesses reach the Arch die, and two masters. -/
abbrev z : State := { State.reset with jnt := { up := true } }
abbrev ks : Master := .proc (.ks 0)
abbrev cx : Master := .proc (.cox 0)
/-- Tile 0.0, running at supervisor privilege with the given record. -/
abbrev p0 : ProcId := .tile 0 0
def tl (x : Proc) : State := z.setProc p0 { x with running := true }
def int (w : Word) : TWord := ⟨w, Tag.int⟩
def ptr (w : Word) : TWord := ⟨w, Tag.ptr⟩

end Sys2Proof.Tests

/-! ### Well-formed commands: each check refuses an ill-formed term -/

namespace Sys2Proof.Tests

set_option Elab.async false

theorem test_wf_address : (Instr.registerWrite ks (2 ^ 40) 4 0).wf = false ∧ (Instr.registerWrite ks (2 ^ 40 - 4) 4 0).wf = true := by decide
theorem test_wf_size : (Instr.registerWrite ks 0x40000008 3 0).wf = false := by decide
theorem test_wf_page : (Instr.softReset ks ⟨.cox, 16⟩ 2).wf = false ∧ (Instr.softReset ks ⟨.cox, 15⟩ 2).wf = true := by decide
theorem test_wf_stkyPage : (Instr.stkyClear ks ⟨.sgm, 8⟩ 0 1).wf = false := by decide
theorem test_wf_faultTime : (Instr.faultTimeLoRead ks (2 ^ 40)).wf = false := by decide
theorem test_wf_shadow : (Instr.rwpShadowWrite ks (2 ^ 40) 1).wf = false := by decide
/-- A message to a node beyond the mesh and the joint. -/
def msgBad : Msg :=
  { src := ks, sched := false, owner := 0, kind := .read, addr := 0x30000000, size := 4, data := [], stroke := 0, dest := 33, pc := 0 }
theorem test_wf_message : (Instr.mortarDelivery { msg := msgBad }).wf = false ∧ (Instr.mortarDelivery { msg := { msgBad with dest := 3 } }).wf = true := by decide
theorem test_wf_beat : (Instr.beatUncorrectable msgBad 0).wf = false := by decide
theorem test_wf_frame :
    (Instr.ethFrameReceived 8 { dst := 0, src := 5, vids := [4096], len := 100, redSeq := none, fcsOk := true, content := .envL2 [] }).wf =
      false := by decide
theorem test_wf_mac : (Instr.dupEntryExpiry 8 (2 ^ 48) 0).wf = false ∧ (Instr.dupEntryExpiry 8 5 (2 ^ 16)).wf = false := by decide
theorem test_wf_sgramRead : (Instr.sgramRead ks 0x100000000 0 false).wf = false := by decide
theorem test_wf_sgramWrite : (Instr.sgramWrite ks 0x100000000 []).wf = false := by decide
theorem test_wf_flashRead : (Instr.flashRead ks (2 ^ 40)).wf = false := by decide
theorem test_wf_descriptor : (Instr.descriptorFetch 0 0 (zeros 127)).wf = false := by decide +kernel

/-! ### The table word -/

/-- The table gives no row bits: no word spells a command, and the state stays as it is. -/
theorem test_decodeTableWord : decodeTableWord 32 0 = none ∧ z.withFetchWord 32 0 = z := ⟨rfl, rfl⟩

/-! ### Values the spec works out -/

/-- The pages of R24's text: course 3, port E_5 and ETH instance 37. -/
theorem test_pageBase : pageBase ⟨.cox, 3⟩ = 0x40103000 ∧ pageBase ⟨.eth, 5⟩ = 0x40305000 ∧ pageBase ⟨.eth, 37⟩ = 0x42305000 := by decide
/-- R157: MORT.PAGE_CAP. -/
theorem test_mortPageCap : pageCap .mort 0 = 0x00668F24 := by decide
/-- The worked path of 07: the partner read of class 33 between nodes (4,1) and (1,0), and the route back with link direction 6
fenced. -/
theorem test_routes : z.route? 10 1 = some [17, 15, 13, 63] ∧ z.route? 1 10 = some [2, 4, 6, 68] ∧
    (z.setReg .mort 0 0x50 0x40).route? 1 10 = some [62, 12, 14, 16] := by decide +kernel

/-- The two regions of ACU 60 in the worked example of 17, in MISSION and in RETURN. -/
def acu60 (n : Nat) : State := { z with
  acuBase := [(acuKey 60 0 0, 0x00100000), (acuKey 60 0 1, 0x00107000)]
  acuAttr := [(acuKey 60 0 0, 0x008000D7), (acuKey 60 0 1, 0x000004D4)]
  lcs := { z.lcs with word := lcWord n } }
/-- The debug master's read at 0x00_106F_FFC0 meets LOCKED at 0x00_1070_0000 in region 1; in RETURN nothing refuses it. -/
theorem test_acuLocked : (acu60 3).acuCheck .debug 0 0x106FFFC0 128 = some (0x10700000, 3, 1, true) ∧
    (acu60 5).acuCheck .debug 0 0x106FFFC0 128 = none := by decide +kernel

/-! The worked fragment of 04 on tile 3.4: a key goes from the key plane to cipher pair 6. -/

/-- Tile 3.4 before an instruction of the fragment, with its session key in the key plane. -/
def frag (b : List (Nat × TWord)) : State :=
  (z.setProc (.tile 3 4) { running := true, sched := true, b := b }).putWord (scratchBase 3 4 + 0xE020) ⟨0x12345678, Tag.key⟩
/-- Brick or key register n of tile 3.4 after a command, and its trap cause. -/
def after (o : Host.Outcome State Fault Refusal) (f : Proc → TWord) : Option TWord :=
  match o with
  | .next t => some (f (t.proc (.tile 3 4)))
  | _ => none

theorem test_fragment_lui : after (exec (.lui (.tile 3 4) 6 0xD200) (frag [])) (·.r 6) = some (TWord.int 0xD2000000) := by decide +kernel
theorem test_fragment_ori : after (exec (.ori (.tile 3 4) 6 6 0x6000) (frag [(6, int 0xD2000000)])) (·.r 6) = some (TWord.int 0xD2006000) := by
  decide +kernel
theorem test_fragment_cvt : after (exec (.cvt (.tile 3 4) 6 6 Tag.ptr) (frag [(6, int 0xD2006000)])) (·.r 6) = some ⟨0xD2006000, Tag.ptr⟩ := by
  decide +kernel
theorem test_fragment_lkey : after (exec (.lkey (.tile 3 4) 2 7 0x20) (frag [(7, ptr 0x1E000)])) (·.kr 2) = some ⟨0x12345678, Tag.key⟩ := by
  decide +kernel
/-- LDW in the key plane: KEY_ESCAPE (code 3, in scheduled mode), and b8 keeps its value. -/
theorem test_fragment_ldw :
    after (exec (.ldw (.tile 3 4) 8 7 0x20) (frag [(7, ptr 0x1E000), (8, int 5)])) (fun x => ⟨x.tcause, (x.r 8).tag⟩) = some ⟨0x13, Tag.int⟩ := by
  decide +kernel
/-- KPUT with b6 left INT: TAG_MISMATCH (code 2, in scheduled mode). -/
theorem test_fragment_kput :
    after (exec (.kput (.tile 3 4) 2 6 0) ((frag [(6, int 0xD2006000)]).setProc (.tile 3 4)
      { running := true, sched := true, b := [(6, int 0xD2006000)], k := [(2, ⟨1, Tag.key⟩)] })) (fun x => ⟨x.tcause, Tag.int⟩) = some ⟨0x12, Tag.int⟩ := by
  decide +kernel

/-! ### Vectors of the published standards that the spec builds on -/

/-- FIPS 180-4: SHA-256 of abc. -/
theorem test_sha256_abc : beNat (sha256 [0x61, 0x62, 0x63]) = 0xBA7816BF8F01CFEA414140DE5DAE2223B00361A396177A9CB410FF61F20015AD := by
  decide +kernel
/-- FIPS 180-4: SHA-384 of abc. -/
theorem test_sha384_abc : beNat (sha384 [0x61, 0x62, 0x63]) =
    0xCB00753F45A35E8BB5A03D699AC65007272C32AB0EDED1631A8B605A43FF5BED8086072BA1E7CC2358BAECA134C825A7 := by decide +kernel
/-- FIPS 197, appendix B: AES-128. -/
theorem test_aes128 : beNat (aesEnc (beBytes 16 0x2B7E151628AED2A6ABF7158809CF4F3C) (beBytes 16 0x3243F6A8885A308D313198A2E0370734)) =
    0x3925841D02DC09FBDC118597196A0B32 := by decide +kernel

/-- RFC 6979, A.2.5: the P-256 signature of "sample" with SHA-256. -/
theorem test_ecdsaP256 : ecdsaVerify curve256
    (beBytes 32 0x60FED4BA255A9D31C961EB74C6356D68C049B8923B61FA6CE669622E60F29FB6 ++
      beBytes 32 0x7903FE1008B8BC99A41AE9E95628BC64F2F1B20C2D7E9F5177A3C294D4462299) (sha256 (ascii "sample"))
    (beBytes 32 0xEFD48B2AACB6A8FD1140DD9CD45E81D69D2C877B56AAF991C34D0EA84EAF3716 ++
      beBytes 32 0xF7CB1C942D657C41D436C7A1B6E29F65F3E900DBB9AFF4064DC4AB2F843ACDA8) = true := by decide +kernel
/-- RFC 8032, 7.1, test 1: the empty message. -/
theorem test_ed25519 : edVerify (beBytes 32 0xD75A980182B10AB7D54BFED3C964073A0EE172F3DAA62325AF021A68F707511A)
    (beBytes 32 0xE5564300C360AC729086E2CC806E828A84877F1EB8E5D974D873E06522490155 ++
      beBytes 32 0x5FB8821590A33BACC61E39701CF9B46BD25BF5F0595BBE24655141438E7A100B) [] = true := by decide +kernel
/-- RFC 7748, 5.2, first vector. -/
theorem test_x25519 : x25519 (beBytes 32 0xA546E36BF0527C9D3B16154B82465EDD62144C0AC1FC5A18506A2244BA449AC4)
    (beBytes 32 0xE6DB6867583030DB3594C1A424B15F7C726624EC26B3353B10A903A6D0AB1C4C) =
    some (beBytes 32 0xC3DA55379DE9C6908E94EA4DF28D084F32ECCF03491C71F754B4075577A28552) := by decide +kernel
/-- CAVP, CTR_DRBG with AES-256 and no derivation function, first vector: the second request of 64 bytes. -/
theorem test_ctrDrbg :
    (let u := drbgUpdate (zeros 32) (zeros 16)
       (beBytes 48 0xDF5D73FAA468649EDDA33B5CCA79B0B05600419CCB7A879DDFEC9DB32EE494E5531B51DE16A30F769262474C73BEC010)
     let g := drbgGenerate u.1 u.2 64
     (drbgGenerate g.2.1 g.2.2 64).1) = beBytes 64
      0xD1C07CD95AF8A7F11012C84CE48BB8CB87189E99D40FCCB1771C619BDF82AB2280B1DC2F2581F39164F7AC0C510494B3A43C41B7DB17514C87B107AE793E01C5 := by
  decide +kernel
/-- FIPS 203: X^255 · X is -1 modulo X^256 + 1. -/
theorem test_mlKemTransform : kemRing.intt (kemMul (kemRing.ntt (Ring.zero.set 255 1)) (kemRing.ntt (Ring.zero.set 1 1))) =
    Ring.zero.set 0 3328 := by decide +kernel
/-- FIPS 204: X^255 · X is -1 modulo X^256 + 1. -/
theorem test_mlDsaTransform : dsaRing.intt (dsaMul (dsaRing.ntt (Ring.zero.set 255 1)) (dsaRing.ntt (Ring.zero.set 1 1))) =
    Ring.zero.set 0 8380416 := by decide +kernel

end Sys2Proof.Tests

/-! ### Witnesses: the hypotheses of the statements, met -/

namespace Sys2Proof.Tests.Machine

set_option Elab.async false

def zq : State := { z with pending := [.nop p0], regs := [] }
def rg : State := z.setReg .tmp 0 0x10 4
def stk : State := z.setSticky .tmp 0 2
/-- TMP.STKY.CMD_REJECT is set with its enable: the level of TMP's first event is high. -/
def evHigh : State := (z.setReg .tmp 0 0x14 1).setSticky .tmp 0 0
/-- The same, with that level already seen by the router. -/
def evSeen : State := { evHigh with evtHigh := [1762] }
def evSoft : State := { z with swNow := [1900] }
def evPend : State := z.setReg .evt 0 0x100 0xFFFFFFFF
def viol : State := z.setReg .acu 63 0x44 0x80000000
def ai : State := tl { b := [(1, int 7), (2, int 0xFFFFFFFF)] }
def apq : State := tl { b := [(1, ptr 0x12000), (2, int 4), (31, ptr 0x12000)] }
def att : State := tl { b := [(2, ⟨9, Tag.time⟩), (3, ⟨1, Tag.time⟩), (1, int 4)] }
def al : State := tl { b := [(1, ⟨0xFFFFFFFF, Tag.limb⟩), (2, ⟨1, Tag.limb⟩)], cy := true }
def asup : State := tl { b := [(1, int 7), (2, int 0xFFFFFFFF), (4, int 1)], super := true }
def s1 : State := {evPend with regs := (evPend.setReg .evt 0 (0x100+4*59) 0xFFFFFFFF).regs, swNow := [1900]}

/-- States and operands at which the hypotheses of `Obligations.OperandTagTraps` hold together, clause by clause. -/
theorem witness_OperandTagTraps :
    (ai.canRun p0 = true) ∧
    ((ai.proc p0).stepOne = false) ∧
    (Instr.and p0 (3 : Fin 32) (1 : Fin 32) (5 : Fin 32) ∈ [Instr.and p0 (3 : Fin 32) (1 : Fin 32) (5 : Fin 32), Instr.or p0 (3 : Fin
      32) (1 : Fin 32) (5 : Fin 32), Instr.xor p0 (3 : Fin 32) (1 : Fin 32) (5 : Fin 32), Instr.sll p0 (3 : Fin 32) (1 : Fin 32) (5 :
      Fin 32), Instr.srl p0 (3 : Fin 32) (1 : Fin 32) (5 : Fin 32), Instr.sra p0 (3 : Fin 32) (1 : Fin 32) (5 : Fin 32), Instr.slt p0 (3
      : Fin 32) (1 : Fin 32) (5 : Fin 32), Instr.mul p0 (3 : Fin 32) (1 : Fin 32) (5 : Fin 32), Instr.mulhu p0 (3 : Fin 32) (1 : Fin 32)
      (5 : Fin 32), Instr.mulh p0 (3 : Fin 32) (1 : Fin 32) (5 : Fin 32)]) ∧
    (((ai.proc p0).r 1).tag = Tag.none ∨ ((ai.proc p0).r 5).tag = Tag.none) ∧
    (((ai.proc p0).r 1).tag ≠ Tag.none) ∧
    (apq.canRun p0 = true) ∧
    ((apq.proc p0).stepOne = false) ∧
    (Instr.and p0 (3 : Fin 32) (1 : Fin 32) (2 : Fin 32) ∈ [Instr.and p0 (3 : Fin 32) (1 : Fin 32) (2 : Fin 32), Instr.or p0 (3 : Fin
      32) (1 : Fin 32) (2 : Fin 32), Instr.xor p0 (3 : Fin 32) (1 : Fin 32) (2 : Fin 32), Instr.sll p0 (3 : Fin 32) (1 : Fin 32) (2 :
      Fin 32), Instr.srl p0 (3 : Fin 32) (1 : Fin 32) (2 : Fin 32), Instr.sra p0 (3 : Fin 32) (1 : Fin 32) (2 : Fin 32), Instr.slt p0 (3
      : Fin 32) (1 : Fin 32) (2 : Fin 32), Instr.mul p0 (3 : Fin 32) (1 : Fin 32) (2 : Fin 32), Instr.mulhu p0 (3 : Fin 32) (1 : Fin 32)
      (2 : Fin 32), Instr.mulh p0 (3 : Fin 32) (1 : Fin 32) (2 : Fin 32)]) ∧
    (((apq.proc p0).r 1).tag ≠ Tag.none) ∧
    (((apq.proc p0).r 2).tag ≠ Tag.none) ∧
    (((apq.proc p0).r 1).tag ≠ Tag.int ∨ ((apq.proc p0).r 2).tag ≠ Tag.int) := by
  refine ⟨?_, ?_, ?_, ?_, ?_, ?_, ?_, ?_, ?_, ?_, ?_⟩ <;>
    decide +kernel

/-- States and operands at which the hypotheses of `Obligations.ArithmeticResults` (part 3) hold together, clause by clause. -/
theorem witness_ArithmeticResults_3 :
    (al.canRun p0 = true) ∧
    (3 ≠ 31) ∧
    (((al.proc p0).r 1).tag = Tag.limb) ∧
    (((al.proc p0).r 2).tag = Tag.limb) := by
  refine ⟨?_, ?_, ?_, ?_⟩ <;>
    decide +kernel

/-- States and operands at which the hypotheses of `Obligations.ArithmeticResults` (part 1) hold together, clause by clause. -/
theorem witness_ArithmeticResults_1 :
    (ai.canRun p0 = true) ∧
    (0 ≠ 31) ∧
    (((ai.proc p0).r 2).tag = Tag.int) ∧
    (((ai.proc p0).r 1).tag = Tag.int) := by
  refine ⟨?_, ?_, ?_, ?_⟩ <;>
    decide +kernel

/-- States and operands at which the hypotheses of `Obligations.EventRouterRows` hold together, clause by clause. -/
theorem witness_EventRouterRows :
    (evtHasSource 1762 = true) ∧
    (evtSoftware 1762 = false) ∧
    (evHigh.evtLevel 1762 = true) ∧
    (¬1762 ∈ evHigh.evtHigh) ∧
    (evSeen.evtLevel 1762 = true) ∧
    (1762 ∈ evSeen.evtHigh) ∧
    (evtHasSource 1760 = true) ∧
    (evtSoftware 1760 = false) ∧
    (z.evtLevel 1760 = false) ∧
    (evHigh.grants ks 1 Block.evt 0 (256 + 4 * 55) = true) ∧
    (evPend.grants ks 1 Block.evt 0 (256 + 4 * 55) = true) ∧
    (evSoft.grants ks 1 Block.evt 0 (256 + 4 * 59) = true) ∧
    (evPend.grants ks 1 Block.evt 0 (512 + 4 * 0) = true) ∧
    (z.grants ks 1 Block.evt 0 72 = true) ∧
    (1856 ≤ BitVec.toNat (1900 : Word) % 2048) ∧
    (¬BitVec.toNat (1900 : Word) % 2048 ∈ z.swNow) ∧
    (evSoft.grants ks 1 Block.evt 0 72 = true) ∧
    (BitVec.toNat (1900 : Word) % 2048 ∈ evSoft.swNow) ∧
    (BitVec.toNat (0 : Word) % 2048 < 1856) ∧
    (z.grants ks 1 Block.evt 0 68 = true) ∧
    (fld (1610612736 : Word) 29 2 = 3) ∧
    (fld (0 : Word) 29 2 < 2) ∧
    (evtForced (BitVec.toNat (z.reg Block.evt 0 64) % 2048) = false) ∧
    (fld (1073741824 : Word) 29 2 = 2) := by
  refine ⟨?_, ?_, ?_, ?_, ?_, ?_, ?_, ?_, ?_, ?_, ?_, ?_, ?_, ?_, ?_, ?_, ?_, ?_, ?_, ?_, ?_, ?_, ?_, ?_⟩ <;>
    decide +kernel

/-- States and operands at which the hypotheses of `Obligations.GtisEncodings` hold together, clause by clause. -/
theorem witness_GtisEncodings :
    (encodingLegal (683725312 : Word) = true) ∧
    (gtisWord (Instr.lui p0 (6 : Fin 32) (53760 : BitVec 16)) = some (p0, (683725312 : Word))) ∧
    (encodingLegal (0 : Word) = false) := by
  refine ⟨?_, ?_, ?_⟩ <;>
    decide +kernel

/-- States and operands at which the hypotheses of `Obligations.ArithmeticResults` (part 2) hold together, clause by clause. -/
theorem witness_ArithmeticResults_2 :
    (ai.canRun p0 = true) ∧
    (3 ≠ 31) ∧
    (((ai.proc p0).r 2).tag = Tag.int) := by
  refine ⟨?_, ?_, ?_⟩ <;>
    decide +kernel

/-- States and operands at which the hypotheses of `Obligations.TagRuleResults` hold together, clause by clause. -/
theorem witness_TagRuleResults :
    (ai.canRun p0 = true) ∧
    (2 ≠ 31) ∧
    (((ai.proc p0).r 1).tag = ((ai.proc p0).r 2).tag) ∧
    (((ai.proc p0).r 1).tag ∈ [Tag.int, Tag.ptr, Tag.time]) ∧
    (((ai.proc p0).r 1).tag ∈ [Tag.int, Tag.ptr, Tag.limb, Tag.handle, Tag.time]) ∧
    (((ai.proc p0).r 2).tag = Tag.int) ∧
    ((ai.proc p0).takes 2 (if ((ai.proc p0).r 2).data ≠ (0 : Word) then (ai.proc p0).r 1 else (ai.proc p0).r 2)) ∧
    (((ai.proc p0).r 1).tag ∈ [Tag.int, Tag.limb]) ∧
    ((ai.proc p0).takes 2 ((ai.proc p0).r 1)) ∧
    ((((ai.proc p0).r 1).tag, Tag.ptr) ∈ [(Tag.int, Tag.int), (Tag.int, Tag.ptr), (Tag.int, Tag.limb), (Tag.int, Tag.time), (Tag.ptr,
      Tag.int), (Tag.ptr, Tag.ptr), (Tag.limb, Tag.int), (Tag.limb, Tag.limb), (Tag.time, Tag.int), (Tag.time, Tag.time)]) ∧
    ((ai.proc p0).takes 2 { data := ((ai.proc p0).r 1).data, tag := Tag.ptr : TWord }) ∧
    (asup.canRun p0 = true) ∧
    ((asup.proc p0).super = true) ∧
    (((asup.proc p0).r 1).tag = Tag.int) ∧
    (Tag.handle ∈ [Tag.int, Tag.ptr, Tag.limb, Tag.handle, Tag.time]) ∧
    ((asup.proc p0).takes 2 { data := ((asup.proc p0).r 1).data, tag := Tag.handle : TWord }) := by
  refine ⟨?_, ?_, ?_, ?_, ?_, ?_, ?_, ?_, ?_, ?_, ?_, ?_, ?_, ?_, ?_, ?_⟩ <;>
    first | decide +kernel | (unfold Proc.takes; decide +kernel)

/-- States and operands at which the hypotheses of `Obligations.FirstFaultCapture` hold together, clause by clause. -/
theorem witness_FirstFaultCapture :
    (2 < 32) ∧
    (64 < 4096) ∧
    (255 < 256) ∧
    (bit (z.reg Block.tmp 0 16) 2 = false) ∧
    (bit (z.reg Block.tmp 0 28) 31 = false) ∧
    (bit (stk.reg Block.tmp 0 16) 2 = true ∨ bit (stk.reg Block.tmp 0 28) 31 = true) := by
  refine ⟨?_, ?_, ?_, ?_, ?_, ?_⟩ <;>
    decide +kernel

/-- States and operands at which the hypotheses of `Obligations.AccessCheckRows` (part 1) hold together, clause by clause. -/
theorem witness_AccessCheckRows_1 :
    (z.acuEcc = []) ∧
    (1 ≤ 2) ∧
    (ks ≠ Master.debug) ∧
    (z.acuUser ks = false) ∧
    (67108864 ≤ pageBase ⟨Block.dual, 0⟩) ∧
    (pageOf (pageBase ⟨Block.dual, 0⟩) = some
      ({ block := Block.dual, inst := (pageBase ⟨Block.dual, 0⟩ - 1073741824) / 2 ^ 24 * 16 + (pageBase ⟨Block.dual, 0⟩ - 1073741824) / 2 ^ 12 % 16 : PageRef },
      (pageBase ⟨Block.dual, 0⟩ - 1073741824) % 2 ^ 12)) ∧
    (cx ≠ Master.debug) ∧
    (z.acuUser cx = false) ∧
    (67108863 < 67108864) ∧
    (2 ≤ 2) ∧
    (67108864 ≤ 1140850688) ∧
    (1140850688 < 1073741824 ∨ 1140850688 ≤ 1140850688) ∧
    (0 ≤ 2) ∧
    (Master.pcie (3 : Fin 128) ≠ Master.debug) ∧
    (z.acuUser (Master.pcie (3 : Fin 128)) = true) := by
  refine ⟨?_, ?_, ?_, ?_, ?_, ?_, ?_, ?_, ?_, ?_, ?_, ?_, ?_, ?_, ?_⟩ <;>
    decide +kernel

/-- States and operands at which the hypotheses of `Obligations.AccessCheckRows` (part 2) hold together, clause by clause. -/
theorem witness_AccessCheckRows_2 :
    (1 < 4) ∧
    (3 < 8) ∧
    (15 < 16) ∧
    (bit (z.reg Block.acu ks.acu 68) 31 = false) ∧
    (z.grants ks 1 Block.acu 63 92 = true) ∧
    (bit (1 : Word) 0 = true) ∧
    (bit (viol.reg Block.acu ks.acu 68) 31 = true) := by
  refine ⟨?_, ?_, ?_, ?_, ?_, ?_, ?_⟩ <;>
    decide +kernel

/-- States and operands at which the hypotheses of `Obligations.RegisterRows` (part 1) hold together, clause by clause. -/
theorem witness_RegisterRows_1 :
    (z.gate ks 1 (pageBase ⟨Block.tmp, 0⟩ + 20) 4 = Gate.page ⟨Block.tmp, 0⟩ 20) ∧
    (ks ≠ Master.debug) ∧
    (z.acuCheck ks 1 (pageBase ⟨Block.tmp, 0⟩ + 20) 2 = none) ∧
    (2 ≠ 4 ∨ (pageBase ⟨Block.tmp, 0⟩ + 20) % 4 ≠ 0) ∧
    (z.grants ks 1 Block.tmp 0 16 = true) ∧
    (z.gate ks 1 (pageBase ⟨Block.clk, 0⟩ + 64) 4 = Gate.page ⟨Block.clk, 0⟩ 64) ∧
    (hasRwp ⟨Block.clk, 0⟩ = true) ∧
    (rwpMask Block.clk 64 ≠ (0 : Word)) ∧
    (64 < 2048) ∧
    (¬Block.clk ∈ [Block.acu, Block.sgm, Block.cox, Block.sys]) ∧
    (z.gate ks 1 (pageBase ⟨Block.clk, 0⟩ + 2112) 4 = Gate.page ⟨Block.clk, 0⟩ 2112) ∧
    (2048 ≤ 2112) ∧
    (rg.gate ks 0 (pageBase ⟨Block.tmp, 0⟩ + 32) 4 = Gate.page ⟨Block.tmp, 0⟩ 32) := by
  refine ⟨?_, ?_, ?_, ?_, ?_, ?_, ?_, ?_, ?_, ?_, ?_, ?_, ?_⟩ <;>
    decide +kernel

/-- States and operands at which the hypotheses of `Obligations.RegisterRows` (part 2) hold together, clause by clause. -/
theorem witness_RegisterRows_2 :
    (Block.pwr ∈ [Block.pwr, Block.clk, Block.rst, Block.sgn, Block.ptn, Block.pci, Block.elg]) ∧
    (bit (3 : Word) 1 = true) ∧
    (0 < 64) ∧
    ((z.setReg Block.pwr 0 16 (4 : Word)).grants ks 1 Block.pwr 0 8 = true) := by
  refine ⟨?_, ?_, ?_, ?_⟩ <;>
    decide +kernel

/-- States and operands at which the hypotheses of `Obligations.ArithmeticResults` (part 4) hold together, clause by clause. -/
theorem witness_ArithmeticResults_4 :
    (ai.canRun p0 = true) ∧
    ((((ai.proc p0).r 1).tag, ((ai.proc p0).r 2).tag, Tag.int) ∈ [(Tag.int, Tag.int, Tag.int), (Tag.ptr, Tag.int, Tag.ptr), (Tag.int,
      Tag.ptr, Tag.ptr), (Tag.time, Tag.int, Tag.time)]) ∧
    ((ai.proc p0).takes 3 { data := ((ai.proc p0).r 1).data + ((ai.proc p0).r 2).data, tag := Tag.int : TWord }) ∧
    ((((ai.proc p0).r 1).tag, ((ai.proc p0).r 2).tag, Tag.int) ∈ [(Tag.int, Tag.int, Tag.int), (Tag.ptr, Tag.int, Tag.ptr), (Tag.ptr,
      Tag.ptr, Tag.int), (Tag.time, Tag.int, Tag.time), (Tag.time, Tag.time, Tag.int)]) ∧
    ((ai.proc p0).takes 3 { data := ((ai.proc p0).r 1).data - ((ai.proc p0).r 2).data, tag := Tag.int : TWord }) ∧
    (((ai.proc p0).r 1).tag ∈ [Tag.int, Tag.ptr, Tag.time]) ∧
    ((ai.proc p0).takes 3
      { data := ((ai.proc p0).r 1).data + BitVec.signExtend 32 (5 : BitVec 16), tag := ((ai.proc p0).r 1).tag : TWord }) ∧
    (att.canRun p0 = true) ∧
    (4 % 2 = 0) ∧
    (2 % 2 = 0) ∧
    (4 ≠ 30) ∧
    (((att.proc p0).r 2).tag = Tag.time) ∧
    (((att.proc p0).r (2 + 1)).tag = Tag.time) ∧
    (((att.proc p0).r 1).tag = Tag.int) := by
  refine ⟨?_, ?_, ?_, ?_, ?_, ?_, ?_, ?_, ?_, ?_, ?_, ?_, ?_, ?_⟩ <;>
    first | decide +kernel | (unfold Proc.takes; decide +kernel)

/-- States and operands at which the hypotheses of `Obligations.StepRunsFrontCommand` hold together, clause by clause. -/
theorem witness_StepRunsFrontCommand :
    (zq.pending = [Instr.nop p0]) := by decide +kernel

/-- States and operands at which the hypotheses of `Obligations.RegisterRows` hold together, clause by clause. -/
theorem witness_RegisterRows_sticky :
    (z.grants ks 1 Block.tmp 0 16 = true) ∧
    (∀ (k : Nat), k < 32 → ¬(bit (z.reg Block.tmp 0 16 &&& ~~~(1 : Word) ||| (0 : Word) &&& stkyMask Block.tmp) k = true ∧ bit (z.reg
      Block.tmp 0 16) k = false)) ∧
    (0 < 2) ∧
    (2 < 32) ∧
    (bit (z.reg Block.tmp 0 16 &&& ~~~(1 : Word) ||| (4 : Word) &&& stkyMask Block.tmp) 2 = true ∧ bit (z.reg Block.tmp 0 16) 2 = false) ∧
    (∀ (j : Nat), j < 2 → ¬(bit (z.reg Block.tmp 0 16 &&& ~~~(1 : Word) ||| (4 : Word) &&& stkyMask Block.tmp) j = true ∧ bit (z.reg
      Block.tmp 0 16) j = false)) ∧
    (bit (z.reg Block.tmp 0 16 &&& ~~~(1 : Word) ||| (1 : Word) &&& stkyMask Block.tmp) 0 = true ∧ bit (z.reg Block.tmp 0 16) 0 = false) ∧
    (bit (z.reg Block.tmp 0 28) 31 = false) := by
  refine ⟨?_, ?_, ?_, ?_, ?_, ?_, ?_, ?_⟩ <;>
    decide +kernel

end Sys2Proof.Tests.Machine

namespace Sys2Proof.Tests.Tiles

set_option Elab.async false

/-- Memory of tile 0.0: an INT word, a HANDLE-free PTR word and a KEY word in its plane. -/
def ml (x : Proc) : State := ((((tl x).putWord (scratchBase 0 0 + 0x100) (int 0x8081F2F3)).putWord (scratchBase 0 0 + 0x104) (ptr 0x12000)).putWord
  (scratchBase 0 0 + 0xE000) ⟨0x55, Tag.key⟩)
def m1 : State := ml { b := [(1, ptr 0x10100), (2, int 0xABCD)], k := [(3, ⟨0x77, Tag.key⟩)] }
def m2 : State := ml { b := [(1, ptr 0x10104), (2, int 0xABCD), (31, ptr 0x10200)] }
def m3 : State := ml { b := [(1, ptr 0x1E000), (2, int 0xABCD)], k := [(3, ⟨0x77, Tag.key⟩)] }
/-- A pointer into the global window at the engine port of pair 0, and one at the scratch of tile 1.0. -/
def m4 : State := { ml { b := [(1, ptr 0xD0000000), (2, int 7)], k := [(3, ⟨0x77, Tag.key⟩)] } with
  acuAttr := [(acuKey 0 1 0, 0x3C0 ||| 40), (acuKey 0 2 0, 0x3C0 ||| 40)] }
/-- A scheduled pair with a pointer to a role alias. -/
def mAl : State := ml { sched := true, b := [(1, ptr 0xD0F00000), (2, int 7)], k := [(3, ⟨0x77, Tag.key⟩)] }
/-- Pair 4 wrote the first word of shared memory of course 0 in this stroke. -/
def mSh : State := { (tl { b := [(1, ptr 0x20000), (2, int 7)] }) with shLog := [{ key := sharedBase 0, stroke := 0, pair := 4, old := int 1 }] }
def m5 : State := { ml { b := [(1, ptr 0xB0100000), (2, int 7)] } with acuAttr := [(acuKey 0 1 0, 0x3C0 ||| 40)] }
def mk : State := z.setProc (.ks 0) { running := true, super := true, b := [(1, int 9)] }
def msch : State := (z.setProc (.tile 0 1) { running := true, sched := true })
def br (x : Proc) : State := tl { x with pc := 0x100, b := [(1, int 3), (2, int 0xFFFFFFFF), (3, int 3), (4, ptr 0x200), (5, ptr 0x300)] }
def fl (w : Word) : State := ((tl { pc := 0x100, b := [(1, ptr 0x200), (31, ptr 0x12000)], tpc := 0x400, tppriv := false, super := true, tskip := true }).putWord
  (scratchBase 0 0 + 0x2000) ⟨w, Tag.code⟩)
def lp (d : Nat) (c : Word) : State := tl { pc := 0x100, b := [(1, int c)], ldepth := d, le := [(0, 0x1000), (1, 0x1000), (2, 0x1000), (3, 0x1000)], lc := [(0, 2), (1, 2), (2, 2), (3, 2)] }
def te : State := tl { pc := 0x100, b := [(31, ptr 0x12000)], tvec := 0x800, cy := true }
def we (m l : Word) : State := tl { b := [(1, int m), (2, ⟨5, Tag.time⟩), (3, ⟨0, Tag.time⟩)], lines := l }
def ww (w : Nat × Nat) : State := { tl { lines := 6, wait := some w } with stroke := 9 }
def wf : State := tl { outStores := 2 }
def sv : State := { tl { b := [(1, int 1900), (2, int 5)] } with sevs := [(0, 0, 5, 3), (0, 1, 1, 2)] }
def spr : State := { tl { b := [(1, int 3), (2, ptr 0x12000)], super := true, cy := true, sclHi := 7, pc := 0x40 } with stroke := 2 ^ 32 + 5 }
def rs1 : Resp := { proc := p0.key, dest := 3, size := 4, err := false, ecc := false, pc := 0x3C, addr := 0x80000000, data := int 9, due := none }
def rs2 : Resp := { proc := p0.key, dest := 4, size := 4, err := true, ecc := true, pc := 0x38, addr := 0x80000004, data := int 0, due := none }
def rsp : State := { tl { pc := 0x40, b := [(31, ptr 0x12000)] } with mort := { z.mort with resps := [rs1, rs2] } }
def key1 : State := { z with procs := (tl { k := [(1, ⟨5, Tag.key⟩)] }).procs, pending := [.nop p0] }
def s1 : State := {we 4 2 with stroke := 4}
def s2 : State := { sv with sevs := [(0,1,1,2)] }

/-- States and operands at which the hypotheses of `Obligations.WaitEventResults` (part 2) hold together, clause by clause. -/
theorem witness_WaitEventResults_2 :
    (sv.canRun p0 = true) ∧
    (((sv.proc p0).r 1).tag = Tag.int) ∧
    (p0.isKs = false) ∧
    (1856 ≤ BitVec.toNat ((sv.proc p0).r 1).data) ∧
    (BitVec.toNat ((sv.proc p0).r 1).data < 2048) ∧
    (((sv.proc p0).r 2).tag = Tag.int) ∧
    (BitVec.toNat ((sv.proc p0).r 2).data < 1856 ∨ 2048 ≤ BitVec.toNat ((sv.proc p0).r 2).data) ∧
    (∀ (e : Nat × Nat × Nat × Nat), e ∈ s2.sevs → e.fst ≤ s2.stroke → e.snd.fst % 16 = 0 → e.snd.snd.fst.testBit 1 = false ∧
      e.snd.snd.fst.testBit (1 ^^^ 1) = false) := by
  refine ⟨?_, ?_, ?_, ?_, ?_, ?_, ?_, ?_⟩ <;>
    decide +kernel

/-- States and operands at which the hypotheses of `Obligations.StoreResults` (part 2) hold together, clause by clause. -/
theorem witness_StoreResults_2 :
    (isShared p0 65792 = false) ∧
    (isShared (ProcId.tile (0 : Fin 16) (1 : Fin 16)) 131072 = true) ∧
    ((msch.proc (ProcId.tile (0 : Fin 16) (1 : Fin 16))).sched = true) ∧
    ((ProcId.tile (0 : Fin 16) (1 : Fin 16)).sends = false) ∧
    (isShared p0 131072 = true) ∧
    ((m1.proc p0).sched = false ∨ p0.sends = true) ∧
    (∀ (e : ShWrite), e ∈ m1.shLog → e.key = sharedBase 0 → e.stroke = m1.stroke → e.pair ≤ p0.pairNo) ∧
    ((mSh.proc p0).sched = false ∨ p0.sends = true) ∧
    (p0 = ProcId.tile (0 : Fin 16) (0 : Fin 16)) ∧
    (∃ e, e ∈ mSh.shLog ∧ e.key = sharedBase 0 ∧ e.stroke = mSh.stroke) ∧
    (∀ (e : ShWrite), e ∈ mSh.shLog → e.key = sharedBase 0 → e.stroke = mSh.stroke → p0.pairNo < e.pair) ∧
    (m1.canRun p0 = true) ∧
    (localMap p0 (m1.proc p0) (BitVec.toNat (((m1.proc p0).r 1).data + BitVec.signExtend 32 (0 : BitVec 16))) = Loc.data (scratchBase 0 0
      + 256)) ∧
    (m1.xlockHit p0 (Loc.data (scratchBase 0 0 + 256)) = false) ∧
    (BitVec.toNat (((m1.proc p0).r 1).data + BitVec.signExtend 32 (0 : BitVec 16)) % 4 = 0) ∧
    (((m1.proc p0).r 1).tag = Tag.ptr) ∧
    ((m1.proc p0).sched = false) ∧
    (((m1.proc p0).r 2).tag ∈ [Tag.int, Tag.ptr, Tag.limb, Tag.handle, Tag.time]) ∧
    (∀ (e : ShWrite), e ∈ m1.shLog → e.key = scratchBase 0 0 + 256 → e.stroke = m1.stroke → e.pair ≤ p0.pairNo) := by
  refine ⟨?_, ?_, ?_, ?_, ?_, ?_, ?_, ?_, ?_, ?_, ?_, ?_, ?_, ?_, ?_, ?_, ?_, ?_, ?_⟩ <;>
    decide +kernel

/-- States and operands at which the hypotheses of `Obligations.LoadResults` (part 1) hold together, clause by clause. -/
theorem witness_LoadResults_1 :
    (m1.canRun p0 = true) ∧
    (∀ (e : ShWrite), e ∈ m1.shLog → e.stroke ≠ m1.stroke ∨ e.pair = p0.pairNo) ∧
    (((m1.proc p0).r 1).tag = Tag.ptr) ∧
    (locLocal (localMap p0 (m1.proc p0) (BitVec.toNat (((m1.proc p0).r 1).data + BitVec.signExtend 32 (0 : BitVec 16)))) = true) ∧
    (m1.locBad (localMap p0 (m1.proc p0) (BitVec.toNat (((m1.proc p0).r 1).data + BitVec.signExtend 32 (0 : BitVec 16)) / 4 * 4)) = false) ∧
    (BitVec.toNat (((m1.proc p0).r 1).data + BitVec.signExtend 32 (0 : BitVec 16)) % 4 = 0) ∧
    ((m1.seen p0 (localMap p0 (m1.proc p0) (BitVec.toNat (((m1.proc p0).r 1).data + BitVec.signExtend 32 (0 : BitVec 16)) / 4 * 4))).tag ∈
      [Tag.int, Tag.ptr, Tag.limb, Tag.handle, Tag.time]) ∧
    ((m1.proc p0).takes (3) (m1.seen p0 (localMap p0 (m1.proc p0) (BitVec.toNat (((m1.proc p0).r 1).data + BitVec.signExtend 32 (0 :
      BitVec 16)) / 4 * 4)))) ∧
    (3 ≠ 31) ∧
    ((m1.seen p0 (localMap p0 (m1.proc p0) (BitVec.toNat (((m1.proc p0).r 1).data + BitVec.signExtend 32 (0 : BitVec 16)) / 4 * 4))).tag =
      Tag.int) ∧
    (BitVec.toNat (((m1.proc p0).r 1).data + BitVec.signExtend 32 (0 : BitVec 16)) % 2 = 0) ∧
    (m5.canRun p0 = true) ∧
    (((m5.proc p0).r 1).tag = Tag.ptr) ∧
    (localMap p0 (m5.proc p0) (BitVec.toNat (((m5.proc p0).r 1).data + BitVec.signExtend 32 (0 : BitVec 16))) = Loc.phys 806354944) ∧
    (inPlane 806354944 = false) ∧
    (BitVec.toNat (((m5.proc p0).r 1).data + BitVec.signExtend 32 (0 : BitVec 16)) % 4 = 0) ∧
    (BitVec.toNat (((m5.proc p0).r 1).data + BitVec.signExtend 32 (0 : BitVec 16)) % 2 = 0) := by
  refine ⟨?_, ?_, ?_, ?_, ?_, ?_, ?_, ?_, ?_, ?_, ?_, ?_, ?_, ?_, ?_, ?_, ?_⟩ <;>
    first | decide +kernel | (unfold Proc.takes; decide +kernel)

/-- States and operands at which the hypotheses of `Obligations.KeyMoveResults` hold together, clause by clause. -/
theorem witness_KeyMoveResults :
    (m3.canRun p0 = true) ∧
    (((m3.proc p0).r 1).tag = Tag.ptr) ∧
    (localMap p0 (m3.proc p0) (BitVec.toNat (((m3.proc p0).r 1).data + BitVec.signExtend 32 (0 : BitVec 16))) = Loc.plane (scratchBase 0 0
      + 57344)) ∧
    (BitVec.toNat (((m3.proc p0).r 1).data + BitVec.signExtend 32 (0 : BitVec 16)) % 4 = 0) ∧
    (2 < 16) ∧
    ((m3.word (scratchBase 0 0 + 57344)).tag = Tag.key) ∧
    (m3.isBad (scratchBase 0 0 + 57344) = false) ∧
    (3 < 16) ∧
    (((m3.proc p0).kr 3).tag = Tag.key) ∧
    (m4.canRun p0 = true) ∧
    (((m4.proc p0).r 1).tag = Tag.ptr) ∧
    (localMap p0 (m4.proc p0) (BitVec.toNat (((m4.proc p0).r 1).data + BitVec.signExtend 32 (0 : BitVec 16))) = Loc.phys 1342177280) ∧
    (inCryptoPort 1342177280 = true ∨ (m4.proc p0).sched = true ∧ inAlias 1342177280 = true) ∧
    (BitVec.toNat (((m4.proc p0).r 1).data + BitVec.signExtend 32 (0 : BitVec 16)) % 4 = 0) ∧
    (kputMap p0 (BitVec.ofNat 32 (BitVec.toNat (((m4.proc p0).r 1).data + BitVec.signExtend 32 (0 : BitVec 16)))) = true) ∧
    (((m4.proc p0).kr 3).tag = Tag.key) ∧
    (mAl.canRun p0 = true) ∧
    (((mAl.proc p0).r 1).tag = Tag.ptr) ∧
    (localMap p0 (mAl.proc p0) (BitVec.toNat (((mAl.proc p0).r 1).data + BitVec.signExtend 32 (0 : BitVec 16))) = Loc.phys 1357905920) ∧
    (inCryptoPort 1357905920 = true ∨ (mAl.proc p0).sched = true ∧ inAlias 1357905920 = true) ∧
    (BitVec.toNat (((mAl.proc p0).r 1).data + BitVec.signExtend 32 (0 : BitVec 16)) % 4 = 0) ∧
    (kputMap p0 (BitVec.ofNat 32 (BitVec.toNat (((mAl.proc p0).r 1).data + BitVec.signExtend 32 (0 : BitVec 16)))) = true) ∧
    (((mAl.proc p0).kr 3).tag = Tag.key) ∧
    (4 < 16) ∧
    (3 ≠ 31) ∧
    (mk.canRun (ProcId.ks (0 : Fin 2)) = true) ∧
    ((ProcId.ks (0 : Fin 2)).isKs = true) ∧
    (((mk.proc (ProcId.ks (0 : Fin 2))).r 1).tag = Tag.int) := by
  refine ⟨?_, ?_, ?_, ?_, ?_, ?_, ?_, ?_, ?_, ?_, ?_, ?_, ?_, ?_, ?_, ?_, ?_, ?_, ?_, ?_, ?_, ?_, ?_, ?_, ?_, ?_, ?_, ?_⟩ <;>
    decide +kernel

/-- States and operands at which the hypotheses of `Obligations.StoreResults` (part 1) hold together, clause by clause. -/
theorem witness_StoreResults_1 :
    (m1.canRun p0 = true) ∧
    (((m1.proc p0).r 1).tag = Tag.ptr) ∧
    (localMap p0 (m1.proc p0) (BitVec.toNat (((m1.proc p0).r 1).data + BitVec.signExtend 32 (0 : BitVec 16))) = Loc.data (scratchBase 0 0
      + 256)) ∧
    (m1.xlockHit p0 (Loc.data (scratchBase 0 0 + 256)) = false) ∧
    (BitVec.toNat (((m1.proc p0).r 1).data + BitVec.signExtend 32 (0 : BitVec 16)) % 4 = 0) ∧
    (((m1.proc p0).r 2).tag ∈ [Tag.int, Tag.ptr, Tag.limb, Tag.handle, Tag.time]) ∧
    (localMap p0 (m1.proc p0) (BitVec.toNat (((m1.proc p0).r 1).data + BitVec.signExtend 32 (0 : BitVec 16)) / 4 * 4) = Loc.data
      (scratchBase 0 0 + 256)) ∧
    (m1.isBad (scratchBase 0 0 + 256) = false) ∧
    (((m1.proc p0).r 2).tag = Tag.int) ∧
    ((m1.seen p0 (Loc.data (scratchBase 0 0 + 256))).tag = Tag.int ∨ (m1.seen p0 (Loc.data (scratchBase 0 0 + 256))).tag = Tag.none) ∧
    (BitVec.toNat (((m1.proc p0).r 1).data + BitVec.signExtend 32 (0 : BitVec 16)) % 2 = 0) ∧
    (m5.canRun p0 = true) ∧
    (((m5.proc p0).r 1).tag = Tag.ptr) ∧
    (localMap p0 (m5.proc p0) (BitVec.toNat (((m5.proc p0).r 1).data + BitVec.signExtend 32 (0 : BitVec 16))) = Loc.phys 806354944) ∧
    (inPlane 806354944 = false) ∧
    (BitVec.toNat (((m5.proc p0).r 1).data + BitVec.signExtend 32 (0 : BitVec 16)) % 4 = 0) ∧
    (((m5.proc p0).r 2).tag ∈ [Tag.int, Tag.ptr, Tag.limb, Tag.handle, Tag.time]) := by
  refine ⟨?_, ?_, ?_, ?_, ?_, ?_, ?_, ?_, ?_, ?_, ?_, ?_, ?_, ?_, ?_, ?_, ?_⟩ <;>
    decide +kernel

/-- States and operands at which the hypotheses of `Obligations.ResponseResults` hold together, clause by clause. -/
theorem witness_ResponseResults :
    ((rsp.proc p0).sched = false) ∧
    ((rsp.proc p0).running = true) ∧
    ((rsp.proc p0).stopped = false) ∧
    (rsp.respFor p0 false = some rs1) ∧
    (rs1.ecc = false) ∧
    (rs1.size = 4) ∧
    (rs1.data.tag ∈ [Tag.int, Tag.ptr, Tag.limb, Tag.handle, Tag.time]) ∧
    ((rsp.proc p0).takes rs1.dest rs1.data) ∧
    (rsp.respFor p0 true = some rs2) ∧
    (rs2.dest ≠ 32) := by
  refine ⟨?_, ?_, ?_, ?_, ?_, ?_, ?_, ?_, ?_, ?_⟩ <;>
    first | decide +kernel | (unfold Proc.takes; decide +kernel)

/-- States and operands at which the hypotheses of `Obligations.LoopResults` hold together, clause by clause. -/
theorem witness_LoopResults :
    ((lp 0 (0 : Word)).canTransfer p0 = true) ∧
    ((0 : Int) < BitVec.toInt (5 : BitVec 16)) ∧
    (((lp 0 (0 : Word)).proc p0).ldepth < 4) ∧
    ((((lp 0 (0 : Word)).proc p0).r 1).tag = Tag.int) ∧
    ((((lp 0 (0 : Word)).proc p0).r 1).data = (0 : Word)) ∧
    (((lp 0 (0 : Word)).proc p0).ldepth = 0 ∨ BitVec.toNat (((lp 0 (0 : Word)).proc p0).pc + BitVec.signExtend 32 (5 : BitVec 16) * (4
      : Word)) ≤ BitVec.toNat (Sparse.get (0 : Word) ((lp 0 (0 : Word)).proc p0).le (((lp 0 (0 : Word)).proc p0).ldepth - 1))) ∧
    ((lp 0 (5 : Word)).canTransfer p0 = true) ∧
    (((lp 0 (5 : Word)).proc p0).ldepth < 4) ∧
    (((lp 0 (5 : Word)).proc p0).ldepth = 0 ∨ BitVec.toNat (((lp 0 (5 : Word)).proc p0).pc + BitVec.signExtend 32 (5 : BitVec 16) * (4
      : Word)) ≤ BitVec.toNat (Sparse.get (0 : Word) ((lp 0 (5 : Word)).proc p0).le (((lp 0 (5 : Word)).proc p0).ldepth - 1))) ∧
    ((((lp 0 (5 : Word)).proc p0).r 1).tag = Tag.int) ∧
    ((((lp 0 (5 : Word)).proc p0).r 1).data ≠ (0 : Word)) ∧
    (1023 ≠ 0) := by
  refine ⟨?_, ?_, ?_, ?_, ?_, ?_, ?_, ?_, ?_, ?_, ?_, ?_⟩ <;>
    decide +kernel

/-- States and operands at which the hypotheses of `Obligations.TransferResults` (part 1) hold together, clause by clause. -/
theorem witness_TransferResults_1 :
    ((br { : Proc }).canTransfer p0 = true) ∧
    ((((br { : Proc }).proc p0).r 1).tag = (((br { : Proc }).proc p0).r 3).tag) ∧
    ((((br { : Proc }).proc p0).r 1).tag ∈ [Tag.int, Tag.ptr, Tag.limb, Tag.handle, Tag.time]) ∧
    (decide ((((br { : Proc }).proc p0).r 1).data = (((br { : Proc }).proc p0).r 3).data) = true) ∧
    (BitVec.toNat (((br { : Proc }).proc p0).pc + BitVec.signExtend 32 (4 : BitVec 16) * (4 : Word)) % 4 = 0 ∧ (br { : Proc }).codeOk
      p0 (BitVec.toNat (((br { : Proc }).proc p0).pc + BitVec.signExtend 32 (4 : BitVec 16) * (4 : Word))) = true) ∧
    (decide ((((br { : Proc }).proc p0).r 1).data ≠ (((br { : Proc }).proc p0).r 3).data) = false) ∧
    ((((br { : Proc }).proc p0).r 1).tag = Tag.int) ∧
    ((((br { : Proc }).proc p0).r 3).tag = Tag.int) ∧
    (decide (BitVec.toInt (((br { : Proc }).proc p0).r 1).data < BitVec.toInt (((br { : Proc }).proc p0).r 3).data) = false) ∧
    (decide (BitVec.toInt (((br { : Proc }).proc p0).r 3).data ≤ BitVec.toInt (((br { : Proc }).proc p0).r 1).data) = true) ∧
    ((((br { : Proc }).proc p0).r 1).tag ∈ [Tag.int, Tag.ptr, Tag.time]) ∧
    (decide (BitVec.toNat (((br { : Proc }).proc p0).r 1).data < BitVec.toNat (((br { : Proc }).proc p0).r 3).data) = false) ∧
    (decide (BitVec.toNat (((br { : Proc }).proc p0).r 3).data ≤ BitVec.toNat (((br { : Proc }).proc p0).r 1).data) = true) ∧
    (BitVec.toNat (((br { : Proc }).proc p0).pc + BitVec.signExtend 32 (16 : BitVec 26) * (4 : Word)) % 4 = 0 ∧ (br { : Proc }).codeOk
      p0 (BitVec.toNat (((br { : Proc }).proc p0).pc + BitVec.signExtend 32 (16 : BitVec 26) * (4 : Word))) = true) ∧
    ((((br { : Proc }).proc p0).r 1).tag = (((br { : Proc }).proc p0).r 2).tag) ∧
    (decide ((((br { : Proc }).proc p0).r 1).data = (((br { : Proc }).proc p0).r 2).data) = false) ∧
    (decide ((((br { : Proc }).proc p0).r 1).data ≠ (((br { : Proc }).proc p0).r 2).data) = true) ∧
    (decide (BitVec.toNat (((br { : Proc }).proc p0).r 1).data < BitVec.toNat (((br { : Proc }).proc p0).r 2).data) = true) ∧
    (decide (BitVec.toNat (((br { : Proc }).proc p0).r 2).data ≤ BitVec.toNat (((br { : Proc }).proc p0).r 1).data) = false) ∧
    ((((br { : Proc }).proc p0).r 2).tag = Tag.int) ∧
    (decide (BitVec.toInt (((br { : Proc }).proc p0).r 2).data < BitVec.toInt (((br { : Proc }).proc p0).r 1).data) = true) ∧
    (decide (BitVec.toInt (((br { : Proc }).proc p0).r 1).data ≤ BitVec.toInt (((br { : Proc }).proc p0).r 2).data) = false) ∧
    ((((br { : Proc }).proc p0).r 4).tag = Tag.ptr) ∧
    (BitVec.toNat (((br { : Proc }).proc p0).r 4).data % 4 = 0 ∧ (br { : Proc }).codeOk p0 (BitVec.toNat (((br { : Proc }).proc p0).r
      4).data) = true) := by
  refine ⟨?_, ?_, ?_, ?_, ?_, ?_, ?_, ?_, ?_, ?_, ?_, ?_, ?_, ?_, ?_, ?_, ?_, ?_, ?_, ?_, ?_, ?_, ?_, ?_⟩ <;>
    decide +kernel

/-- States and operands at which the hypotheses of `Obligations.TransferResults` (part 2) hold together, clause by clause. -/
theorem witness_TransferResults_2 :
    ((fl (128 : Word)).canTransfer p0 = true) ∧
    ((((fl (128 : Word)).proc p0).r 31).tag = Tag.ptr) ∧
    (localMap p0 ((fl (128 : Word)).proc p0) (BitVec.toNat ((((fl (128 : Word)).proc p0).r 31).data - (4 : Word))) = Loc.data (scratchBase
      0 0 + 8188)) ∧
    (stackLoc p0 ((fl (128 : Word)).proc p0) (BitVec.toNat ((((fl (128 : Word)).proc p0).r 31).data - (4 : Word))) = true) ∧
    (BitVec.toNat ((((fl (128 : Word)).proc p0).r 31).data - (4 : Word)) % 4 = 0) ∧
    (BitVec.toNat ((fl (128 : Word)).proc p0).slim ≤ BitVec.toNat ((((fl (128 : Word)).proc p0).r 31).data - (4 : Word))) ∧
    (localMap p0 ((fl (128 : Word)).proc p0) (BitVec.toNat (((fl (128 : Word)).proc p0).r 31).data) = Loc.data (scratchBase 0 0 + 8192)) ∧
    (stackLoc p0 ((fl (128 : Word)).proc p0) (BitVec.toNat (((fl (128 : Word)).proc p0).r 31).data) = true) ∧
    (BitVec.toNat (((fl (128 : Word)).proc p0).r 31).data % 4 = 0) ∧
    (((fl (128 : Word)).word (scratchBase 0 0 + 8192)).tag = Tag.code) ∧
    ((fl (128 : Word)).isBad (scratchBase 0 0 + 8192) = false) ∧
    (BitVec.toNat ((fl (128 : Word)).proc p0).slim ≤ BitVec.toNat ((((fl (128 : Word)).proc p0).r 31).data + (4 : Word))) := by
  refine ⟨?_, ?_, ?_, ?_, ?_, ?_, ?_, ?_, ?_, ?_, ?_, ?_⟩ <;>
    decide +kernel

/-- States and operands at which the hypotheses of `Obligations.WaitEventResults` (part 1) hold together, clause by clause. -/
theorem witness_WaitEventResults_1 :
    ((we (6 : Word) (2 : Word)).canTransfer p0 = true) ∧
    ((((we (6 : Word) (2 : Word)).proc p0).r 1).tag = Tag.int) ∧
    ((((we (6 : Word) (2 : Word)).proc p0).r 1).data = (0 : Word) ∨ ((we (6 : Word) (2 : Word)).proc p0).lines &&& (((we (6 : Word) (2
      : Word)).proc p0).r 1).data ≠ (0 : Word)) ∧
    (((we (6 : Word) (2 : Word)).proc p0).sched = false) ∧
    ((((we (6 : Word) (2 : Word)).proc p0).r 1).data ≠ (0 : Word)) ∧
    ((we (6 : Word) (2 : Word)).canRun p0 = true) ∧
    (((we (6 : Word) (2 : Word)).proc p0).outStores = 0) ∧
    ((we (4 : Word) (2 : Word)).canTransfer p0 = true) ∧
    ((((we (4 : Word) (2 : Word)).proc p0).r 1).tag = Tag.int) ∧
    (((we (4 : Word) (2 : Word)).proc p0).sched = false) ∧
    ((((we (4 : Word) (2 : Word)).proc p0).r 1).data ≠ (0 : Word)) ∧
    (((we (4 : Word) (2 : Word)).proc p0).lines &&& (((we (4 : Word) (2 : Word)).proc p0).r 1).data = (0 : Word)) ∧
    (2 % 2 = 0) ∧
    ((((we (4 : Word) (2 : Word)).proc p0).r 2).tag = Tag.time) ∧
    ((((we (4 : Word) (2 : Word)).proc p0).r (2 + 1)).tag = Tag.time) ∧
    (((we (4 : Word) (2 : Word)).proc p0).sched = true → (we (4 : Word) (2 : Word)).counter p0 ≤ BitVec.toNat (((we (4 : Word) (2 :
      Word)).proc p0).r 2).data + 2 ^ 32 * BitVec.toNat (((we (4 : Word) (2 : Word)).proc p0).r (2 + 1)).data) ∧
    ((we (4 : Word) (2 : Word)).counter p0 + 1 < BitVec.toNat (((we (4 : Word) (2 : Word)).proc p0).r 2).data + 2 ^ 32 * BitVec.toNat
      (((we (4 : Word) (2 : Word)).proc p0).r (2 + 1)).data) ∧
    (s1.canTransfer p0 = true) ∧
    (((s1.proc p0).r 2).tag = Tag.time) ∧
    (((s1.proc p0).r (2 + 1)).tag = Tag.time) ∧
    ((s1.proc p0).sched = true → s1.counter p0 ≤ BitVec.toNat ((s1.proc p0).r 2).data + 2 ^ 32 * BitVec.toNat ((s1.proc p0).r (2 +
      1)).data) ∧
    (BitVec.toNat ((s1.proc p0).r 2).data + 2 ^ 32 * BitVec.toNat ((s1.proc p0).r (2 + 1)).data ≤ s1.counter p0 + 1) ∧
    (((ww (1, 3)).proc p0).wait = some (1, 3)) ∧
    (((ww (1, 3)).proc p0).lines &&& BitVec.ofNat 32 3 ≠ (0 : Word)) ∧
    (((ww (2, 9)).proc p0).wait = some (2, 9)) ∧
    (9 ≤ (ww (2, 9)).counter p0) ∧
    (((ww (3, 0)).proc p0).wait = some (3, 0)) ∧
    (((ww (3, 0)).proc p0).outStores = 0) ∧
    (wf.canRun p0 = true) ∧
    ((wf.proc p0).sched = false) ∧
    ((wf.proc p0).outStores ≠ 0) := by
  refine ⟨?_, ?_, ?_, ?_, ?_, ?_, ?_, ?_, ?_, ?_, ?_, ?_, ?_, ?_, ?_, ?_, ?_, ?_, ?_, ?_, ?_, ?_, ?_, ?_, ?_, ?_, ?_, ?_, ?_, ?_,
    ?_⟩ <;>
    decide +kernel

/-- States and operands at which the hypotheses of `Obligations.LoopDepthTrap` hold together, clause by clause. -/
theorem witness_LoopDepthTrap :
    ((lp 4 (5 : Word)).canTransfer p0 = true) ∧
    (((lp 4 (5 : Word)).proc p0).stepOne = false) ∧
    ((0 : Int) < BitVec.toInt (768 : BitVec 16)) ∧
    (((lp 4 (5 : Word)).proc p0).ldepth = 4) ∧
    ((((lp 4 (5 : Word)).proc p0).r 1).tag = Tag.int) ∧
    (BitVec.toNat (((lp 4 (5 : Word)).proc p0).pc + BitVec.signExtend 32 (768 : BitVec 16) * (4 : Word)) ≤ BitVec.toNat (Sparse.get (0
      : Word) ((lp 4 (5 : Word)).proc p0).le 3) ∨ (((lp 4 (5 : Word)).proc p0).r 1).data = (0 : Word)) ∧
    (1 ≠ 0) ∧
    (BitVec.toNat (((lp 4 (5 : Word)).proc p0).pc + BitVec.signExtend 32 (768 : BitVec 16) * (4 : Word)) ≤ BitVec.toNat (Sparse.get (0
      : Word) ((lp 4 (5 : Word)).proc p0).le 3)) := by
  refine ⟨?_, ?_, ?_, ?_, ?_, ?_, ?_, ?_⟩ <;>
    decide +kernel

/-- States and operands at which the hypotheses of `Obligations.SpecialRegisterResults` hold together, clause by clause. -/
theorem witness_SpecialRegisterResults :
    (spr.canRun p0 = true) ∧
    (3 ≠ 31) ∧
    ((2, { data := flag (spr.proc p0).cy 0, tag := Tag.int : TWord }) ∈ [(0,
      { data := BitVec.ofNat 32 p0.tileId, tag := Tag.int : TWord }), (1,
      { data := modeWord p0 (spr.proc p0), tag := Tag.int : TWord }), (2, { data := flag (spr.proc p0).cy 0, tag := Tag.int : TWord }),
      (3, { data := (spr.proc p0).slim, tag := Tag.ptr : TWord }), (4,
      { data := BitVec.ofNat 32 (spr.proc p0).gwin.toNat, tag := Tag.int : TWord }), (8,
      { data := Sparse.get (0 : Word) (spr.proc p0).ls 0, tag := Tag.ptr : TWord }), (9,
      { data := Sparse.get (0 : Word) (spr.proc p0).ls 1, tag := Tag.ptr : TWord }), (10,
      { data := Sparse.get (0 : Word) (spr.proc p0).ls 2, tag := Tag.ptr : TWord }), (11,
      { data := Sparse.get (0 : Word) (spr.proc p0).ls 3, tag := Tag.ptr : TWord }), (12,
      { data := Sparse.get (0 : Word) (spr.proc p0).le 0, tag := Tag.ptr : TWord }), (13,
      { data := Sparse.get (0 : Word) (spr.proc p0).le 1, tag := Tag.ptr : TWord }), (14,
      { data := Sparse.get (0 : Word) (spr.proc p0).le 2, tag := Tag.ptr : TWord }), (15,
      { data := Sparse.get (0 : Word) (spr.proc p0).le 3, tag := Tag.ptr : TWord }), (16,
      { data := Sparse.get (0 : Word) (spr.proc p0).lc 0, tag := Tag.int : TWord }), (17,
      { data := Sparse.get (0 : Word) (spr.proc p0).lc 1, tag := Tag.int : TWord }), (18,
      { data := Sparse.get (0 : Word) (spr.proc p0).lc 2, tag := Tag.int : TWord }), (19,
      { data := Sparse.get (0 : Word) (spr.proc p0).lc 3, tag := Tag.int : TWord }), (20,
      { data := BitVec.ofNat 32 (spr.proc p0).ldepth, tag := Tag.int : TWord }), (64,
      { data := (spr.proc p0).tcause, tag := Tag.int : TWord }), (65, { data := (spr.proc p0).tpc, tag := Tag.ptr : TWord }), (66,
      { data := (spr.proc p0).taddr, tag := Tag.int : TWord }), (67,
      { data := flag (spr.proc p0).tactive 0 ||| flag (spr.proc p0).tppriv 1 ||| flag (spr.proc p0).tskip 2, tag := Tag.int : TWord }),
      (68, { data := (spr.proc p0).tvec, tag := Tag.ptr : TWord }), (69,
      { data := BitVec.ofNat 32 (spr.proc p0).ttime, tag := Tag.time : TWord }), (70,
      { data := BitVec.ofNat 32 ((spr.proc p0).ttime / 2 ^ 32), tag := Tag.time : TWord }), (71,
      { data := BitVec.ofNat 32 (spr.proc p0).tldepth, tag := Tag.int : TWord })]) ∧
    ((spr.proc p0).takes 3 { data := flag (spr.proc p0).cy 0, tag := Tag.int : TWord }) ∧
    (2 = 2) ∧
    (((spr.proc p0).r 1).tag = Tag.int) ∧
    ((spr.proc p0).super = true) ∧
    ((spr.proc p0).sched = false) ∧
    (4 = 4) ∧
    (3 = 3) ∧
    (((spr.proc p0).r 2).tag = Tag.ptr) ∧
    (67 = 67) ∧
    (68 = 68) := by
  refine ⟨?_, ?_, ?_, ?_, ?_, ?_, ?_, ?_, ?_, ?_, ?_, ?_, ?_⟩ <;>
    first | decide +kernel | (unfold Proc.takes; decide +kernel)

/-- States and operands at which the hypotheses of `Obligations.LoadResults` (part 2) hold together, clause by clause. -/
theorem witness_LoadResults_2 :
    ((m1.proc p0).sched = false) ∧
    ((m5.proc p0).sched = false) ∧
    (m5.acuCheck (Master.proc p0) (match MsgKind.read with | MsgKind.read => 0 | MsgKind.write => 1 | MsgKind.keyWrite => 2) 806354944 4 =
      none) ∧
    (∀ (c t : Fin 16), p0 = ProcId.tile c t → (Sparse.get { : Cox } m5.cox ↑c).role ≠ 2) ∧
    (m5.route? (masterNode (Master.proc p0)) (nodeOf 806354944) = some ((m5.route? (masterNode (Master.proc p0)) (nodeOf 806354944)).getD
      [])) ∧
    ((msch.proc (ProcId.tile (0 : Fin 16) (1 : Fin 16))).sched = true) ∧
    ((ProcId.tile (0 : Fin 16) (1 : Fin 16)).sends = false) := by
  refine ⟨?_, ?_, ?_, ?_, ?_, ?_, ?_⟩ <;>
    decide +kernel

/-- States and operands at which the hypotheses of `Obligations.TrapEntry` hold together, clause by clause. -/
theorem witness_TrapEntry :
    (te.canRun p0 = true) ∧
    (encodingLegal (4227858432 : Word) = false) ∧
    ((te.proc p0).sched = false) ∧
    ((te.proc p0).tactive = false) ∧
    (((te.proc p0).r 31).tag = Tag.ptr) ∧
    (localMap p0 (te.proc p0) (BitVec.toNat (((te.proc p0).r 31).data - (4 : Word))) = Loc.data (scratchBase 0 0 + 8188)) ∧
    (stackLoc p0 (te.proc p0) (BitVec.toNat (((te.proc p0).r 31).data - (4 : Word))) = true) ∧
    (BitVec.toNat (((te.proc p0).r 31).data - (4 : Word)) % 4 = 0) ∧
    (BitVec.toNat (te.proc p0).slim ≤ BitVec.toNat (((te.proc p0).r 31).data - (4 : Word))) := by
  refine ⟨?_, ?_, ?_, ?_, ?_, ?_, ?_, ?_, ?_⟩ <;>
    decide +kernel


end Sys2Proof.Tests.Tiles

namespace Sys2Proof.Tests.Engines

set_option Elab.async false

def rq : Requester := ⟨false, .proc (.tile 0 0), 0, 0⟩
def rqs : Requester := ⟨true, .proc (.tile 0 0), 0, 0⟩
def rk : Requester := ⟨false, .proc (.ks 0), 0, 0⟩
/-- Clusters loaded and seeded, every pair of cluster 0 idle. -/
def pk0 : State := { z with
  cluster := [(0, { ucValid := true, seeded := true })],
  pke := (List.range 12).map fun q => (q, { st := .idle }) }
def pkc (sc : Bool) (due : Nat) : UCmd := { w := [0x40101, 0, 0, 0x100, 0], req := if sc then rqs else rq, due := due, rnd := [], inp := [] }
/-- Pair 0 with the given record. -/
def pkS (x : Pke) : State := pk0.setPke 0 x
def pkRun : State := pkS { st := .free, cmd := some (pkc false 0) }
def pkSch : State := pkS { st := .sched, cmd := some (pkc true 0) }
def pkWipe (f : Bool) : State := pkS { st := .wipe, due := 0, toFence := f, aborted := some (pkc false 0) }
def pkTest (b : Bool) : State := pkS { st := .test, due := 0, before := b }
def ucIdle : State := { z with cluster := [(0, { loading := true, seedSet := (List.range 12).map fun i => (i, 5#32) })] }
def hS (x : HcPair) : State := z.setHc false 0 x
def cS (x : HcPair) : State := z.setHc true 0 x
def hw (op len : Nat) : List Word := [w32 (0x18000 + op), 0, 0, w32 len, 1, 0]
def hcc (w : List Word) (inp : List TWord) : UCmd := { w := w, req := rk, due := 0, inp := inp }
def abc : List TWord := [int 0x00636261]
def hRun (op : Nat) (inp : List TWord) : State := hS { st := .free, cmd := some (hcc (hw op 3) inp) }
def key16 : List Byte := zeros 16
def cw (op al nl : Nat) : List Word := [w32 op, 0, 0, w32 al, w32 nl, w32 ((if op = 0x10 then 0 else 1) + (if op < 0x13 then 2 ^ 16 else 0))]
/-- Input block: a zero vector, four bytes of each operand, and the tag given. -/
def cin (n : Nat) (tag : List Byte) : List TWord := ((toWords (zeros n ++ tag)).map TWord.int)
def cRun (op al nl n : Nat) (tag : List Byte) : State := cS { st := .free, key := some key16, cmd := some { w := cw op al nl, req := rk, due := 0, inp := cin n tag } }
def cTag (t : List Byte) : List Byte := gcmTag key16 (zeros 16) (zeros 4) t
def cKs : State := (cS { st := .free, cmd := some { w := [0x101, 0, 0, 0, 0, 0], req := rk, due := 0, inp := [] } }).putWords (unitBase true 0)
  (List.replicate 4 ⟨5, Tag.key⟩)
def hcW (ci f : Bool) : State := z.setHc ci 0 { st := .wipe, due := 0, toFence := f, aborted := some (hcc (hw 1 3) []) }
def hcT (ci f : Bool) : State := z.setHc ci 0 { st := .test, due := 0, before := f }
def hcR (ci : Bool) : State := z.setHc ci 0 { st := .free, cmd := some (hcc (hw 1 3) []), result := true }
def hcN (ci : Bool) : State := { z with cox := [(0, { notices := [(ci, 0)] })] }
/-- Pair 0 covered by pair 1. -/
def hcCov (ci : Bool) : State := (z.setReg (hcPage ci) 0 0x68 1).setReg (hcPage ci) 0 0x48 1
def pkO : State := pk0.setReg .pke 0 0x48 1
def pkRunL : State := { pkS { st := .free, due := 100, cmd := some (pkc false 100) } with stroke := 5 }
def pkT (s : State) : State := { s with stroke := 5 }
def pkSc : State := (pkS { st := .sched, due := 100, cmd := some (pkc true 100) }).setReg .pke 0 0x48 1
def pkDone : State := { pkS { st := .sched, due := 0, cmd := some (pkc true 0) } with stroke := 9 }
def hcL (ci : Bool) : State := { z.setHc ci 0 { st := .free, due := 100, cmd := some (hcc (hw 1 3) []), result := true, key := some [1] } with stroke := 5 }
def hcLO (ci : Bool) : State := (hcL ci).setReg (hcPage ci) 0 0x48 3
/-- The command of `pkc` that has waited too long. -/
def pkLate : UCmd := { pkc false 0 with late := true }

/-- States and operands at which the hypotheses of `Obligations.EngineCommandsStart` hold together, clause by clause. -/
theorem witness_EngineCommandsStart :
    (BitVec.toNat (1 : Word) % 256 = 1) ∧
    ((pk0.pkeReason rq (pk0.pkeRoute 0) (BitVec.toNat (1 : Word)) fun n => BitVec.toNat (Sparse.get (0 : Word) (pk0.pkeU (pk0.pkeRoute
      0)).stage n)) = none) ∧
    ((pk0.clu (pk0.pkeRoute 0 / 12)).bad0 = []) ∧
    ((pk0.clu (pk0.pkeRoute 0 / 12)).bad1 = []) ∧
    (rq.sched = true ∨ (pk0.route? (nodeOf 285212672) (nodeOf (1342177280 + 2 * pk0.pkeRoute 0 * 2 ^ 16))).isSome = true) ∧
    ((pkRun.pkeReason rq (pkRun.pkeRoute 0) (BitVec.toNat (1 : Word)) fun n => BitVec.toNat (Sparse.get (0 : Word) (pkRun.pkeU
      (pkRun.pkeRoute 0)).stage n)) = some 1) ∧
    ((pk0.pkeReason rqs (pk0.pkeRoute 0) (BitVec.toNat (1 : Word)) fun n => BitVec.toNat (Sparse.get (0 : Word) (pk0.pkeU (pk0.pkeRoute
      0)).stage n)) = some 3) ∧
    ((pkO.pkeReason rqs (pkO.pkeRoute 0) (BitVec.toNat (1 : Word)) fun n => BitVec.toNat (Sparse.get (0 : Word) (pkO.pkeU (pkO.pkeRoute
      0)).stage n)) = none) ∧
    ((pkO.clu (pkO.pkeRoute 0 / 12)).bad0 = []) ∧
    ((pkO.clu (pkO.pkeRoute 0 / 12)).bad1 = []) ∧
    (rqs.sched = true ∨ (pkO.route? (nodeOf 285212672) (nodeOf (1342177280 + 2 * pkO.pkeRoute 0 * 2 ^ 16))).isSome = true) := by
  refine ⟨?_, ?_, ?_, ?_, ?_, ?_, ?_, ?_, ?_, ?_, ?_⟩ <;>
    decide +kernel

/-- States and operands at which the hypotheses of `Obligations.EnginePairRows` (part 1) hold together, clause by clause. -/
theorem witness_EnginePairRows_1 :
    ((int (5 : Word)).tag = Tag.int) ∧
    (pk0.pkeOwned (pk0.pkeRoute 0) = rq.sched) ∧
    ((int (5 : Word)).tag ≠ Tag.int ∨ pk0.pkeOwned (pk0.pkeRoute 0) ≠ rqs.sched) ∧
    ((ptr (5 : Word)).tag ≠ Tag.int ∨ pk0.pkeOwned (pk0.pkeRoute 0) ≠ rq.sched) ∧
    ((pkRun.pkeU 0).cmd = some (pkc false 0)) ∧
    ((pkRun.pkeU 0).st = UState.sched ∨ (pkRun.pkeU 0).st = UState.free) ∧
    ((pkc false 0).due ≤ pkRun.stroke) ∧
    ((pkRun.pkeU 0).fenceWait = false) ∧
    ((pkc false 0).req.sched = true → BitVec.toNat ((pkc false 0).w.getD 3 (0 : Word)) + 4 + ((pkInfo (BitVec.toNat ((pkc false 0).w.headD
      (0 : Word)) % 256)).getD { f := 0 : PkInfo }).out ≤ 524288) ∧
    (((pkInfo (BitVec.toNat ((pkc false 0).w.headD (0 : Word)) % 256)).getD { f := 0 : PkInfo }).kout = 0) ∧
    ((pkc false 0).req.sched = false) ∧
    ((pkDone.pkeU 0).cmd = some (pkc true 0)) ∧
    ((pkDone.pkeU 0).st = UState.sched ∨ (pkDone.pkeU 0).st = UState.free) ∧
    ((pkc true 0).due ≤ pkDone.stroke) ∧
    ((pkDone.pkeU 0).fenceWait = false) ∧
    ((pkc true 0).req.sched = true → BitVec.toNat ((pkc true 0).w.getD 3 (0 : Word)) + 4 + ((pkInfo (BitVec.toNat ((pkc true 0).w.headD (0
      : Word)) % 256)).getD { f := 0 : PkInfo }).out ≤ 524288) ∧
    (((pkInfo (BitVec.toNat ((pkc true 0).w.headD (0 : Word)) % 256)).getD { f := 0 : PkInfo }).kout = 0) ∧
    (pkRunL.grants ks 1 Block.pke (0 / 12) 80 = true) ∧
    (fld (0 : Word) 0 4 = 0 % 12) ∧
    ((pkRunL.pkeU 0).st = UState.free) ∧
    (pkRunL.stroke < (pkRunL.pkeU 0).due) ∧
    (((pkWipe true).pkeU 0).st = UState.wipe) ∧
    (((pkWipe true).pkeU 0).due ≤ (pkWipe true).stroke) ∧
    (((pkWipe true).clu (0 / 12)).ucValid = true) ∧
    (((pkWipe false).pkeU 0).st = UState.wipe) ∧
    (((pkWipe false).pkeU 0).due ≤ (pkWipe false).stroke) ∧
    (((pkWipe false).clu (0 / 12)).ucValid = true) ∧
    (pk0.grants ks 1 Block.pke (0 / 12) 80 = true) ∧
    ((pk0.pkeU 0).st ≠ UState.free ∨ (pk0.pkeU 0).due ≤ pk0.stroke) ∧
    ((pkT pkRun).grants ks 1 Block.pke (0 / 12) 80 = true) ∧
    (((pkT pkRun).pkeU 0).st ≠ UState.free ∨ ((pkT pkRun).pkeU 0).due ≤ (pkT pkRun).stroke) ∧
    (pkRunL.grants ks 1 Block.pke 0 72 = true) ∧
    (bit (pkRunL.reg Block.pke 0 188) 4 = false) ∧
    (∀ (j : Nat), j ∈ clusterPairs 0 → (pkRunL.pkeU j).st.running = true → pkRunL.stroke < (pkRunL.pkeU j).due) ∧
    (pkSc.grants ks 1 Block.pke 0 72 = true) ∧
    (bit (pkSc.reg Block.pke 0 188) 4 = false) ∧
    (∀ (j : Nat), j ∈ clusterPairs 0 → (pkSc.pkeU j).st.running = true → pkSc.stroke < (pkSc.pkeU j).due) ∧
    (pk0.grants ks 1 Block.pke (0 / 12) 84 = true) ∧
    (fld (16 : Word) 0 4 = 0 % 12) ∧
    (bit (16 : Word) 4 = true) ∧
    ((pk0.pkeU 0).st = UState.fenced ∨ (pk0.pkeU 0).st = UState.idle ∧ pk0.pkeOwned 0 = false) ∧
    (List.find? (fun q => decide (((pkTest true).pkeU q).st = UState.test) && decide (((pkTest true).pkeU q).due ≤ (pkTest true).stroke))
      (clusterPairs 0) = some 0) ∧
    (((pkTest true).clu 0).ucValid = true) ∧
    (List.find? (fun q => decide (((pkTest false).pkeU q).st = UState.test) && decide (((pkTest false).pkeU q).due ≤ (pkTest
      false).stroke)) (clusterPairs 0) = some 0) ∧
    (((pkTest false).clu 0).ucValid = true) ∧
    (pkRun.grants ks 1 Block.pke 0 88 = true) := by
  refine ⟨?_, ?_, ?_, ?_, ?_, ?_, ?_, ?_, ?_, ?_, ?_, ?_, ?_, ?_, ?_, ?_, ?_, ?_, ?_, ?_, ?_, ?_, ?_, ?_, ?_, ?_, ?_, ?_, ?_, ?_,
    ?_, ?_, ?_, ?_, ?_, ?_, ?_, ?_, ?_, ?_, ?_, ?_, ?_, ?_, ?_, ?_⟩ <;>
    decide +kernel

/-- States and operands at which the hypotheses of `Obligations.HashCipherCommandsStart` hold together, clause by clause. -/
theorem witness_HashCipherCommandsStart :
    (BitVec.toNat (98305 : Word) % 256 = 1) ∧
    (((z.setHc false 0 { stage := [(3, (0 : Word)), (4, (1 : Word))] : HcPair }).hcReason false rk ((z.setHc false 0
      { stage := [(3, (0 : Word)), (4, (1 : Word))] : HcPair }).hcRoute false 0) fun n => if n = 0 then BitVec.toNat (98305 : Word) else
      BitVec.toNat (Sparse.get (0 : Word) ((z.setHc false 0 { stage := [(3, (0 : Word)), (4, (1 : Word))] : HcPair }).hc false ((z.setHc
      false 0 { stage := [(3, (0 : Word)), (4, (1 : Word))] : HcPair }).hcRoute false 0)).stage n)) = none) ∧
    (((z.setHc false 0 { stage := [(3, (0 : Word)), (4, (1 : Word))] : HcPair }).ctx (fld ((z.setHc false 0
      { stage := [(3, (0 : Word)), (4, (1 : Word))] : HcPair }).hc false ((z.setHc false 0
      { stage := [(3, (0 : Word)), (4, (1 : Word))] : HcPair }).hcRoute false 0)).handle 16 12)).withdrawn = false) ∧
    (((hRun 1 []).hcReason false rk ((hRun 1 []).hcRoute false 0) fun n => if n = 0 then BitVec.toNat (98305 : Word) else BitVec.toNat
      (Sparse.get (0 : Word) ((hRun 1 []).hc false ((hRun 1 []).hcRoute false 0)).stage n)) = some 1) := by
  refine ⟨?_, ?_, ?_, ?_⟩ <;>
    decide +kernel

/-- States and operands at which the hypotheses of `Obligations.EnginePairRows` (part 2) hold together, clause by clause. -/
theorem witness_EnginePairRows_2 :
    (ks.isKs = true) ∧
    (z.grants ks 1 Block.pke 0 92 = true) ∧
    (bit (1 : Word) 0 = true) ∧
    (bit (1 : Word) 1 = false) ∧
    (∀ (q : Nat), q ∈ clusterPairs 0 → z.pkeOwned q = false ∧ (z.pkeU q).st ∈ [UState.idle, UState.fenced, UState.noUc]) ∧
    (z.grants ks 1 Block.pke 0 100 = true) ∧
    (ucIdle.grants ks 1 Block.pke 0 92 = true) ∧
    (bit (1282 : Word) 0 = false) ∧
    (bit (1282 : Word) 1 = true) ∧
    ((ucIdle.clu 0).loading = true) ∧
    (ucIdle.ucFloor ≤ fld (1282 : Word) 8 8) ∧
    (ucIdle.grants ks 1 Block.pke 0 108 = true) ∧
    (∀ (i : Nat), i < 12 → ∃ e, e ∈ (ucIdle.clu 0).seedSet ∧ e.fst = i) ∧
    ((ucIdle.clu 0).dealAt ≠ some ucIdle.stroke) ∧
    (cx.isKs = false) ∧
    (z.grants cx 1 Block.pke 0 92 = true) := by
  refine ⟨?_, ?_, ?_, ?_, ?_, ?_, ?_, ?_, ?_, ?_, ?_, ?_, ?_, ?_, ?_, ?_⟩ <;>
    decide +kernel

/-- Operands at which the hypotheses of `Obligations.EnginePairRows` (R176) hold, clause by clause: at the bounds. -/
theorem witness_EnginePairRows_3 :
    curve256.point [] = none ∧ curve384.point [] = none ∧ beNat ((zeros 96).take curve256.len) = 0 ∧
    curve256.n ≤ beNat ((beBytes 32 curve256.n).take curve256.len) ∧ curve384.n ≤ beNat (beBytes 48 curve384.n) ∧ beNat (zeros 32) = 0 ∧
    order25519 ≤ leNat (((zeros 32 ++ leBytes 32 order25519).drop 32).take 32) ∧ edPoint (leNat (leBytes 32 p25519)) = none ∧
    edPoint (leNat ((leBytes 32 p25519).take 32)) = none ∧ beNat (zeros 256) % 2 = 0 ∧ beNat [1] < 2 ^ (8 * 256 - 1) ∧
    beNat [1] ≤ beNat [1] ∧ beNat ((zeros 640).take (256 / 2)) % 2 = 0 ∧ beNat (((zeros 640).drop (256 / 2)).take (256 / 2)) % 2 = 0 ∧
    dsa65.unpackHint ((zeros 3248 ++ [1]).drop 3248) = none ∧ dsa87.unpackHint ((zeros 4544 ++ [1]).drop 4544) = none := by
  refine ⟨?_, ?_, ?_, ?_, ?_, ?_, ?_, ?_, ?_, ?_, ?_, ?_, ?_, ?_, ?_, ?_⟩ <;> decide +kernel
/-- A pair whose PUB region holds no word: the operation reads a word of tag NONE (`Obligations.EnginePairRows`). -/
theorem witness_EnginePairRows_4 :
    (pkInfo (BitVec.toNat ((pkc false 0).w.headD (0 : Word)) % 256) = some ((pkInfo 1).getD { f := 0 : PkInfo })) ∧
    ((64, 2048) ∈ [(((pkInfo 1).getD { f := 0 : PkInfo }).pub, 2048), (((pkInfo 1).getD { f := 0 : PkInfo }).lenA (BitVec.toNat ((pkc
      false 0).w.headD (0 : Word)) / 2 ^ 24 % 4), 6144)]) ∧
    ((∃ w, w ∈ pkRun.words (operandBase 0 + 2048) ((64 + 3) / 4) ∧ w.tag ≠ Tag.int ∧ w.tag ≠ Tag.limb) ∨ (pkc false 0).late = true) ∧
    (pkInfo (BitVec.toNat (pkLate.w.headD (0 : Word)) % 256) = some ((pkInfo 1).getD { f := 0 : PkInfo })) ∧
    ((64, 2048) ∈ [(((pkInfo 1).getD { f := 0 : PkInfo }).pub, 2048), (((pkInfo 1).getD { f := 0 : PkInfo }).lenA (BitVec.toNat
      (pkLate.w.headD (0 : Word)) / 2 ^ 24 % 4), 6144)]) ∧
    ((∃ w, w ∈ pkRun.words (operandBase 0 + 2048) ((64 + 3) / 4) ∧ w.tag ≠ Tag.int ∧ w.tag ≠ Tag.limb) ∨ pkLate.late = true) := by
  refine ⟨?_, ?_, ?_, ?_, ?_, ?_⟩ <;>
    decide +kernel

/-- States and operands at which the hypotheses of `Obligations.HashCipherPairRows` hold together, clause by clause. -/
theorem witness_HashCipherPairRows :
    ((int (5 : Word)).tag = Tag.int) ∧
    (z.hcOwned false (z.hcRoute false 0) = rk.sched) ∧
    ((int (5 : Word)).tag ≠ Tag.int ∨ z.hcOwned false (z.hcRoute false 0) ≠ rqs.sched) ∧
    ((ptr (5 : Word)).tag ≠ Tag.int ∨ z.hcOwned true (z.hcRoute true 0) ≠ rk.sched) ∧
    (Tag.key = Tag.key) ∧
    (ks.isProc = true) ∧
    ((z.hc false (z.hcRoute false 0)).st = UState.idle) ∧
    ((int (5 : Word)).tag ≠ Tag.key ∨ ks.isProc = false ∨ (z.hc false (z.hcRoute false 0)).st ≠ UState.idle) ∧
    (Tag.key ≠ Tag.key ∨ Master.isProc .debug = false ∨ (z.hc false (z.hcRoute false 0)).st ≠ UState.idle) ∧
    (Tag.handle = Tag.handle) ∧
    ((hcL false).grants ks 1 (hcPage false) 0 80 = true) ∧
    (fld (0 : Word) 0 4 = 0) ∧
    (((hcL false).hc false 0).st = UState.free) ∧
    ((hcL false).stroke < ((hcL false).hc false 0).due) ∧
    (z.grants ks 1 (hcPage false) 0 80 = true) ∧
    ((z.hc false 0).st ≠ UState.free ∨ (z.hc false 0).due ≤ z.stroke) ∧
    ((hcR false).grants ks 1 (hcPage false) 0 80 = true) ∧
    (((hcR false).hc false 0).st ≠ UState.free ∨ ((hcR false).hc false 0).due ≤ (hcR false).stroke) ∧
    (((hcW false true).hc false 0).st = UState.wipe) ∧
    (((hcW false true).hc false 0).due ≤ (hcW false true).stroke) ∧
    (((hcW true false).hc true 0).st = UState.wipe) ∧
    (((hcW true false).hc true 0).due ≤ (hcW true false).stroke) ∧
    ((hcCov false).coverOf false 0 ≠ 0) ∧
    ((hcCov false).hcFence false ((hcCov false).coverOf false 0) = false) ∧
    (bit ((hcCov false).reg (hcPage false) 0 112) 4 = false) ∧
    ((hcCov false).hcOwned false 0 = true) ∧
    ((hcL false).grants ks 1 (hcPage false) 0 72 = true) ∧
    (∀ (j : Nat), j < 16 → ((hcL false).hc false j).st.running = true → (hcL false).stroke < ((hcL false).hc false j).due) ∧
    ((hcLO true).grants ks 1 (hcPage true) 0 72 = true) ∧
    (∀ (j : Nat), j < 16 → ((hcLO true).hc true j).st.running = true → (hcLO true).stroke < ((hcLO true).hc true j).due) ∧
    (z.grants ks 1 (hcPage false) 0 84 = true) ∧
    (fld (16 : Word) 0 4 = 0) ∧
    (bit (16 : Word) 4 = true) ∧
    ((z.hc false 0).st = UState.fenced ∨ (z.hc false 0).st = UState.idle ∧ z.hcOwned false 0 = false) ∧
    (List.find? (fun j => decide (((hcT false true).hc false j).st = UState.test) && decide (((hcT false true).hc false j).due ≤ (hcT
      false true).stroke)) (List.range 16) = some 0) ∧
    (List.find? (fun j => decide (((hcT true false).hc true j).st = UState.test) && decide (((hcT true false).hc true j).due ≤ (hcT true
      false).stroke)) (List.range 16) = some 0) ∧
    ((hcR false).grants ks 1 (hcPage false) 0 88 = true) ∧
    (ks.isKs = true) ∧
    (z.grants ks 1 (hcPage false) 0 (if false = true then 108 else 104) = true) ∧
    (z.grants ks 1 (hcPage true) 0 (if true = true then 108 else 104) = true) ∧
    (∃ e, e ∈ (hcN false).cox ∧ (false, 0) ∈ e.snd.notices) ∧
    (∃ e, e ∈ (hcN true).cox ∧ (true, 0) ∈ e.snd.notices) := by
  refine ⟨?_, ?_, ?_, ?_, ?_, ?_, ?_, ?_, ?_, ?_, ?_, ?_, ?_, ?_, ?_, ?_, ?_, ?_, ?_, ?_, ?_, ?_, ?_, ?_, ?_, ?_, ?_, ?_, ?_, ?_,
    ?_, ?_, ?_, ?_, ?_, ?_, ?_, ?_, ?_, ?_, ?_, ?_⟩ <;>
    decide +kernel

end Sys2Proof.Tests.Engines

namespace Sys2Proof.Tests.DualControl

set_option Elab.async false

def clkPg : PageRef := ⟨.clk, 0⟩
def dlPg : PageRef := ⟨.dual, 0⟩
def dOpen : State := z.setReg .dual 0 0x58 (w32 (selOf clkPg))
def ap (k i : Nat) : App := { kind := k, ident := i, atMs := 0 }
/-- Request 0 as given, under serial 7 with identity 9 in the approval registers. -/
def dReq (x : Req) : State := (({ z with dual := { z.dual with req := [(0, { x with serial := 7 })] } }).setReg .dual 0 0xF0 9).setReg .dual 0 0xF4 7
def dPol (x : Req) : State := (dReq x).setReg .dual 0 0x40 0xF
def two : List (Nat × App) := [(0, ap 2 1), (1, ap 2 2)]
def s1 : State := {dPol {st := 2, kind := 2, apps := [(1, ap 2 9)]} with wall := 60000*1200000}
def dOp (d : List Byte) : State := dPol { st := 2, kind := 2, digest := d, apps := two }
/-- Keystone firmware is at stage 1 with the Arch die powered; one configuration record, whose content is not authentic. -/
def dBoot : State := { z with archOn := true, kst := { z.kst with stage := 1 }, flc := { z.flc with cfg := [{ pages := [], digest := [], iv := [], tag := [] }] } }
def dReg : State := { dPol { st := 2, kind := 1, pages := [clkPg], apps := two } with dual := { (dPol { st := 2, kind := 1, pages := [clkPg], apps := two }).dual with boot := false } }

/-- States and operands at which the hypotheses of `Obligations.DualRequestRows` hold together, clause by clause. -/
theorem witness_DualRequestRows :
    (dOpen.grants ks 1 Block.dual 0 80 = true) ∧
    ((dOpen.req (fld (dOpen.reg Block.dual 0 76) 0 2)).st = 0) ∧
    (dOpen.selected (fld (16 : Word) 4 5) = List.map some [clkPg]) ∧
    (1 ≤ fld (16 : Word) 4 5) ∧
    (fld (16 : Word) 4 5 ≤ 16) ∧
    ([clkPg].Nodup) ∧
    (∀ (p : PageRef), p ∈ [clkPg] → hasRwp p = true) ∧
    (∀ (e : Nat × Req), e ∈ dOpen.dual.req → e.snd.st ≠ 0 → ∀ (p : PageRef), p ∈ e.snd.pages → ¬p ∈ [clkPg]) ∧
    (z.grants ks 1 Block.dual 0 80 = true) ∧
    ((z.req (fld (z.reg Block.dual 0 76) 0 2)).st = 0) ∧
    (fld (0 : Word) 4 5 = 0) ∧
    (((dReq { st := 1 : Req }).req 0).st = 1) ∧
    (((dReq { st := 1 : Req }).req 0).due ≤ (dReq { st := 1 : Req }).stroke) ∧
    ((dReq { st := 1 : Req }).grants ks 1 Block.dual 0 80 = true) ∧
    (z.grants ks 1 Block.dual 0 8 = true) ∧
    (bit (1 : Word) 1 = false) ∧
    (z.dual.boot = false ∨ z.kst.stage ≠ 1 ∨ z.archOn = false ∨ z.flc.tabs = [] ∧ z.flc.cfg = []) ∧
    (z.dual.boot = true) ∧
    (dBoot.grants ks 1 Block.dual 0 8 = true) ∧
    (dBoot.dual.boot = true) ∧
    (dBoot.kst.stage = 1) ∧
    (dBoot.archOn = true) ∧
    (dBoot.flc.tabs = []) ∧
    (dBoot.flc.cfg ≠ []) ∧
    (dBoot.cfgGood = []) := by
  refine ⟨?_, ?_, ?_, ?_, ?_, ?_, ?_, ?_, ?_, ?_, ?_, ?_, ?_, ?_, ?_, ?_, ?_, ?_, ?_, ?_, ?_, ?_, ?_, ?_, ?_⟩ <;>
    decide +kernel

/-- States and operands at which the hypotheses of `Obligations.DualApprovalRows` hold together, clause by clause. -/
theorem witness_DualApprovalRows :
    ((dPol { st := 2, kind := 2 : Req }).grants ks 1 Block.dual 0 248 = true) ∧
    (((dPol { st := 2, kind := 2 : Req }).req (fld (8 : Word) 0 2)).st = 2) ∧
    (BitVec.toNat ((dPol { st := 2, kind := 2 : Req }).reg Block.dual 0 244) = ((dPol { st := 2, kind := 2 : Req }).req (fld (8 : Word) 0
      2)).serial % 2 ^ 32) ∧
    ((dPol { st := 2, kind := 2 : Req }).kindOk ((dPol { st := 2, kind := 2 : Req }).req (fld (8 : Word) 0 2)).kind (fld (8 : Word) 2 2) =
      true) ∧
    ((∃ e, e ∈ ((dPol { st := 2, kind := 2 : Req }).req (fld (8 : Word) 0 2)).apps ∧ e.snd.kind = fld (8 : Word) 2 2 ∧ e.snd.ident =
      BitVec.toNat ((dPol { st := 2, kind := 2 : Req }).reg Block.dual 0 240)) ∨ ∃ p : Fin 4, ∀ e : Nat × App, e ∈ ((dPol
      { st := 2, kind := 2 : Req }).req (fld (8 : Word) 0 2)).apps → e.fst ≠ p.val) ∧
    (((dPol { st := 2, kind := 2, apps := [(1, ap 2 9)] : Req }).setReg Block.dual 0 244 (8 : Word)).grants ks 1 Block.dual 0 248 = true) ∧
    (BitVec.toNat (((dPol { st := 2, kind := 2, apps := [(1, ap 2 9)] : Req }).setReg Block.dual 0 244 (8 : Word)).reg Block.dual 0 244) ≠
      (((dPol { st := 2, kind := 2, apps := [(1, ap 2 9)] : Req }).setReg Block.dual 0 244 (8 : Word)).req (fld (8 : Word) 0 2)).serial %
      2 ^ 32) ∧
    ((1, ap 2 9) ∈ (s1.req 0).apps) ∧
    ((ap 2 9).atMs + 60000 ≤ s1.wallMs) ∧
    (z.grants ks 1 Block.dual 0 252 = true) ∧
    ((z.req (fld (0 : Word) 0 2)).st ≠ 2) ∧
    ((dPol { st := 2, kind := 2, stale := true : Req }).grants ks 1 Block.dual 0 252 = true) ∧
    (((dPol { st := 2, kind := 2, stale := true : Req }).req (fld (0 : Word) 0 2)).st = 2) ∧
    (((dPol { st := 2, kind := 2, stale := true : Req }).req (fld (0 : Word) 0 2)).stale = true) ∧
    ((dPol { st := 2, kind := 2 : Req }).grants ks 1 Block.dual 0 252 = true) ∧
    (((dPol { st := 2, kind := 2 : Req }).req (fld (0 : Word) 0 2)).st = 2) ∧
    (((dPol { st := 2, kind := 2 : Req }).req (fld (0 : Word) 0 2)).stale = false) ∧
    ((dPol { st := 2, kind := 2 : Req }).approved ((dPol { st := 2, kind := 2 : Req }).req (fld (0 : Word) 0 2)) = false) ∧
    ((dOp []).grants ks 1 Block.dual 0 252 = true) ∧
    (((dOp []).req (fld (0 : Word) 0 2)).st = 2) ∧
    (((dOp []).req (fld (0 : Word) 0 2)).stale = false) ∧
    ((dOp []).approved ((dOp []).req (fld (0 : Word) 0 2)) = true) ∧
    (((dOp []).req (fld (0 : Word) 0 2)).pages = []) ∧
    (((dOp []).req (fld (0 : Word) 0 2)).kind = 2) ∧
    (some (2, 1) = some (2, 1)) ∧
    (((dOp []).req (fld (0 : Word) 0 2)).digest ≠ sha384 (otpStatement 2 1)) ∧
    ((dOp (sha384 (otpStatement 2 1))).grants ks 1 Block.dual 0 252 = true) ∧
    (((dOp (sha384 (otpStatement 2 1))).req (fld (0 : Word) 0 2)).st = 2) ∧
    (((dOp (sha384 (otpStatement 2 1))).req (fld (0 : Word) 0 2)).stale = false) ∧
    ((dOp (sha384 (otpStatement 2 1))).approved ((dOp (sha384 (otpStatement 2 1))).req (fld (0 : Word) 0 2)) = true) ∧
    (((dOp (sha384 (otpStatement 2 1))).req (fld (0 : Word) 0 2)).pages = []) ∧
    (((dOp (sha384 (otpStatement 2 1))).req (fld (0 : Word) 0 2)).kind = 2) ∧
    (some (2, 1) = some (2, Sparse.get 0 (dOp (sha384 (otpStatement 2 1))).lcs.counter 2 + 1)) ∧
    (((dOp (sha384 (otpStatement 2 1))).req (fld (0 : Word) 0 2)).digest = sha384 (otpStatement 2 (Sparse.get 0 (dOp (sha384 (otpStatement
      2 1))).lcs.counter 2 + 1))) ∧
    ((dPol { st := 2, kind := 3, apps := two : Req }).grants ks 1 Block.dual 0 252 = true) ∧
    (((dPol { st := 2, kind := 3, apps := two : Req }).req (fld (0 : Word) 0 2)).st = 2) ∧
    (((dPol { st := 2, kind := 3, apps := two : Req }).req (fld (0 : Word) 0 2)).stale = false) ∧
    ((dPol { st := 2, kind := 3, apps := two : Req }).approved ((dPol { st := 2, kind := 3, apps := two : Req }).req (fld (0 : Word) 0 2))
      = true) ∧
    (((dPol { st := 2, kind := 3, apps := two : Req }).req (fld (0 : Word) 0 2)).pages = []) ∧
    (((dPol { st := 2, kind := 3, apps := two : Req }).req (fld (0 : Word) 0 2)).kind = 3) ∧
    ((dPol { st := 2, kind := 1, pages := [clkPg], apps := two : Req }).grants ks 1 Block.dual 0 252 = true) ∧
    (((dPol { st := 2, kind := 1, pages := [clkPg], apps := two : Req }).req (fld (0 : Word) 0 2)).st = 2) ∧
    (((dPol { st := 2, kind := 1, pages := [clkPg], apps := two : Req }).req (fld (0 : Word) 0 2)).stale = false) ∧
    ((dPol { st := 2, kind := 1, pages := [clkPg], apps := two : Req }).approved ((dPol
      { st := 2, kind := 1, pages := [clkPg], apps := two : Req }).req (fld (0 : Word) 0 2)) = true) ∧
    (Block.clk ∈ [Block.clk, Block.dual]) ∧
    (((dPol { st := 2, kind := 1, pages := [clkPg], apps := two : Req }).req (fld (0 : Word) 0 2)).pages =
      [{ block := Block.clk, inst := 0 : PageRef }]) ∧
    (((dPol { st := 2, kind := 1, pages := [clkPg], apps := two : Req }).req (fld (0 : Word) 0 2)).kind = 1) ∧
    ((dPol { st := 2, kind := 1, pages := [clkPg], apps := two : Req }).dual.boot = true) ∧
    (dReg.grants ks 1 Block.dual 0 252 = true) ∧
    ((dReg.req (fld (0 : Word) 0 2)).st = 2) ∧
    ((dReg.req (fld (0 : Word) 0 2)).stale = false) ∧
    (dReg.approved (dReg.req (fld (0 : Word) 0 2)) = true) ∧
    ((dReg.req (fld (0 : Word) 0 2)).pages = [{ block := Block.clk, inst := 0 : PageRef }]) ∧
    ((dReg.req (fld (0 : Word) 0 2)).kind = 1) ∧
    (dReg.dual.boot = false) := by
  refine ⟨?_, ?_, ?_, ?_, ?_, ?_, ?_, ?_, ?_, ?_, ?_, ?_, ?_, ?_, ?_, ?_, ?_, ?_, ?_, ?_, ?_, ?_, ?_, ?_, ?_, ?_, ?_, ?_, ?_, ?_,
    ?_, ?_, ?_, ?_, ?_, ?_, ?_, ?_, ?_, ?_, ?_, ?_, ?_, ?_, ?_, ?_, ?_, ?_, ?_, ?_, ?_, ?_, ?_, ?_, ?_⟩ <;>
    decide +kernel

end Sys2Proof.Tests.DualControl

namespace Sys2Proof.Tests.HostSide

set_option Elab.async false

/-- Queue pair words of an enabled pair: rings of 16 entries, upward slots of 256 bytes, interrupts on, one entry or 1 us coalesced. -/
def qcfg : List (Nat × Word) := [(6, 0x3844), (7, 0x101)]
def qp (x : Qp) : State := { z with pci := { z.pci with qp := [(0, x)], fn := [(0, { st := .active, qp := 1 })], dlUp := true } }
def qOn : State := qp { cfg := qcfg, cqUsed := 3 }
def qFetch : State := { (qp { cfg := qcfg, sqTail := 2 }).setReg .sys 0 0x40 0x100 with tags := [] }
def dsc (op len : Nat) : List Byte := fixLen 128 ([BitVec.ofNat 8 op, 0] ++ leBytes 2 len ++ leBytes 4 9)
def qDesc (op len : Nat) : State := qp { cfg := qcfg, desc := some (dsc op len), reserved := 1 }
def cpl0 : Cpl := { bytes := zeros 32, at_ := 0 }
def qCpl : State := qp { cfg := qcfg, cpls := [cpl0], reserved := 1 }
def qCplUp : State := qp { cfg := qcfg, cpls := [{ cpl0 with up := [1,2] }], reserved := 1, cqTail := 15 }
def qCoal : State := { qp { cfg := qcfg, unsig := 1 } with wall := 1200 * 300 }
def fn (x : Fn) : State := { z with pci := { z.pci with fn := [(1, x)], numVfs := 4 } }
/-- Function 1 selected on the VFM page. -/
def fnS (x : Fn) : State := (fn x).setReg .vfm 0 0x40 1
def go : Go := ⟨7, true, 1⟩
/-- A plan file of class 5 without its signature: header, directory of six sections, and one instruction, queue, journal step, binding and
RERUN binding; its program's one signature algorithm is Ed25519. -/
def planBody : List Byte :=
  leBytes 4 0x39504847 ++ leBytes 2 1 ++ leBytes 2 0 ++ leBytes 2 5 ++ leBytes 2 0x0901 ++ leBytes 4 1000 ++ leBytes 4 1 ++ leBytes 2 1024 ++
    leBytes 2 64 ++ [4, 1, 1, 6] ++ leBytes 2 4 ++ zeros 34 ++
    ([(1, 160, 20), (3, 180, 16), (4, 196, 16), (5, 212, 8), (6, 220, 8), (0x7F, 228, 104)] : List (Nat × Nat × Nat)).flatMap (fun e =>
      leBytes 4 e.1 ++ leBytes 4 e.2.1 ++ leBytes 4 e.2.2 ++ zeros 4) ++
    leBytes 4 0 ++ leBytes 4 0 ++ leBytes 4 0x18000 ++ leBytes 4 0x10000 ++ leBytes 4 683725312 ++
    leBytes 4 0x24000 ++ leBytes 4 4096 ++ leBytes 4 0 ++ leBytes 4 0 ++
    [9, 0, 0, 0] ++ leBytes 4 900 ++ leBytes 4 50 ++ leBytes 4 0 ++
    [0, 0xFF, 0, 0xFF, 0, 0, 0, 0] ++ [0, 0xFF, 0, 0xFF, 0, 0, 0, 0]
def progE : Program := { algs := [0x01] }
/-- A P-384 key (five times the base point) and the file with its signature over the bytes before. -/
def planKey : List Byte := beBytes 48 0x11DE24A2C251C777573CAC5EA025E467F208E51DBFF98FC54F6661CBE56583B037882F4A1CA297E60ABCDBC3836D84BC ++
  beBytes 48 0x8FA696C77440F92D0F5837E90A00E7C5284B447754D5DEE88C986533B6901AEB3177686D0AE8FB33184414ABE6C1713A
def planFile : List Byte := planBody ++ leBytes 2 0x04 ++ leBytes 2 0 ++ leBytes 4 96 ++
  beBytes 48 0x283C1D7365CE4788F29F8EBF234EDFFEAD6FE997FBEA5FFA2D58CC9DFA7B1C508B05526F55B9EBB2040F05B48FB6D0E1 ++
  beBytes 48 0x711833C05EB3D4571E7D95E7E30A4A26FDAC9604659692B3E7DCAF185BFF4456178E51573473DBECF0732B24A53089D7
/-- Key record bytes in flash, and authority slot 0 programmed. -/
def planS : State := { z with flc := { z.flc with bytes := [(0x208000, 1)] }, lcs := { z.lcs with authority := [(0, [7])] } }
def blob0 : MigBlob := { dstUid := 0, srcUid := 3, exportId := 1, authOk := true, qps := 0, vecs := 0, pset := [], partners := [], queues := [], unmasked := [] }
def ctx1 : Ctx := { partner := 2, enabled := true, cfg := [(0x2C0, 1)] }
def blob1 : MigBlob := { blob0 with partners := [(2, 9)], pset := [(0, 4)] }
def fnI (x : Fn) : State := { fn x with ptn := { z.ptn with ctx := [(2, ctx1)] } }
def apv : State := { (z.setReg .dual 0 0x40 0xF) with dual := { z.dual with req := [(1, { st := 2, kind := 2, serial := 4 })] } }
def fnR : State := (fn { st := .frozen, settled := true }).setReg .sgm 0 0x80 (w32 (2 ^ 13))
def sgm (l : List (Nat × SgmCh)) (r : Word) : State := { z with sgm := l, regs := (z.setReg .sgm 0 0x80 r).regs }
def on : SgmCh := { st := 1, trained := true, keyed := true }
/-- Channels 0 and 4 in service; region 0 of 1 MiB at the window's base, mirrored or not. -/
def sgS (mir : Bool) : State := sgm [(0, on), (4, on)] (w32 (2 ^ 13 + (if mir then 2 ^ 28 else 0)))
def sgFail : State := { sgS true with badWords := [] }
def ch (x : SgmCh) : State := sgm [(0, x), (4, on)] 0
def mov : State := (z.setReg .sgm 0 0xA0 0x00000000).setReg .sgm 0 0xA4 0x10
def fl1 (x : Jnl) : State := { z with jnl := x, stroke := 100 }
def jOn : State := (fl1 { slots := [(0, { st := 2, endAt := 5 })] }).setReg .jnl 0 8 1
def jRing : State := (z.setReg .sgm 0 0x80 (w32 (1024 * 2 ^ 13 + 2 ^ 26 + 2 ^ 28)))
def s1 : State := { qp {cfg := [(6,0x2844), (7,0x101)]} with stroke := 1}
def v2 : Cpl := {cpl0 with up := [1,2]}
def s3 : State := {z with pci := {z.pci with busy := true}}
def s4 : State := {z with pci := {z.pci with busy := true, mbxIe := true}}
def s7 : State := { mov with moverW := true }
def s8 : State := { (sgS true) with moverW := true, regs := (((sgS true).setReg .sgm 0 0xA4 0x10).setReg .sgm 0 0xB0 1).regs }
def d16 : List TWord := List.replicate 16 (int 5)
/-- A mirrored region whose first copy of line 0 is bad. -/
def sgBad : State := { sgS true with sgm := [(0, { on with minor := [(0, 1)] }), (4, on)] }
/-- Vector 3 of function 0 is pending. -/
def qPba : State := { qOn with pci := { qOn.pci with fn := [(0, { vecCount := 4, pba := [3] })] } }

/-- States and operands at which the hypotheses of `Obligations.FunctionRows` hold together, clause by clause. -/
theorem witness_FunctionRows :
    ((z.fn 1).st = FnState.quiet) ∧
    (((fn { st := FnState.active : Fn }).fn 1).st ≠ FnState.quiet) ∧
    (z.pci.crs = false) ∧
    ((fnS { : Fn }).grants ks 1 Block.vfm 0 72 = true) ∧
    (((fnS { : Fn }).fn (fld ((fnS { : Fn }).reg Block.vfm 0 64) 0 7)).st = FnState.quiet) ∧
    ((fnS { st := FnState.active : Fn }).grants ks 1 Block.vfm 0 72 = true) ∧
    (((fnS { st := FnState.active : Fn }).fn (fld ((fnS { st := FnState.active : Fn }).reg Block.vfm 0 64) 0 7)).st ≠ FnState.quiet) ∧
    (((fnS { st := FnState.active : Fn }).fn (fld ((fnS { st := FnState.active : Fn }).reg Block.vfm 0 64) 0 7)).st = FnState.active) ∧
    (((fnS { st := FnState.active : Fn }).fn (fld ((fnS { st := FnState.active : Fn }).reg Block.vfm 0 64) 0 7)).st ≠ FnState.frozen) ∧
    ((fnS { st := FnState.frozen : Fn }).grants ks 1 Block.vfm 0 72 = true) ∧
    (((fnS { st := FnState.frozen : Fn }).fn (fld ((fnS { st := FnState.frozen : Fn }).reg Block.vfm 0 64) 0 7)).st = FnState.frozen) ∧
    (((fnS { st := FnState.frozen : Fn }).fn (fld ((fnS { st := FnState.frozen : Fn }).reg Block.vfm 0 64) 0 7)).exported = false) ∧
    ((fnS { st := FnState.frozen : Fn }).grants ks 1 Block.vfm 0 68 = true) ∧
    (bit (16 : Word) 4 = true) ∧
    ((fnS { : Fn }).grants ks 1 Block.vfm 0 84 = true) ∧
    ((fnS { : Fn }).vecOk (fld ((fnS { : Fn }).reg Block.vfm 0 64) 0 7) (fld (0 : Word) 0 11) (fld (0 : Word) 11 8) = true) ∧
    ((fnS { st := FnState.frozen : Fn }).grants ks 1 Block.vfm 0 84 = true) ∧
    (((fnS { st := FnState.frozen : Fn }).fn (fld ((fnS { st := FnState.frozen : Fn }).reg Block.vfm 0 64) 0 7)).st ≠ FnState.quiet) ∧
    ((fnS { : Fn }).grants ks 1 Block.vfm 0 88 = true) ∧
    (bit (1 : Word) 0 = true) ∧
    ((fnS { : Fn }).nextOk 1024 = true) ∧
    ((fnS { : Fn }).nextKeeps = true) ∧
    ((fnS { qpNext := 2000 : Fn }).grants ks 1 Block.vfm 0 88 = true) ∧
    ((fnS { qpNext := 2000 : Fn }).nextOk 1024 = false) ∧
    ((fnS { : Fn }).grants ks 1 Block.vfm 0 96 = true) ∧
    ((fnS { : Fn }).grants ks 0 Block.vfm 0 96 = true) := by
  refine ⟨?_, ?_, ?_, ?_, ?_, ?_, ?_, ?_, ?_, ?_, ?_, ?_, ?_, ?_, ?_, ?_, ?_, ?_, ?_, ?_, ?_, ?_, ?_, ?_, ?_, ?_⟩ <;>
    decide +kernel

/-- States and operands at which the hypotheses of `Obligations.QueuePairRows` hold together, clause by clause. -/
theorem witness_QueuePairRows :
    ((z.qpr 1 0).en = false) ∧
    (0 ≠ 6 ∨ bit (5 : Word) 12 = false) ∧
    (((qp { cfg := [(6, (10308 : Word)), (7, (257 : Word))] : Qp }).qpr 0 0).en = false) ∧
    (6 = 6) ∧
    (bit (14404 : Word) 12 = true) ∧
    ({ cfg := Sparse.set (0 : Word) ((qp { cfg := [(6, (10308 : Word)), (7, (257 : Word))] : Qp }).qpr 0 0).cfg 6 (14404 : Word), sqHead := ((qp { cfg := [(6, (10308 : Word)), (7, (257 : Word))] : Qp }).qpr 0 0).sqHead, sqTail := ((qp { cfg := [(6, (10308 : Word)), (7, (257 : Word))] : Qp }).qpr 0 0).sqTail, cqTail := ((qp { cfg := [(6, (10308 : Word)), (7, (257 : Word))] : Qp }).qpr 0 0).cqTail, cqHead := ((qp { cfg := [(6, (10308 : Word)), (7, (257 : Word))] : Qp }).qpr 0 0).cqHead, phase := ((qp { cfg := [(6, (10308 : Word)), (7, (257 : Word))] : Qp }).qpr 0 0).phase, reserved := ((qp { cfg := [(6, (10308 : Word)), (7, (257 : Word))] : Qp }).qpr 0 0).reserved, cqUsed := ((qp { cfg := [(6, (10308 : Word)), (7, (257 : Word))] : Qp }).qpr 0 0).cqUsed, desc := ((qp { cfg := [(6, (10308 : Word)), (7, (257 : Word))] : Qp }).qpr 0 0).desc, cpls := ((qp { cfg := [(6, (10308 : Word)), (7, (257 : Word))] : Qp }).qpr 0 0).cpls, era := ((qp { cfg := [(6, (10308 : Word)), (7, (257 : Word))] : Qp }).qpr 0 0).era, unsig := ((qp { cfg := [(6, (10308 : Word)), (7, (257 : Word))] : Qp }).qpr 0 0).unsig, unsigAt := ((qp { cfg := [(6, (10308 : Word)), (7, (257 : Word))] : Qp }).qpr 0 0).unsigAt : Qp }.cfgOk
      = true) ∧
    (0 < ((qp { cfg := [(6, (10308 : Word)), (7, (257 : Word))] : Qp }).fn 0).qp) ∧
    ((qCpl.qpr 0 0).en = true) ∧
    (bit (10308 : Word) 12 = false) ∧
    ((qOn.qpr 0 0).en = true) ∧
    (0 ≠ 6 ∨ bit (5 : Word) 12 = true) ∧
    (BitVec.toNat (5 : Word) < (qOn.qpr 0 0).sqSize) ∧
    ((qOn.qpr 0 0).sqSize ≤ BitVec.toNat (16 : Word)) ∧
    (BitVec.toNat (2 : Word) < (qOn.qpr 0 0).cqSize) ∧
    ((BitVec.toNat (2 : Word) + (qOn.qpr 0 0).cqSize - (qOn.qpr 0 0).cqHead) % (qOn.qpr 0 0).cqSize ≤ (qOn.qpr 0 0).cqUsed) ∧
    (qFetch.nextFetch = some (64 * 0 + 0)) ∧
    (∀ (p : Nat × Qp), p ∈ qFetch.pci.qp → p.snd.desc = none) ∧
    (((qDesc 1 64).qpr 0 0).desc = some (dsc 1 64)) ∧
    (descCode (dsc 1 64) ReadEnd.ok = none) ∧
    (((qDesc 2 64).qpr 0 0).desc = some (dsc 2 64)) ∧
    (descCode (dsc 2 64) ReadEnd.ok = none) ∧
    (((qDesc 5 64).qpr 0 0).desc = some (dsc 5 64)) ∧
    (descCode (dsc 5 64) ReadEnd.ok = some 1) ∧
    (1 ≠ 3) ∧
    ((qCpl.qpr 0 0).cpls = [cpl0]) ∧
    (cpl0.at_ ≤ qCpl.stroke) ∧
    (qCpl.pci.dlUp = true) ∧
    ((qCplUp.qpr 0 0).cpls = [v2]) ∧
    (v2.at_ ≤ qCplUp.stroke) ∧
    (qCplUp.pci.dlUp = true) ∧
    ((qCoal.qpr 0 0).ie = true) ∧
    (0 < (qCoal.qpr 0 0).unsig) ∧
    ((qCoal.qpr 0 0).coalUs ≠ 0) ∧
    ((qCoal.qpr 0 0).unsigAt + (qCoal.qpr 0 0).coalUs * usUnits ≤ qCoal.wall) ∧
    ((qOn.fn 0).pba = []) ∧
    ((qPba.fn 0).pba = [3]) ∧
    ((qPba.fn 0).maskAll = false) ∧
    (3 < (qPba.fn 0).vecCount) := by
  refine ⟨?_, ?_, ?_, ?_, ?_, ?_, ?_, ?_, ?_, ?_, ?_, ?_, ?_, ?_, ?_, ?_, ?_, ?_, ?_, ?_, ?_, ?_, ?_, ?_, ?_, ?_, ?_, ?_, ?_, ?_,
    ?_, ?_, ?_, ?_, ?_, ?_, ?_, ?_⟩ <;>
    decide +kernel

/-- States and operands at which the hypotheses of `Obligations.JournalRows` hold together, clause by clause. -/
theorem witness_JournalRows :
    (jOn.enabled Block.jnl 0 = true) ∧
    (jOn.jnl.flushing = none) ∧
    (jOn.jnlFull = false) ∧
    (jOn.jnlOldest = some 0) ∧
    (∀ (j : Nat), j < 64 → jOn.isBad (jslotAt (0 / 256 : Nat) (0 % 256) + 4 * j) = false) ∧
    ((fl1 { slots := [(0, { st := 2, endAt := 5 : JSlot })], flushing := some 0, rec_ := zeros 256, wrote := true : Jnl }).jnl.flushing =
      some 0) ∧
    ((fl1 { slots := [(0, { st := 2, endAt := 5 : JSlot })], flushing := some 0, rec_ := zeros 256, wrote := true : Jnl }).jnl.retry =
      none) ∧
    ((fl1 { slots := [(0, { st := 2, endAt := 5 : JSlot })], flushing := some 0, rec_ := zeros 256, wrote := true : Jnl }).jnl.wrote =
      true) ∧
    ((fl1 { slots := [(0, { st := 2, endAt := 5 : JSlot })], flushing := some 0, rec_ := zeros 256, retry := some 0 : Jnl }).jnl.flushing
      = some 0) ∧
    ((fl1 { slots := [(0, { st := 2, endAt := 5 : JSlot })], flushing := some 0, rec_ := zeros 256, retry := some 0 : Jnl }).jnl.retry =
      some 0) ∧
    (0 ≤ (fl1 { slots := [(0, { st := 2, endAt := 5 : JSlot })], flushing := some 0, rec_ := zeros 256, retry := some 0 : Jnl }).wall) ∧
    (z.grants ks 1 Block.jnl 0 140 = true) ∧
    (z.jnl.exported ≤ BitVec.toNat (z.reg Block.jnl 0 136) + 2 ^ 32 * BitVec.toNat (0 : Word)) ∧
    (BitVec.toNat (z.reg Block.jnl 0 136) + 2 ^ 32 * BitVec.toNat (0 : Word) ≤ z.jnl.next) ∧
    (jOn.grants ks 1 Block.jnl 0 140 = true) ∧
    (BitVec.toNat (jOn.reg Block.jnl 0 136) + 2 ^ 32 * BitVec.toNat (1 : Word) < jOn.jnl.exported ∨ jOn.jnl.next < BitVec.toNat (jOn.reg
      Block.jnl 0 136) + 2 ^ 32 * BitVec.toNat (1 : Word)) ∧
    (jOn.grants ks 1 Block.jnl 0 8 = true) ∧
    (bit (2 : Word) 1 = true) ∧
    (bit (2 : Word) 0 = false) ∧
    (z.grants ks 1 Block.jnl 0 8 = true) ∧
    (bit (0 : Word) 1 = false) ∧
    (bit (0 : Word) 0 = false ∨ z.ringBaseOk = true) ∧
    (bit (1 : Word) 1 = false) ∧
    (bit (1 : Word) 0 = true) ∧
    (jOn.ringBaseOk = false) := by
  refine ⟨?_, ?_, ?_, ?_, ?_, ?_, ?_, ?_, ?_, ?_, ?_, ?_, ?_, ?_, ?_, ?_, ?_, ?_, ?_, ?_, ?_, ?_, ?_, ?_, ?_⟩ <;>
    decide +kernel

/-- States and operands at which the hypotheses of `Obligations.MailboxRows` hold together, clause by clause. -/
theorem witness_MailboxRows :
    (s3.pci.busy = true) ∧
    ((fn { : Fn }).pci.busy = false) ∧
    (((fn { : Fn }).mbxOpen go 64).planAudit planFile progE = 1) ∧
    (apv.pci.busy = false) ∧
    (3 = 1 ∨ 3 = 3) ∧
    (1 < 4) ∧
    (5 < 2 ^ 32) ∧
    (4 < 2 ^ 32) ∧
    ((apv.req 1).st = 2) ∧
    (4 = (apv.req 1).serial % 2 ^ 32) ∧
    (apv.kindOk (apv.req 1).kind 3 = true) ∧
    ((apv.req 1).apps = []) ∧
    ((fn { : Fn }).pci.busy = false ∧ 1 ≤ (fn { : Fn }).pci.numVfs ∧ 1 ≤ 127) ∧
    (4 ≤ 64) ∧
    (0 ≤ 65535) ∧
    (1 ≤ 1) ∧
    (1 ≤ 4096) ∧
    ((((fn { : Fn }).mbxOpen go 16).setFn 1
      { st := ((fn { : Fn }).fn 1).st, settled := ((fn { : Fn }).fn 1).settled, exported := ((fn { : Fn }).fn 1).exported, ack := ((fn { : Fn }).fn 1).ack, inflight := ((fn { : Fn }).fn 1).inflight, qp := ((fn { : Fn }).fn 1).qp, qpNext := 4, share := ((fn { : Fn }).fn 1).share, shareNext := 0, jquota := ((fn { : Fn }).fn 1).jquota, jquotaNext := 1, vecBase := ((fn { : Fn }).fn 1).vecBase, vecCount := ((fn { : Fn }).fn 1).vecCount, pset := ((fn { : Fn }).fn 1).pset, psetNext := ((fn { : Fn }).fn 1).psetNext, freezing := ((fn { : Fn }).fn 1).freezing, maskAll := ((fn { : Fn }).fn 1).maskAll, unmasked := ((fn { : Fn }).fn 1).unmasked, pba := ((fn { : Fn }).fn 1).pba : Fn }).nextOk
      1024 = true) ∧
    ((fn { : Fn }).qpBusy 1 4 = false) ∧
    (((fn { : Fn }).fn 1).st = FnState.quiet) ∧
    (4 ≤ if 1 = 0 then 128 else 64) ∧
    (0 + 4 ≤ 2048) ∧
    ((fn { : Fn }).vecOk 1 0 4 = true) ∧
    ((fn { st := FnState.active : Fn }).pci.busy = false ∧ 1 ≤ (fn { st := FnState.active : Fn }).pci.numVfs ∧ 1 ≤ 127) ∧
    (((fn { st := FnState.active : Fn }).fn 1).st ≠ FnState.quiet) ∧
    (((fn { st := FnState.active : Fn }).fn 1).st = FnState.active) ∧
    (1 ≠ 0) ∧
    (((fn { st := FnState.active : Fn }).fn 1).st ≠ FnState.frozen) ∧
    ((fn { st := FnState.frozen : Fn }).pci.busy = false ∧ 1 ≤ (fn { st := FnState.frozen : Fn }).pci.numVfs ∧ 1 ≤ 127) ∧
    (((fn { st := FnState.frozen : Fn }).fn 1).st = FnState.frozen) ∧
    (((fn { st := FnState.frozen : Fn }).fn 1).exported = false) ∧
    ((fn { : Fn }).pci.numVfs < 5) ∧
    ((fnI { : Fn }).pci.busy = false ∧ 1 ≤ (fnI { : Fn }).pci.numVfs ∧ 1 ≤ 127) ∧
    (((fnI { : Fn }).fn 1).st = FnState.quiet) ∧
    (blob1.qps ≤ ((fnI { : Fn }).fn 1).qp) ∧
    (blob1.vecs ≤ ((fnI { : Fn }).fn 1).vecCount) ∧
    (blob1.dstUid = (fnI { : Fn }).lcs.uid) ∧
    (blob1.authOk = true) ∧
    (∀ (e : Nat × Nat), e ∈ (fnI { : Fn }).pci.imports → e.fst = blob1.srcUid → e.snd < blob1.exportId) ∧
    (∀ (e : Nat × Nat), e ∈ blob1.partners → ((fnI { : Fn }).ctx e.fst).version ≠ 0) ∧
    (s3.grants ks 1 Block.pci 0 68 = true) ∧
    (bit (2 : Word) 1 = true) := by
  refine ⟨?_, ?_, ?_, ?_, ?_, ?_, ?_, ?_, ?_, ?_, ?_, ?_, ?_, ?_, ?_, ?_, ?_, ?_, ?_, ?_, ?_, ?_, ?_, ?_, ?_, ?_, ?_, ?_, ?_, ?_,
    ?_, ?_, ?_, ?_, ?_, ?_, ?_, ?_, ?_, ?_, ?_, ?_⟩ <;>
    decide +kernel

/-- States and operands at which the hypotheses of `Obligations.SealedAccessRows` hold together, clause by clause. -/
theorem witness_SealedAccessRows :
    (0 % 64 = 0) ∧
    ((sgS false).sgAsleep (decide (4 ≤ sealedCh 0)) = false) ∧
    ((sgS false).barred ks 0 (sealedBase + 0) 64 = none) ∧
    ((sgS false).covered 0 = some false) ∧
    ((sgS false).sgReads (sealedCh 0) = true) ∧
    ((sgS false).lineBad (sealedCh 0) (sealedIx 0) = false) ∧
    (1048576 % 64 = 0) ∧
    ((sgS false).sgAsleep (decide (4 ≤ sealedCh 1048576)) = false) ∧
    ((sgS false).barred ks 0 (sealedBase + 1048576) 64 = none) ∧
    ((sgS false).covered 1048576 = none) ∧
    (sgBad.sgAsleep (decide (4 ≤ sealedCh 0)) = false) ∧
    (sgBad.barred ks 0 (sealedBase + 0) 64 = none) ∧
    (sgBad.covered 0 = some true) ∧
    (sgBad.sgReads (sealedCh 0) = true) ∧
    (sgBad.sgReads (mirrorOf (sealedCh 0)) = true) ∧
    ((sgBad.sg (sealedCh 0)).ver 0 (sealedIx 0) ≠ 0) ∧
    (sgBad.lineBad (mirrorOf (sealedCh 0)) (sealedIx 0) = false) ∧
    (d16.length = 16) ∧
    ((sgS false).barred ks 1 (sealedBase + 0) 64 = none) ∧
    (∀ (w : TWord), w ∈ d16 → w.tag = Tag.int ∨ w.tag = Tag.none) ∧
    ((sgS false).sgWrites (sealedCh 0) = true) ∧
    ((sgS true).sgAsleep (decide (4 ≤ sealedCh 0)) = false) ∧
    ((sgS true).barred ks 1 (sealedBase + 0) 64 = none) ∧
    ((sgS true).covered 0 = some true) ∧
    ((sgS true).sgWrites (sealedCh 0) = true) ∧
    ((sgS true).sgWrites (mirrorOf (sealedCh 0)) = true) ∧
    ((List.replicate 15 (int (5 : Word)) ++ [ptr (4 : Word)]).length = 16) ∧
    (∃ w, w ∈ List.replicate 15 (int (5 : Word)) ++ [ptr (4 : Word)] ∧ w.tag ≠ Tag.int ∧ w.tag ≠ Tag.none) := by
  refine ⟨?_, ?_, ?_, ?_, ?_, ?_, ?_, ?_, ?_, ?_, ?_, ?_, ?_, ?_, ?_, ?_, ?_, ?_, ?_, ?_, ?_, ?_, ?_, ?_, ?_, ?_, ?_, ?_⟩ <;>
    decide +kernel

/-- The places of a channel that the table of R293 names. -/
theorem test_sgram_layout : sgPlace 0x27FFFFFF = .line 0 10485759 63 ∧ sgPlace 0x28000020 = .info 0 1 0 ∧ sgPlace 0x3C000040 = .line 1 1 0 ∧
    sgPlace 0x3CF3D000 = .reserved := by decide +kernel

/-- States and operands at which the hypotheses of `Obligations.SgramChannelRows` hold together, clause by clause. -/
theorem witness_SgramChannelRows :
    (((ch { training := true : SgmCh }).sg 0).training = true) ∧
    (((ch { st := 1, trained := true : SgmCh }).sg 0).trained = true) ∧
    ((ch { st := 1, selfRef := true : SgmCh }).sgAsleep false = true) ∧
    (Instr.sgramEdcFail (0 : Fin 8) ∈ [Instr.sgramEdcFail (0 : Fin 8), Instr.sgramDeviceTimeout (0 : Fin 8)]) ∧
    ((ch { : SgmCh }).grants ks 1 Block.sgm 0 68 = true) ∧
    (bit (1 : Word) 0 = true) ∧
    (((ch { : SgmCh }).sg 0).st = 0 ∨ ((ch { : SgmCh }).sg 0).st = 2) ∧
    ((ch { st := 1, trained := true : SgmCh }).grants ks 1 Block.sgm 0 68 = true) ∧
    (((ch { st := 1, trained := true : SgmCh }).sg 0).st ≠ 0) ∧
    (((ch { st := 1, trained := true : SgmCh }).sg 0).st ≠ 2) ∧
    (((ch { st := 3, trained := true, resilver := 4 : SgmCh }).sg 0).st = 3) ∧
    ((ch { st := 3, trained := true, resilver := 4 : SgmCh }).sgReads (mirrorOf 0) = true) ∧
    (ks.isKs = true) ∧
    (mov.grants ks 1 Block.sgm (moverPage false) 180 = true) ∧
    (bit (1 : Word) 1 = false) ∧
    (mov.moverOn false = false) ∧
    (mov.reg64 Block.sgm (moverPage false) 160 % 64 = 0) ∧
    (mov.reg64 Block.sgm (moverPage false) 168 % 64 = 0) ∧
    (sealedBase ≤ mov.reg64 Block.sgm (moverPage false) 160 ∨ sealedBase ≤ mov.reg64 Block.sgm (moverPage false) 168) ∧
    (s7.moverOn false = true) ∧
    (s8.moverOn false = true) := by
  refine ⟨?_, ?_, ?_, ?_, ?_, ?_, ?_, ?_, ?_, ?_, ?_, ?_, ?_, ?_, ?_, ?_, ?_, ?_, ?_, ?_, ?_⟩ <;>
    decide +kernel

end Sys2Proof.Tests.HostSide

namespace Sys2Proof.Tests.Heats

set_option Elab.async false

/-- A plan of class 5 with the steps of a heat: policy at 700, journal from 900 to 950. -/
def plan1 : PlanFile := { cls := 5, version := 1, total := 1000, maxEnv := 1024, maxSigned := 64, qdepth := 4, keyfoot := 4, entry := 0x100, stackTop := 0x18000, slim := 0x10000, occ := [{ res := 8, start := 700, length := 20 }, { res := 9, start := 900, length := 50 }], bindings := [[0, 255, 0, 255, 0]], rerun := [0, 255, 0, 255, 0], queueOff := 0x24000, queueSize := 4096, prog := { algs := [0x01] } }
/-- An envelope of class 5 from partner 2 with no payload. -/
def env5 : List Byte := [0, 0, 1, 0, 0, 0, 2, 0, 5, 0] ++ zeros 54
def qe : QEntry := { cls := 5, tag := 7, src := 256, stroke := 0, env := env5 }
def clsE : TwoWords := ⟨0x200000, 5⟩
def sprE : TwoWords := ⟨0x400000, 0x20⟩
def he : Heat := { pair := 0, cls := 5, entry := qe, total := 1000, slot := some 3, keyfoot := 4, units := [0, 255, 0, 255, 0] }
/-- Course 0 as given, with plan 5 admitted, the device serving and the Arch die powered. -/
def co (x : Cox) : State := { (((z.setReg .sys 0 0x40 0x100).setReg .cox 0 8 1)) with cox := [(0, x), (15, { role := 1 })], plans := [plan1], archOn := true, stroke := 2400000 }
def coIn : State := { co { ftA := [(0, clsE)] } with ingress := [{ qe with src := 0 }] }
def coStop : State := { z with ingress := [{ qe with src := 0 }] }
def coL : State := co { ftA := [(0, clsE)], queue := [qe] }
def coB : State := { co { reopen := [1] } with pci := { z.pci with commit := true, fn := [(1, { qpNext := 4, freezing := true })] } }
def coSw : State := ((co { swap := some (0, [0]), ftB := [(0, clsE)], reopen := [1] }).setReg .cox 0 0x44 1)
/-- A heat runs on pair 0 of course 0, its tiles and its record as at launch. -/
def coH (h : Heat) : State := (((co { heats := [h] }).setProc (.tile 0 0) { running := true, sched := true, b := [(1, int 4)] }).setProc (.tile 0 1) { running := true, sched := true })
def coW (w : Waiting) : State := co { ftA := [(0, sprE)], waiting := [w] }
def wt : Waiting := { heat := { he with rerun := false, first := some (2, 8) }, detect := 0 }
/-- The heat's record complete with ACCEPT. -/
def coR (s : State) : State := s.putInts (jslotAt 0 3 + 8) (leBytes 8 7)
def coP (pm : PairMode) : State := { coR (coH he) with pairM := pm, regs := (((coH he).setReg .sys 0 0x48 1).regs) }
def ftS : State := z.setReg .cox 0 0x48 0x400
def reS : State := z.setReg .mort 0 0x70 0x8000
def fenced0 : State := z.setReg .cox 0 0x68 0x101
def rd (b : Bool) : CtxRead := { course := 0, dest := 0x100, partner := 2, stateOnly := b, stroke := 0 }
def mq (q : Nat) : MarkReq := { course := 0, pair := 0, seq := q, tag := 7, partner := 2, mark := true, rates := 0, set := 1, clear := 0, dest := 0x100, stroke := 0 }
def ctx2 : Ctx := { partner := 2, enabled := true, hw := 5, window := 0x3F, cfg := [(0x2C0, 1), (0x2C6, 1), (0x2D0, 10)] }
def pt (t : Ptn) : State := { z with ptn := { t with ctx := [(2, ctx2)] } }
def jup (s : State) : State := { s with jnt := { s.jnt with up := true } }
def ld (m : Nat) (en : Bool) : State := { (z.setReg .ptn 0 0x48 2) with
  ptn := { z.ptn with ctx := [(2, { ctx2 with enabled := en })], load := some (m, 2, 0) }
  mem := [(ctxStaging, 2), (ctxStaging + 0x2C0, 2), (ctxStaging + 0x2C4, 64), (ctxStaging + 0x2C6, 1), (ctxStaging + 0x2D0, 10)] }
/-- A staged image of partner 2, loaded into slot 3. -/
def ldBad : State := let s := ld 1 false; { s with ptn := { s.ptn with load := some (1, 3, 0) } }
def ld0 (m : Nat) : State := { (ld m false) with ptn := { z.ptn with load := some (m, 2, 0) } }
def sg1 (m : Nat) : State := ({ z with ptn := { z.ptn with sgnLoad := some (m, 4, 0) } }).putInts slotStaging [8, 0, 0, 0, 1]
def sg2 (m : Nat) : State := (sg1 m).putInts (slotBase 4) [8, 0, 0, 0, 1]
def tv (x : Tim) : State := { z with tim := x }
def v1 : QEntry := {qe with src := 0}
def s2 : State := (coW {wt with heat := {wt.heat with slot := none}})
def v3 : Waiting := {wt with heat := {wt.heat with slot := none}}
def s4 : State := {co {swap := some (0, [0])} with stroke := 300*2400000}
def s5 : State := { coSw with cox := [(0, { swap := some (0, [0]), ready := true }), (15, {role := 1})] }
def s6 : State := { (pt {bbPend := [(2,0)]}) with stroke := 1200001 }
def s7 : State := {(tv {valid := true}) with wall := 0, tim := {valid := true, now := 3600*1200000000}}
/-- Pair 0 of a legacy course runs its instance's command. -/
def coLeg : State := (co { role := 2, legacyBusy := [(0, qe)] }).setProc (.tile 0 0) { running := true }
/-- The heat of `coH` at the last stroke of its plan. -/
def heLast : Heat := { he with launch := 2399001, plan := plan1 }
/-- A unit of the pair of `coH` found a result late. -/
def coLate : State := { coH he with sigs := [(0, 0, 12)] }
/-- A heat at the hand-off of its plan, its frame of four bytes staged for field serial port 0. -/
def heR : Heat := { he with launch := 2399000, plan := plan1, frame := some [1, 2, 3, 4] }
/-- Its entry is reserved at port 64, and its record is complete with ACCEPT. -/
def coE (pm : PairMode) (g : Word) : State :=
  { (((coH heR).putInts (jslotAt 0 3 + 8) (leBytes 8 7)).putInts (jslotAt 0 3 + 0x48) (leBytes 8 (2399000 + plan1.verdictAt))) with
    egress := [(64, [{ tag := 7, bytes := [1, 2, 3, 4], at_ := 0, course := 0, pair := 0, released := false }])]
    pairM := pm
    regs := (((coH heR).setReg .sys 0 0x48 g).setReg .fsp 0 (fsReg 0 0) 1).regs }
def paE : PairMode := { role := 1, link := true, unacked := [(1, 7)] }
def coLk : State := { z with aon := { z.aon with lock := true }, regs := (z.setReg .sys 0 0x40 0x100).regs }
def coHd : State := { z with aon := { z.aon with hold := true }, regs := (z.setReg .sys 0 0x40 0x100).regs }
/-- A read response under way. -/
def fly : Flight := { body := .ctx (rd false), sched := true, owner := 0, route := [0], start := 0 }
/-- A context read whose beats have not arrived. -/
def rdFly : State := let s := pt { reads := [rd false] }; { s with mort := { s.mort with flights := [fly] } }
/-- The answer of a check-and-mark on its way back. -/
def mkFly : Flight := { body := .mark (mq 9) (some true), sched := true, owner := 0, route := [0], start := 0 }
/-- A check-and-mark whose beat is under way. -/
def mkWait (q : Nat) : State := let s := pt { marks := [mq q] }; { s with mort := { s.mort with flights := [{ mkFly with body := .mark (mq q) none }] } }
/-- The last word of a check-and-mark, that has reached the port. -/
def mkMsg : Msg := { src := cx, sched := true, owner := 0, kind := .write, addr := 0x1089001C, size := 4, data := [int 0], stroke := 0, dest := 0, pc := 0 }
def mkLand : State := let s := pt {}; { s with mort := { s.mort with msgs := [mkMsg] }, stroke := 100 }

/-- States and operands at which the hypotheses of `Obligations.PartnerLoadRows` hold together, clause by clause. -/
theorem witness_PartnerLoadRows :
    (z.grants ks 1 Block.ptn 0 64 = true) ∧
    ((Instr.partnerInstall ks (1 : Word), 1) ∈ [(Instr.partnerInstall ks (1 : Word), 1), (Instr.partnerUpdate ks (1 : Word), 2),
      (Instr.partnerEnable ks (1 : Word), 3), (Instr.partnerDisable ks (1 : Word), 4), (Instr.partnerErase ks (1 : Word), 5),
      (Instr.partnerRestore ks (1 : Word), 6), (Instr.partnerFence ks (1 : Word), 7)]) ∧
    (z.ptn.load = none) ∧
    ((ld 3 false).grants ks 1 Block.ptn 0 64 = true) ∧
    ((ld 3 false).ptn.load.isSome = true) ∧
    ((let s := ld 3 false;
      { pending := s.pending, regs := s.regs, held := s.held, mem := s.mem, tags := s.tags, badWords := s.badWords, routes := s.routes, sent := s.sent, swNow := s.swNow, sevg := s.sevg, sevs := s.sevs, stroke := s.stroke, archOn := s.archOn, ksCopy := s.ksCopy, wall := s.wall, acuBase := s.acuBase, acuAttr := s.acuAttr, acuBaseSh := s.acuBaseSh, acuAttrSh := s.acuAttrSh, acuEcc := s.acuEcc, dual := s.dual, mort := s.mort, cox := s.cox, plans := s.plans, intake := s.intake, audit := s.audit, procs := s.procs, pke := s.pke, cluster := s.cluster, hsh := s.hsh, cip := s.cip, ptn := let __src := s.ptn; { ctx := __src.ctx, was := __src.was, reads := __src.reads, marks := [mq 9], portW := __src.portW, bbPend := __src.bbPend, bbNext := __src.bbNext, bbAt := __src.bbAt, ckpt := __src.ckpt, load := __src.load, draining := __src.draining, drained := __src.drained, restored := __src.restored, wrapKey := __src.wrapKey, sgnLoad := __src.sgnLoad : Ptn }, tim := s.tim, aon := s.aon, jnl := s.jnl, sgm := s.sgm, moverW := s.moverW, moverE := s.moverE, eth := s.eth, fsp := s.fsp, egress := s.egress, pci := s.pci, kst := s.kst, jnt := s.jnt, lcs := s.lcs, dbg := s.dbg, tmp := s.tmp, flc := s.flc, crd := s.crd, sdh := s.sdh, nfc := s.nfc, pwr := s.pwr, pairM := s.pairM, ingress := s.ingress, released := s.released, evtHigh := s.evtHigh, lock := s.lock, lockBad := s.lockBad, shLog := s.shLog, heldW0 := s.heldW0, late := s.late, unitDue := s.unitDue, sigs := s.sigs, planFloor := s.planFloor, dropping := s.dropping, planWipe := s.planWipe, free := s.free, out := s.out : State }).ptn.load
      = some (3, 2, 0)) ∧
    ((let s := ld 3 false;
      { pending := s.pending, regs := s.regs, held := s.held, mem := s.mem, tags := s.tags, badWords := s.badWords, routes := s.routes, sent := s.sent, swNow := s.swNow, sevg := s.sevg, sevs := s.sevs, stroke := s.stroke, archOn := s.archOn, ksCopy := s.ksCopy, wall := s.wall, acuBase := s.acuBase, acuAttr := s.acuAttr, acuBaseSh := s.acuBaseSh, acuAttrSh := s.acuAttrSh, acuEcc := s.acuEcc, dual := s.dual, mort := s.mort, cox := s.cox, plans := s.plans, intake := s.intake, audit := s.audit, procs := s.procs, pke := s.pke, cluster := s.cluster, hsh := s.hsh, cip := s.cip, ptn := let __src := s.ptn; { ctx := __src.ctx, was := __src.was, reads := __src.reads, marks := [mq 9], portW := __src.portW, bbPend := __src.bbPend, bbNext := __src.bbNext, bbAt := __src.bbAt, ckpt := __src.ckpt, load := __src.load, draining := __src.draining, drained := __src.drained, restored := __src.restored, wrapKey := __src.wrapKey, sgnLoad := __src.sgnLoad : Ptn }, tim := s.tim, aon := s.aon, jnl := s.jnl, sgm := s.sgm, moverW := s.moverW, moverE := s.moverE, eth := s.eth, fsp := s.fsp, egress := s.egress, pci := s.pci, kst := s.kst, jnt := s.jnt, lcs := s.lcs, dbg := s.dbg, tmp := s.tmp, flc := s.flc, crd := s.crd, sdh := s.sdh, nfc := s.nfc, pwr := s.pwr, pairM := s.pairM, ingress := s.ingress, released := s.released, evtHigh := s.evtHigh, lock := s.lock, lockBad := s.lockBad, shLog := s.shLog, heldW0 := s.heldW0, late := s.late, unitDue := s.unitDue, sigs := s.sigs, planFloor := s.planFloor, dropping := s.dropping, planWipe := s.planWipe, free := s.free, out := s.out : State }).markLanding
      = true ∨ ∃ r, r ∈ (let s := ld 3 false;
      { pending := s.pending, regs := s.regs, held := s.held, mem := s.mem, tags := s.tags, badWords := s.badWords, routes := s.routes, sent := s.sent, swNow := s.swNow, sevg := s.sevg, sevs := s.sevs, stroke := s.stroke, archOn := s.archOn, ksCopy := s.ksCopy, wall := s.wall, acuBase := s.acuBase, acuAttr := s.acuAttr, acuBaseSh := s.acuBaseSh, acuAttrSh := s.acuAttrSh, acuEcc := s.acuEcc, dual := s.dual, mort := s.mort, cox := s.cox, plans := s.plans, intake := s.intake, audit := s.audit, procs := s.procs, pke := s.pke, cluster := s.cluster, hsh := s.hsh, cip := s.cip, ptn := let __src := s.ptn; { ctx := __src.ctx, was := __src.was, reads := __src.reads, marks := [mq 9], portW := __src.portW, bbPend := __src.bbPend, bbNext := __src.bbNext, bbAt := __src.bbAt, ckpt := __src.ckpt, load := __src.load, draining := __src.draining, drained := __src.drained, restored := __src.restored, wrapKey := __src.wrapKey, sgnLoad := __src.sgnLoad : Ptn }, tim := s.tim, aon := s.aon, jnl := s.jnl, sgm := s.sgm, moverW := s.moverW, moverE := s.moverE, eth := s.eth, fsp := s.fsp, egress := s.egress, pci := s.pci, kst := s.kst, jnt := s.jnt, lcs := s.lcs, dbg := s.dbg, tmp := s.tmp, flc := s.flc, crd := s.crd, sdh := s.sdh, nfc := s.nfc, pwr := s.pwr, pairM := s.pairM, ingress := s.ingress, released := s.released, evtHigh := s.evtHigh, lock := s.lock, lockBad := s.lockBad, shLog := s.shLog, heldW0 := s.heldW0, late := s.late, unitDue := s.unitDue, sigs := s.sigs, planFloor := s.planFloor, dropping := s.dropping, planWipe := s.planWipe, free := s.free, out := s.out : State }).ptn.marks
      ∧ r.partner = 2) ∧
    ((ld 3 false).markLanding = false) ∧
    (∀ (r : MarkReq), r ∈ (ld 3 false).ptn.marks → r.partner ≠ 2) ∧
    ((ld 3 false).ptn.load = some (3, 2, 0)) ∧
    (((ld 3 false).ctx 2).version ≠ 0) ∧
    ((ld 4 true).markLanding = false) ∧
    (∀ (r : MarkReq), r ∈ (ld 4 true).ptn.marks → r.partner ≠ 2) ∧
    ((ld 4 true).ptn.load = some (4, 2, 0)) ∧
    ((ld 5 false).markLanding = false) ∧
    (∀ (r : MarkReq), r ∈ (ld 5 false).ptn.marks → r.partner ≠ 2) ∧
    ((ld 5 false).ptn.load = some (5, 2, 0)) ∧
    (((ld 5 false).ctx 2).enabled = false) ∧
    ((ld 6 false).markLanding = false) ∧
    (∀ (r : MarkReq), r ∈ (ld 6 false).ptn.marks → r.partner ≠ 2) ∧
    ((ld 6 false).ptn.load = some (6, 2, 0)) ∧
    (((ld 6 false).ctx 2).version ≠ 0) ∧
    ((ld 7 false).markLanding = false) ∧
    (∀ (r : MarkReq), r ∈ (ld 7 false).ptn.marks → r.partner ≠ 2) ∧
    ((ld 7 false).ptn.load = some (7, 2, 0)) ∧
    (((ld 7 false).ctx 2).version ≠ 0) ∧
    (z.grants ks 1 Block.sgn 0 64 = true) ∧
    ((Instr.signerInstall ks (1 : Word), 1) ∈ [(Instr.signerInstall ks (1 : Word), 1), (Instr.signerErase ks (1 : Word), 2),
      (Instr.signerRevoke ks (1 : Word), 3)]) ∧
    (z.ptn.sgnLoad = none) ∧
    ((sg2 2).slotsOf 4 = [4]) ∧
    ((sg2 2).ptn.sgnLoad = some (2, 4, 0)) ∧
    ((sg2 3).slotsOf 4 = [4]) ∧
    ((sg2 3).ptn.sgnLoad = some (3, 4, 0)) ∧
    ((sg2 3).slotAlg 4 ≠ 0) := by
  refine ⟨?_, ?_, ?_, ?_, ?_, ?_, ?_, ?_, ?_, ?_, ?_, ?_, ?_, ?_, ?_, ?_, ?_, ?_, ?_, ?_, ?_, ?_, ?_, ?_, ?_, ?_, ?_, ?_, ?_, ?_,
    ?_, ?_, ?_, ?_⟩ <;>
    decide +kernel

/-- States and operands at which the hypotheses of `Obligations.PartnerPortRows` hold together, clause by clause. -/
theorem witness_PartnerPortRows :
    ((pt { reads := [rd false] : Ptn }).ptn.reads = [rd false]) ∧
    ((pt { reads := [rd false] : Ptn }).readLanded (rd false) = true) ∧
    ((rd false).stateOnly = false) ∧
    ((pt { reads := [rd true] : Ptn }).ptn.reads = [rd true]) ∧
    ((pt { reads := [rd true] : Ptn }).readLanded (rd true) = true) ∧
    ((rd true).stateOnly = true) ∧
    (rdFly.ptn.reads = [rd false]) ∧
    (rdFly.readLanded (rd false) = false) ∧
    (mkFly.body = Body.mark (mq 9) (some true)) ∧
    ((mq 9).dest % 4 = 0) ∧
    ((mq 9).dest + 4 ≤ 524288) ∧
    ((mkWait 9).ptn.marks = [mq 9]) ∧
    ((mq 9).mark = true) ∧
    ((mkWait 9).markLanding = false) ∧
    ((mkWait 9).ptn.draining = false) ∧
    (((mkWait 9).ctx (mq 9).partner).hw < (mq 9).seq) ∧
    (((mkWait 9).ctx (mq 9).partner).ringYoung (mkWait 9).stroke = false) ∧
    ((mkWait 3).ptn.marks = [mq 3]) ∧
    ((mq 3).mark = true) ∧
    ((mkWait 3).markLanding = false) ∧
    ((mq 3).seq + 1024 ≤ ((mkWait 3).ctx (mq 3).partner).hw ∨ ((mkWait 3).ctx (mq 3).partner).known (mq 3).seq = true ∧ ((mkWait 3).ctx
      (mq 3).partner).inRing (mq 3).seq (mq 3).tag = false) ∧
    (mkLand.markLanding = true) ∧
    ((pt { bbAt := 10 : Ptn }).stroke < (pt { bbAt := 10 : Ptn }).ptn.bbAt) ∧
    ((jup (pt { bbPend := [(2, 0)] : Ptn })).jnt.up = true) ∧
    ((jup (pt { bbPend := [(2, 0)] : Ptn })).ptn.bbAt ≤ (jup (pt { bbPend := [(2, 0)] : Ptn })).stroke) ∧
    ((jup (pt { bbPend := [(2, 0)] : Ptn })).ptn.nextPend = some 2) ∧
    ((2, 0) ∈ s6.ptn.bbPend) ∧
    (2 = 2) ∧
    (1200000 < s6.stroke - 0) ∧
    ((jup (pt { draining := true : Ptn })).ptn.draining = true) ∧
    ((jup (pt { draining := true : Ptn })).ptn.bbPend = []) ∧
    ((jup (pt { draining := true : Ptn })).jnt.up = true) ∧
    ((pt { ckpt := [(2, 7)] : Ptn }).grants ks 0 Block.ptn 0 96 = true) := by
  refine ⟨?_, ?_, ?_, ?_, ?_, ?_, ?_, ?_, ?_, ?_, ?_, ?_, ?_, ?_, ?_, ?_, ?_, ?_, ?_, ?_, ?_, ?_, ?_, ?_, ?_, ?_, ?_, ?_, ?_, ?_,
    ?_, ?_, ?_⟩ <;>
    decide +kernel

/-- States and operands at which the hypotheses of `Obligations.EgressCoxRows` (part 1) hold together, clause by clause. -/
theorem witness_EgressCoxRows_1 :
    ((let __src := heR;
      { pair := __src.pair, cls := __src.cls, entry := __src.entry, bind := __src.bind, rerun := __src.rerun, launch := __src.launch, total := __src.total, keyfoot := __src.keyfoot, home := __src.home, first := __src.first, fencedBy := __src.fencedBy, units := __src.units, ended := __src.ended, img := __src.img, states := __src.states, lockHdr := __src.lockHdr, resv := __src.resv, verdict := __src.verdict, marked := __src.marked, plan := __src.plan, sigOk := __src.sigOk, frame := __src.frame, up := __src.up : Heat }).slot
      = none) ∧
    (heR.slot ≠ none) ∧
    (coLk.svc = 3) ∧
    (coHd.svc = 2) ∧
    ((let __src := heR;
      { pair := __src.pair, cls := 0, entry := __src.entry, bind := __src.bind, rerun := __src.rerun, launch := __src.launch, total := __src.total, slot := __src.slot, keyfoot := __src.keyfoot, home := __src.home, first := __src.first, fencedBy := __src.fencedBy, units := __src.units, ended := __src.ended, img := __src.img, states := __src.states, lockHdr := __src.lockHdr, resv := __src.resv, verdict := __src.verdict, marked := __src.marked, plan := __src.plan, sigOk := __src.sigOk, frame := __src.frame, up := __src.up : Heat }).slot
      ≠ none) ∧
    (z.svc < 2) ∧
    ((let __src := heR;
      { pair := __src.pair, cls := 0, entry := __src.entry, bind := __src.bind, rerun := __src.rerun, launch := __src.launch, total := __src.total, slot := __src.slot, keyfoot := __src.keyfoot, home := __src.home, first := __src.first, fencedBy := __src.fencedBy, units := __src.units, ended := __src.ended, img := __src.img, states := __src.states, lockHdr := __src.lockHdr, resv := __src.resv, verdict := __src.verdict, marked := __src.marked, plan := __src.plan, sigOk := __src.sigOk, frame := __src.frame, up := __src.up : Heat }).cls
      = 0) ∧
    ((coH heR).stagedPort (0) (0) heR.entry.tag = none) ∧
    ((coH heR).heatOn 0 0 = some heR) ∧
    ((let __src := coE { : PairMode } (0 : Word);
      { pending := __src.pending, regs := __src.regs, held := __src.held, mem := __src.mem, tags := __src.tags, badWords := __src.badWords, routes := __src.routes, sent := __src.sent, swNow := __src.swNow, sevg := __src.sevg, sevs := __src.sevs, stroke := 2399500, archOn := __src.archOn, ksCopy := __src.ksCopy, wall := __src.wall, acuBase := __src.acuBase, acuAttr := __src.acuAttr, acuBaseSh := __src.acuBaseSh, acuAttrSh := __src.acuAttrSh, acuEcc := __src.acuEcc, dual := __src.dual, mort := __src.mort, cox := __src.cox, plans := __src.plans, intake := __src.intake, audit := __src.audit, procs := __src.procs, pke := __src.pke, cluster := __src.cluster, hsh := __src.hsh, cip := __src.cip, ptn := __src.ptn, tim := __src.tim, aon := __src.aon, jnl := __src.jnl, sgm := __src.sgm, moverW := __src.moverW, moverE := __src.moverE, eth := __src.eth, fsp := __src.fsp, egress := __src.egress, pci := __src.pci, kst := __src.kst, jnt := __src.jnt, lcs := __src.lcs, dbg := __src.dbg, tmp := __src.tmp, flc := __src.flc, crd := __src.crd, sdh := __src.sdh, nfc := __src.nfc, pwr := __src.pwr, pairM := __src.pairM, ingress := __src.ingress, released := __src.released, evtHigh := __src.evtHigh, lock := __src.lock, lockBad := __src.lockBad, shLog := __src.shLog, heldW0 := __src.heldW0, late := __src.late, unitDue := __src.unitDue, sigs := __src.sigs, planFloor := __src.planFloor, dropping := __src.dropping, planWipe := __src.planWipe, free := __src.free, out := __src.out : State }).heatOn
      0 0 = some heR) ∧
    ((let __src := coE { : PairMode } (0 : Word);
      { pending := __src.pending, regs := __src.regs, held := __src.held, mem := __src.mem, tags := __src.tags, badWords := __src.badWords, routes := __src.routes, sent := __src.sent, swNow := __src.swNow, sevg := __src.sevg, sevs := __src.sevs, stroke := 2399500, archOn := __src.archOn, ksCopy := __src.ksCopy, wall := __src.wall, acuBase := __src.acuBase, acuAttr := __src.acuAttr, acuBaseSh := __src.acuBaseSh, acuAttrSh := __src.acuAttrSh, acuEcc := __src.acuEcc, dual := __src.dual, mort := __src.mort, cox := __src.cox, plans := __src.plans, intake := __src.intake, audit := __src.audit, procs := __src.procs, pke := __src.pke, cluster := __src.cluster, hsh := __src.hsh, cip := __src.cip, ptn := __src.ptn, tim := __src.tim, aon := __src.aon, jnl := __src.jnl, sgm := __src.sgm, moverW := __src.moverW, moverE := __src.moverE, eth := __src.eth, fsp := __src.fsp, egress := __src.egress, pci := __src.pci, kst := __src.kst, jnt := __src.jnt, lcs := __src.lcs, dbg := __src.dbg, tmp := __src.tmp, flc := __src.flc, crd := __src.crd, sdh := __src.sdh, nfc := __src.nfc, pwr := __src.pwr, pairM := __src.pairM, ingress := __src.ingress, released := __src.released, evtHigh := __src.evtHigh, lock := __src.lock, lockBad := __src.lockBad, shLog := __src.shLog, heldW0 := __src.heldW0, late := __src.late, unitDue := __src.unitDue, sigs := __src.sigs, planFloor := __src.planFloor, dropping := __src.dropping, planWipe := __src.planWipe, free := __src.free, out := __src.out : State }).stagedPort
      (0) (0) heR.entry.tag = some 64) ∧
    ((let __src := coE { : PairMode } (0 : Word);
      { pending := __src.pending, regs := __src.regs, held := __src.held, mem := __src.mem, tags := __src.tags, badWords := __src.badWords, routes := __src.routes, sent := __src.sent, swNow := __src.swNow, sevg := __src.sevg, sevs := __src.sevs, stroke := 2399500, archOn := __src.archOn, ksCopy := __src.ksCopy, wall := __src.wall, acuBase := __src.acuBase, acuAttr := __src.acuAttr, acuBaseSh := __src.acuBaseSh, acuAttrSh := __src.acuAttrSh, acuEcc := __src.acuEcc, dual := __src.dual, mort := __src.mort, cox := __src.cox, plans := __src.plans, intake := __src.intake, audit := __src.audit, procs := __src.procs, pke := __src.pke, cluster := __src.cluster, hsh := __src.hsh, cip := __src.cip, ptn := __src.ptn, tim := __src.tim, aon := __src.aon, jnl := __src.jnl, sgm := __src.sgm, moverW := __src.moverW, moverE := __src.moverE, eth := __src.eth, fsp := __src.fsp, egress := __src.egress, pci := __src.pci, kst := __src.kst, jnt := __src.jnt, lcs := __src.lcs, dbg := __src.dbg, tmp := __src.tmp, flc := __src.flc, crd := __src.crd, sdh := __src.sdh, nfc := __src.nfc, pwr := __src.pwr, pairM := __src.pairM, ingress := __src.ingress, released := __src.released, evtHigh := __src.evtHigh, lock := __src.lock, lockBad := __src.lockBad, shLog := __src.shLog, heldW0 := __src.heldW0, late := __src.late, unitDue := __src.unitDue, sigs := __src.sigs, planFloor := __src.planFloor, dropping := __src.dropping, planWipe := __src.planWipe, free := __src.free, out := __src.out : State }).stroke
      ≠ heR.launch + heR.total ∨ heR.cls = 0 ∨ heR.plan.telemetry = true) ∧
    ((coE { : PairMode } (0 : Word)).heatOn 0 0 = some heR) ∧
    ((coE { : PairMode } (0 : Word)).stagedPort (0) (0) heR.entry.tag = some 64) ∧
    ((coE { : PairMode } (0 : Word)).stroke = heR.launch + heR.total) ∧
    (heR.cls ≠ 0) ∧
    (heR.plan.telemetry = false) ∧
    (∀ (x : Nat × Nat × Nat), x ∈ (coE { : PairMode } (0 : Word)).pairM.held → x.snd.fst ≠ heR.entry.tag) ∧
    (false = false ∨ (coE { : PairMode } (0 : Word)).accepted (0) heR = false ∨ (coE { : PairMode } (0 : Word)).signalled 0 0 = true ∨
      heR.entry.tag ∈ (coE { : PairMode } (0 : Word)).released) ∧
    ((let __src := coE { : PairMode } (0 : Word);
      { pending := __src.pending, regs := __src.regs, held := __src.held, mem := __src.mem, tags := __src.tags, badWords := __src.badWords, routes := __src.routes, sent := __src.sent, swNow := __src.swNow, sevg := __src.sevg, sevs := __src.sevs, stroke := __src.stroke, archOn := __src.archOn, ksCopy := __src.ksCopy, wall := __src.wall, acuBase := __src.acuBase, acuAttr := __src.acuAttr, acuBaseSh := __src.acuBaseSh, acuAttrSh := __src.acuAttrSh, acuEcc := __src.acuEcc, dual := __src.dual, mort := __src.mort, cox := __src.cox, plans := __src.plans, intake := __src.intake, audit := __src.audit, procs := __src.procs, pke := __src.pke, cluster := __src.cluster, hsh := __src.hsh, cip := __src.cip, ptn := __src.ptn, tim := __src.tim, aon := __src.aon, jnl := __src.jnl, sgm := __src.sgm, moverW := __src.moverW, moverE := __src.moverE, eth := __src.eth, fsp := __src.fsp, egress := __src.egress, pci := __src.pci, kst := __src.kst, jnt := __src.jnt, lcs := __src.lcs, dbg := __src.dbg, tmp := __src.tmp, flc := __src.flc, crd := __src.crd, sdh := __src.sdh, nfc := __src.nfc, pwr := __src.pwr, pairM := __src.pairM, ingress := __src.ingress, released := __src.released, evtHigh := __src.evtHigh, lock := __src.lock, lockBad := __src.lockBad, shLog := __src.shLog, heldW0 := __src.heldW0, late := __src.late, unitDue := __src.unitDue, sigs := [(0, 0, 8)], planFloor := __src.planFloor, dropping := __src.dropping, planWipe := __src.planWipe, free := __src.free, out := __src.out : State }).heatOn
      0 0 = some heR) ∧
    ((let __src := coE { : PairMode } (0 : Word);
      { pending := __src.pending, regs := __src.regs, held := __src.held, mem := __src.mem, tags := __src.tags, badWords := __src.badWords, routes := __src.routes, sent := __src.sent, swNow := __src.swNow, sevg := __src.sevg, sevs := __src.sevs, stroke := __src.stroke, archOn := __src.archOn, ksCopy := __src.ksCopy, wall := __src.wall, acuBase := __src.acuBase, acuAttr := __src.acuAttr, acuBaseSh := __src.acuBaseSh, acuAttrSh := __src.acuAttrSh, acuEcc := __src.acuEcc, dual := __src.dual, mort := __src.mort, cox := __src.cox, plans := __src.plans, intake := __src.intake, audit := __src.audit, procs := __src.procs, pke := __src.pke, cluster := __src.cluster, hsh := __src.hsh, cip := __src.cip, ptn := __src.ptn, tim := __src.tim, aon := __src.aon, jnl := __src.jnl, sgm := __src.sgm, moverW := __src.moverW, moverE := __src.moverE, eth := __src.eth, fsp := __src.fsp, egress := __src.egress, pci := __src.pci, kst := __src.kst, jnt := __src.jnt, lcs := __src.lcs, dbg := __src.dbg, tmp := __src.tmp, flc := __src.flc, crd := __src.crd, sdh := __src.sdh, nfc := __src.nfc, pwr := __src.pwr, pairM := __src.pairM, ingress := __src.ingress, released := __src.released, evtHigh := __src.evtHigh, lock := __src.lock, lockBad := __src.lockBad, shLog := __src.shLog, heldW0 := __src.heldW0, late := __src.late, unitDue := __src.unitDue, sigs := [(0, 0, 8)], planFloor := __src.planFloor, dropping := __src.dropping, planWipe := __src.planWipe, free := __src.free, out := __src.out : State }).stagedPort
      (0) (0) heR.entry.tag = some 64) ∧
    ((let __src := coE { : PairMode } (0 : Word);
      { pending := __src.pending, regs := __src.regs, held := __src.held, mem := __src.mem, tags := __src.tags, badWords := __src.badWords, routes := __src.routes, sent := __src.sent, swNow := __src.swNow, sevg := __src.sevg, sevs := __src.sevs, stroke := __src.stroke, archOn := __src.archOn, ksCopy := __src.ksCopy, wall := __src.wall, acuBase := __src.acuBase, acuAttr := __src.acuAttr, acuBaseSh := __src.acuBaseSh, acuAttrSh := __src.acuAttrSh, acuEcc := __src.acuEcc, dual := __src.dual, mort := __src.mort, cox := __src.cox, plans := __src.plans, intake := __src.intake, audit := __src.audit, procs := __src.procs, pke := __src.pke, cluster := __src.cluster, hsh := __src.hsh, cip := __src.cip, ptn := __src.ptn, tim := __src.tim, aon := __src.aon, jnl := __src.jnl, sgm := __src.sgm, moverW := __src.moverW, moverE := __src.moverE, eth := __src.eth, fsp := __src.fsp, egress := __src.egress, pci := __src.pci, kst := __src.kst, jnt := __src.jnt, lcs := __src.lcs, dbg := __src.dbg, tmp := __src.tmp, flc := __src.flc, crd := __src.crd, sdh := __src.sdh, nfc := __src.nfc, pwr := __src.pwr, pairM := __src.pairM, ingress := __src.ingress, released := __src.released, evtHigh := __src.evtHigh, lock := __src.lock, lockBad := __src.lockBad, shLog := __src.shLog, heldW0 := __src.heldW0, late := __src.late, unitDue := __src.unitDue, sigs := [(0, 0, 8)], planFloor := __src.planFloor, dropping := __src.dropping, planWipe := __src.planWipe, free := __src.free, out := __src.out : State }).stroke
      = heR.launch + heR.total) ∧
    (∀ (x : Nat × Nat × Nat), x ∈ (let __src := coE { : PairMode } (0 : Word);
      { pending := __src.pending, regs := __src.regs, held := __src.held, mem := __src.mem, tags := __src.tags, badWords := __src.badWords, routes := __src.routes, sent := __src.sent, swNow := __src.swNow, sevg := __src.sevg, sevs := __src.sevs, stroke := __src.stroke, archOn := __src.archOn, ksCopy := __src.ksCopy, wall := __src.wall, acuBase := __src.acuBase, acuAttr := __src.acuAttr, acuBaseSh := __src.acuBaseSh, acuAttrSh := __src.acuAttrSh, acuEcc := __src.acuEcc, dual := __src.dual, mort := __src.mort, cox := __src.cox, plans := __src.plans, intake := __src.intake, audit := __src.audit, procs := __src.procs, pke := __src.pke, cluster := __src.cluster, hsh := __src.hsh, cip := __src.cip, ptn := __src.ptn, tim := __src.tim, aon := __src.aon, jnl := __src.jnl, sgm := __src.sgm, moverW := __src.moverW, moverE := __src.moverE, eth := __src.eth, fsp := __src.fsp, egress := __src.egress, pci := __src.pci, kst := __src.kst, jnt := __src.jnt, lcs := __src.lcs, dbg := __src.dbg, tmp := __src.tmp, flc := __src.flc, crd := __src.crd, sdh := __src.sdh, nfc := __src.nfc, pwr := __src.pwr, pairM := __src.pairM, ingress := __src.ingress, released := __src.released, evtHigh := __src.evtHigh, lock := __src.lock, lockBad := __src.lockBad, shLog := __src.shLog, heldW0 := __src.heldW0, late := __src.late, unitDue := __src.unitDue, sigs := [(0, 0, 8)], planFloor := __src.planFloor, dropping := __src.dropping, planWipe := __src.planWipe, free := __src.free, out := __src.out : State }).pairM.held
      → x.snd.fst ≠ heR.entry.tag) ∧
    (true = false ∨ (let __src := coE { : PairMode } (0 : Word);
      { pending := __src.pending, regs := __src.regs, held := __src.held, mem := __src.mem, tags := __src.tags, badWords := __src.badWords, routes := __src.routes, sent := __src.sent, swNow := __src.swNow, sevg := __src.sevg, sevs := __src.sevs, stroke := __src.stroke, archOn := __src.archOn, ksCopy := __src.ksCopy, wall := __src.wall, acuBase := __src.acuBase, acuAttr := __src.acuAttr, acuBaseSh := __src.acuBaseSh, acuAttrSh := __src.acuAttrSh, acuEcc := __src.acuEcc, dual := __src.dual, mort := __src.mort, cox := __src.cox, plans := __src.plans, intake := __src.intake, audit := __src.audit, procs := __src.procs, pke := __src.pke, cluster := __src.cluster, hsh := __src.hsh, cip := __src.cip, ptn := __src.ptn, tim := __src.tim, aon := __src.aon, jnl := __src.jnl, sgm := __src.sgm, moverW := __src.moverW, moverE := __src.moverE, eth := __src.eth, fsp := __src.fsp, egress := __src.egress, pci := __src.pci, kst := __src.kst, jnt := __src.jnt, lcs := __src.lcs, dbg := __src.dbg, tmp := __src.tmp, flc := __src.flc, crd := __src.crd, sdh := __src.sdh, nfc := __src.nfc, pwr := __src.pwr, pairM := __src.pairM, ingress := __src.ingress, released := __src.released, evtHigh := __src.evtHigh, lock := __src.lock, lockBad := __src.lockBad, shLog := __src.shLog, heldW0 := __src.heldW0, late := __src.late, unitDue := __src.unitDue, sigs := [(0, 0, 8)], planFloor := __src.planFloor, dropping := __src.dropping, planWipe := __src.planWipe, free := __src.free, out := __src.out : State }).accepted
      (0) heR = false ∨ (let __src := coE { : PairMode } (0 : Word);
      { pending := __src.pending, regs := __src.regs, held := __src.held, mem := __src.mem, tags := __src.tags, badWords := __src.badWords, routes := __src.routes, sent := __src.sent, swNow := __src.swNow, sevg := __src.sevg, sevs := __src.sevs, stroke := __src.stroke, archOn := __src.archOn, ksCopy := __src.ksCopy, wall := __src.wall, acuBase := __src.acuBase, acuAttr := __src.acuAttr, acuBaseSh := __src.acuBaseSh, acuAttrSh := __src.acuAttrSh, acuEcc := __src.acuEcc, dual := __src.dual, mort := __src.mort, cox := __src.cox, plans := __src.plans, intake := __src.intake, audit := __src.audit, procs := __src.procs, pke := __src.pke, cluster := __src.cluster, hsh := __src.hsh, cip := __src.cip, ptn := __src.ptn, tim := __src.tim, aon := __src.aon, jnl := __src.jnl, sgm := __src.sgm, moverW := __src.moverW, moverE := __src.moverE, eth := __src.eth, fsp := __src.fsp, egress := __src.egress, pci := __src.pci, kst := __src.kst, jnt := __src.jnt, lcs := __src.lcs, dbg := __src.dbg, tmp := __src.tmp, flc := __src.flc, crd := __src.crd, sdh := __src.sdh, nfc := __src.nfc, pwr := __src.pwr, pairM := __src.pairM, ingress := __src.ingress, released := __src.released, evtHigh := __src.evtHigh, lock := __src.lock, lockBad := __src.lockBad, shLog := __src.shLog, heldW0 := __src.heldW0, late := __src.late, unitDue := __src.unitDue, sigs := [(0, 0, 8)], planFloor := __src.planFloor, dropping := __src.dropping, planWipe := __src.planWipe, free := __src.free, out := __src.out : State }).signalled
      0 0 = true ∨ heR.entry.tag ∈ (let __src := coE { : PairMode } (0 : Word);
      { pending := __src.pending, regs := __src.regs, held := __src.held, mem := __src.mem, tags := __src.tags, badWords := __src.badWords, routes := __src.routes, sent := __src.sent, swNow := __src.swNow, sevg := __src.sevg, sevs := __src.sevs, stroke := __src.stroke, archOn := __src.archOn, ksCopy := __src.ksCopy, wall := __src.wall, acuBase := __src.acuBase, acuAttr := __src.acuAttr, acuBaseSh := __src.acuBaseSh, acuAttrSh := __src.acuAttrSh, acuEcc := __src.acuEcc, dual := __src.dual, mort := __src.mort, cox := __src.cox, plans := __src.plans, intake := __src.intake, audit := __src.audit, procs := __src.procs, pke := __src.pke, cluster := __src.cluster, hsh := __src.hsh, cip := __src.cip, ptn := __src.ptn, tim := __src.tim, aon := __src.aon, jnl := __src.jnl, sgm := __src.sgm, moverW := __src.moverW, moverE := __src.moverE, eth := __src.eth, fsp := __src.fsp, egress := __src.egress, pci := __src.pci, kst := __src.kst, jnt := __src.jnt, lcs := __src.lcs, dbg := __src.dbg, tmp := __src.tmp, flc := __src.flc, crd := __src.crd, sdh := __src.sdh, nfc := __src.nfc, pwr := __src.pwr, pairM := __src.pairM, ingress := __src.ingress, released := __src.released, evtHigh := __src.evtHigh, lock := __src.lock, lockBad := __src.lockBad, shLog := __src.shLog, heldW0 := __src.heldW0, late := __src.late, unitDue := __src.unitDue, sigs := [(0, 0, 8)], planFloor := __src.planFloor, dropping := __src.dropping, planWipe := __src.planWipe, free := __src.free, out := __src.out : State }).released) ∧
    (heR.frame.isSome = true) ∧
    ((coE { : PairMode } (0 : Word)).accepted (0) heR = true) ∧
    ((coE { : PairMode } (0 : Word)).signalled 0 0 = false) ∧
    (¬heR.entry.tag ∈ (coE { : PairMode } (0 : Word)).released) ∧
    ((coE { : PairMode } (0 : Word)).pairGate heR.entry.tag = PairGate.now) ∧
    ((coE paE (1 : Word)).heatOn 0 0 = some heR) ∧
    ((coE paE (1 : Word)).stagedPort (0) (0) heR.entry.tag = some 64) ∧
    ((coE paE (1 : Word)).stroke = heR.launch + heR.total) ∧
    (∀ (x : Nat × Nat × Nat), x ∈ (coE paE (1 : Word)).pairM.held → x.snd.fst ≠ heR.entry.tag) ∧
    ((coE paE (1 : Word)).accepted (0) heR = true) ∧
    ((coE paE (1 : Word)).signalled 0 0 = false) ∧
    (¬heR.entry.tag ∈ (coE paE (1 : Word)).released) ∧
    ((coE paE (1 : Word)).pairGate heR.entry.tag = PairGate.later) ∧
    ((coE { : PairMode } (1 : Word)).heatOn 0 0 = some heR) ∧
    ((coE { : PairMode } (1 : Word)).stagedPort (0) (0) heR.entry.tag = some 64) ∧
    ((coE { : PairMode } (1 : Word)).stroke = heR.launch + heR.total) ∧
    (∀ (x : Nat × Nat × Nat), x ∈ (coE { : PairMode } (1 : Word)).pairM.held → x.snd.fst ≠ heR.entry.tag) ∧
    ((coE { : PairMode } (1 : Word)).accepted (0) heR = true) ∧
    ((coE { : PairMode } (1 : Word)).signalled 0 0 = false) ∧
    (¬heR.entry.tag ∈ (coE { : PairMode } (1 : Word)).released) ∧
    ((coE { : PairMode } (1 : Word)).pairGate heR.entry.tag = PairGate.drop) := by
  refine ⟨?_, ?_, ?_, ?_, ?_, ?_, ?_, ?_, ?_, ?_, ?_, ?_, ?_, ?_, ?_, ?_, ?_, ?_, ?_, ?_, ?_, ?_, ?_, ?_, ?_, ?_, ?_, ?_, ?_, ?_,
    ?_, ?_, ?_, ?_, ?_, ?_, ?_, ?_, ?_, ?_, ?_, ?_, ?_, ?_, ?_⟩ <;>
    decide +kernel

/-- States and operands at which the hypotheses of `Obligations.LaunchRows` hold together, clause by clause. -/
theorem witness_LaunchRows :
    (coIn.ingress = [v1]) ∧
    (coIn.pwr.warn = none) ∧
    (v1.stroke + 240 ≤ coIn.stroke) ∧
    (coIn.svc ≠ 0) ∧
    (coIn.legacyCourse (if 1024 ≤ v1.cls then v1.cls else v1.hClass) = none) ∧
    (coIn.place (coIn.mapEntry v1) = some 0) ∧
    (coIn.planOf (coIn.mapEntry v1).cls = some plan1) ∧
    (coIn.inSet (coIn.mapEntry v1) = true) ∧
    (∃ k, k < plan1.qdepth ∧ ¬k ∈ coIn.queueUsed (0) (coIn.mapEntry v1).cls) ∧
    ((let __src := coIn;
      { pending := __src.pending, regs := __src.regs, held := __src.held, mem := __src.mem, tags := __src.tags, badWords := __src.badWords, routes := __src.routes, sent := __src.sent, swNow := __src.swNow, sevg := __src.sevg, sevs := __src.sevs, stroke := 100, archOn := __src.archOn, ksCopy := __src.ksCopy, wall := __src.wall, acuBase := __src.acuBase, acuAttr := __src.acuAttr, acuBaseSh := __src.acuBaseSh, acuAttrSh := __src.acuAttrSh, acuEcc := __src.acuEcc, dual := __src.dual, mort := __src.mort, cox := __src.cox, plans := __src.plans, intake := __src.intake, audit := __src.audit, procs := __src.procs, pke := __src.pke, cluster := __src.cluster, hsh := __src.hsh, cip := __src.cip, ptn := __src.ptn, tim := __src.tim, aon := __src.aon, jnl := __src.jnl, sgm := __src.sgm, moverW := __src.moverW, moverE := __src.moverE, eth := __src.eth, fsp := __src.fsp, egress := __src.egress, pci := __src.pci, kst := __src.kst, jnt := __src.jnt, lcs := __src.lcs, dbg := __src.dbg, tmp := __src.tmp, flc := __src.flc, crd := __src.crd, sdh := __src.sdh, nfc := __src.nfc, pwr := __src.pwr, pairM := __src.pairM, ingress := __src.ingress, released := __src.released, evtHigh := __src.evtHigh, lock := __src.lock, lockBad := __src.lockBad, shLog := __src.shLog, heldW0 := __src.heldW0, late := __src.late, unitDue := __src.unitDue, sigs := __src.sigs, planFloor := __src.planFloor, dropping := __src.dropping, planWipe := __src.planWipe, free := __src.free, out := __src.out : State }).ingress
      = [v1]) ∧
    ((let __src := coIn;
      { pending := __src.pending, regs := __src.regs, held := __src.held, mem := __src.mem, tags := __src.tags, badWords := __src.badWords, routes := __src.routes, sent := __src.sent, swNow := __src.swNow, sevg := __src.sevg, sevs := __src.sevs, stroke := 100, archOn := __src.archOn, ksCopy := __src.ksCopy, wall := __src.wall, acuBase := __src.acuBase, acuAttr := __src.acuAttr, acuBaseSh := __src.acuBaseSh, acuAttrSh := __src.acuAttrSh, acuEcc := __src.acuEcc, dual := __src.dual, mort := __src.mort, cox := __src.cox, plans := __src.plans, intake := __src.intake, audit := __src.audit, procs := __src.procs, pke := __src.pke, cluster := __src.cluster, hsh := __src.hsh, cip := __src.cip, ptn := __src.ptn, tim := __src.tim, aon := __src.aon, jnl := __src.jnl, sgm := __src.sgm, moverW := __src.moverW, moverE := __src.moverE, eth := __src.eth, fsp := __src.fsp, egress := __src.egress, pci := __src.pci, kst := __src.kst, jnt := __src.jnt, lcs := __src.lcs, dbg := __src.dbg, tmp := __src.tmp, flc := __src.flc, crd := __src.crd, sdh := __src.sdh, nfc := __src.nfc, pwr := __src.pwr, pairM := __src.pairM, ingress := __src.ingress, released := __src.released, evtHigh := __src.evtHigh, lock := __src.lock, lockBad := __src.lockBad, shLog := __src.shLog, heldW0 := __src.heldW0, late := __src.late, unitDue := __src.unitDue, sigs := __src.sigs, planFloor := __src.planFloor, dropping := __src.dropping, planWipe := __src.planWipe, free := __src.free, out := __src.out : State }).stroke
      < v1.stroke + 240) ∧
    ((let __src := coStop;
      { pending := __src.pending, regs := __src.regs, held := __src.held, mem := __src.mem, tags := __src.tags, badWords := __src.badWords, routes := __src.routes, sent := __src.sent, swNow := __src.swNow, sevg := __src.sevg, sevs := __src.sevs, stroke := 300, archOn := __src.archOn, ksCopy := __src.ksCopy, wall := __src.wall, acuBase := __src.acuBase, acuAttr := __src.acuAttr, acuBaseSh := __src.acuBaseSh, acuAttrSh := __src.acuAttrSh, acuEcc := __src.acuEcc, dual := __src.dual, mort := __src.mort, cox := __src.cox, plans := __src.plans, intake := __src.intake, audit := __src.audit, procs := __src.procs, pke := __src.pke, cluster := __src.cluster, hsh := __src.hsh, cip := __src.cip, ptn := __src.ptn, tim := __src.tim, aon := __src.aon, jnl := __src.jnl, sgm := __src.sgm, moverW := __src.moverW, moverE := __src.moverE, eth := __src.eth, fsp := __src.fsp, egress := __src.egress, pci := __src.pci, kst := __src.kst, jnt := __src.jnt, lcs := __src.lcs, dbg := __src.dbg, tmp := __src.tmp, flc := __src.flc, crd := __src.crd, sdh := __src.sdh, nfc := __src.nfc, pwr := __src.pwr, pairM := __src.pairM, ingress := __src.ingress, released := __src.released, evtHigh := __src.evtHigh, lock := __src.lock, lockBad := __src.lockBad, shLog := __src.shLog, heldW0 := __src.heldW0, late := __src.late, unitDue := __src.unitDue, sigs := __src.sigs, planFloor := __src.planFloor, dropping := __src.dropping, planWipe := __src.planWipe, free := __src.free, out := __src.out : State }).ingress
      = [v1]) ∧
    ((let __src := coStop;
      { pending := __src.pending, regs := __src.regs, held := __src.held, mem := __src.mem, tags := __src.tags, badWords := __src.badWords, routes := __src.routes, sent := __src.sent, swNow := __src.swNow, sevg := __src.sevg, sevs := __src.sevs, stroke := 300, archOn := __src.archOn, ksCopy := __src.ksCopy, wall := __src.wall, acuBase := __src.acuBase, acuAttr := __src.acuAttr, acuBaseSh := __src.acuBaseSh, acuAttrSh := __src.acuAttrSh, acuEcc := __src.acuEcc, dual := __src.dual, mort := __src.mort, cox := __src.cox, plans := __src.plans, intake := __src.intake, audit := __src.audit, procs := __src.procs, pke := __src.pke, cluster := __src.cluster, hsh := __src.hsh, cip := __src.cip, ptn := __src.ptn, tim := __src.tim, aon := __src.aon, jnl := __src.jnl, sgm := __src.sgm, moverW := __src.moverW, moverE := __src.moverE, eth := __src.eth, fsp := __src.fsp, egress := __src.egress, pci := __src.pci, kst := __src.kst, jnt := __src.jnt, lcs := __src.lcs, dbg := __src.dbg, tmp := __src.tmp, flc := __src.flc, crd := __src.crd, sdh := __src.sdh, nfc := __src.nfc, pwr := __src.pwr, pairM := __src.pairM, ingress := __src.ingress, released := __src.released, evtHigh := __src.evtHigh, lock := __src.lock, lockBad := __src.lockBad, shLog := __src.shLog, heldW0 := __src.heldW0, late := __src.late, unitDue := __src.unitDue, sigs := __src.sigs, planFloor := __src.planFloor, dropping := __src.dropping, planWipe := __src.planWipe, free := __src.free, out := __src.out : State }).pwr.warn
      = none) ∧
    (v1.stroke + 240 ≤ (let __src := coStop;
      { pending := __src.pending, regs := __src.regs, held := __src.held, mem := __src.mem, tags := __src.tags, badWords := __src.badWords, routes := __src.routes, sent := __src.sent, swNow := __src.swNow, sevg := __src.sevg, sevs := __src.sevs, stroke := 300, archOn := __src.archOn, ksCopy := __src.ksCopy, wall := __src.wall, acuBase := __src.acuBase, acuAttr := __src.acuAttr, acuBaseSh := __src.acuBaseSh, acuAttrSh := __src.acuAttrSh, acuEcc := __src.acuEcc, dual := __src.dual, mort := __src.mort, cox := __src.cox, plans := __src.plans, intake := __src.intake, audit := __src.audit, procs := __src.procs, pke := __src.pke, cluster := __src.cluster, hsh := __src.hsh, cip := __src.cip, ptn := __src.ptn, tim := __src.tim, aon := __src.aon, jnl := __src.jnl, sgm := __src.sgm, moverW := __src.moverW, moverE := __src.moverE, eth := __src.eth, fsp := __src.fsp, egress := __src.egress, pci := __src.pci, kst := __src.kst, jnt := __src.jnt, lcs := __src.lcs, dbg := __src.dbg, tmp := __src.tmp, flc := __src.flc, crd := __src.crd, sdh := __src.sdh, nfc := __src.nfc, pwr := __src.pwr, pairM := __src.pairM, ingress := __src.ingress, released := __src.released, evtHigh := __src.evtHigh, lock := __src.lock, lockBad := __src.lockBad, shLog := __src.shLog, heldW0 := __src.heldW0, late := __src.late, unitDue := __src.unitDue, sigs := __src.sigs, planFloor := __src.planFloor, dropping := __src.dropping, planWipe := __src.planWipe, free := __src.free, out := __src.out : State }).stroke) ∧
    ((let __src := coStop;
      { pending := __src.pending, regs := __src.regs, held := __src.held, mem := __src.mem, tags := __src.tags, badWords := __src.badWords, routes := __src.routes, sent := __src.sent, swNow := __src.swNow, sevg := __src.sevg, sevs := __src.sevs, stroke := 300, archOn := __src.archOn, ksCopy := __src.ksCopy, wall := __src.wall, acuBase := __src.acuBase, acuAttr := __src.acuAttr, acuBaseSh := __src.acuBaseSh, acuAttrSh := __src.acuAttrSh, acuEcc := __src.acuEcc, dual := __src.dual, mort := __src.mort, cox := __src.cox, plans := __src.plans, intake := __src.intake, audit := __src.audit, procs := __src.procs, pke := __src.pke, cluster := __src.cluster, hsh := __src.hsh, cip := __src.cip, ptn := __src.ptn, tim := __src.tim, aon := __src.aon, jnl := __src.jnl, sgm := __src.sgm, moverW := __src.moverW, moverE := __src.moverE, eth := __src.eth, fsp := __src.fsp, egress := __src.egress, pci := __src.pci, kst := __src.kst, jnt := __src.jnt, lcs := __src.lcs, dbg := __src.dbg, tmp := __src.tmp, flc := __src.flc, crd := __src.crd, sdh := __src.sdh, nfc := __src.nfc, pwr := __src.pwr, pairM := __src.pairM, ingress := __src.ingress, released := __src.released, evtHigh := __src.evtHigh, lock := __src.lock, lockBad := __src.lockBad, shLog := __src.shLog, heldW0 := __src.heldW0, late := __src.late, unitDue := __src.unitDue, sigs := __src.sigs, planFloor := __src.planFloor, dropping := __src.dropping, planWipe := __src.planWipe, free := __src.free, out := __src.out : State }).svc
      = 0) ∧
    (v1.fn = none) ∧
    ((coL.cx 0).table[0]? = some clsE) ∧
    (clsE.kind = 1) ∧
    (coL.stroke % frameLen = clsE.off) ∧
    (coL.archOn = true) ∧
    (coL.launchable (0) clsE = some qe) ∧
    (coL.planOf clsE.cls = some plan1) ∧
    (coL.enabled Block.cox 0 = true) ∧
    (coL.closed 0 8 = false) ∧
    (coL.closed (0) clsE.pair = false) ∧
    (coL.pairFree (0) clsE.pair = true) ∧
    (coL.bindingOk (plan1.bindings.getD clsE.bind []) = true) ∧
    (coB.archOn = true) ∧
    (coB.stroke % frameLen = 0) ∧
    (∀ (c' : Nat), c' < 16 → fld (coB.reg Block.cox c' 64) 0 2 = (coB.cx c').role) ∧
    (coB.pci.commit = true) := by
  refine ⟨?_, ?_, ?_, ?_, ?_, ?_, ?_, ?_, ?_, ?_, ?_, ?_, ?_, ?_, ?_, ?_, ?_, ?_, ?_, ?_, ?_, ?_, ?_, ?_, ?_, ?_, ?_, ?_, ?_, ?_,
    ?_⟩ <;>
    decide +kernel

/-- States and operands at which the hypotheses of `Obligations.HeatEndRows` hold together, clause by clause. -/
theorem witness_HeatEndRows :
    ((tl { : Proc }).canTransfer (ProcId.tile (0 : Fin 16) (0 : Fin 16)) = true) ∧
    (((tl { : Proc }).proc (ProcId.tile (0 : Fin 16) (0 : Fin 16))).sched = false) ∧
    (((tl { : Proc }).cx 0).role ≠ 2 ∨ 0 % 2 = 1) ∧
    (coLeg.canTransfer (ProcId.tile (0 : Fin 16) (0 : Fin 16)) = true) ∧
    ((coLeg.proc (ProcId.tile (0 : Fin 16) (0 : Fin 16))).sched = false) ∧
    ((coLeg.cx 0).role = 2) ∧
    (0 % 2 = 0) ∧
    ((coLeg.cx 0).legacyBusy = [(0 / 2, qe)]) ∧
    ((coH he).canTransfer (ProcId.tile (0 : Fin 16) (1 : Fin 16)) = true) ∧
    (((coH he).proc (ProcId.tile (0 : Fin 16) (1 : Fin 16))).sched = true) ∧
    ((ProcId.tile (0 : Fin 16) (1 : Fin 16)).sends = false) ∧
    ((coH he).canTransfer (ProcId.tile (0 : Fin 16) (0 : Fin 16)) = true) ∧
    (((coH he).proc (ProcId.tile (0 : Fin 16) (0 : Fin 16))).sched = true) ∧
    ((ProcId.tile (0 : Fin 16) (0 : Fin 16)).sends = true) ∧
    (List.find? (fun y => decide (y.pair = 0 / 2) && !y.ended) ((coH he).cx 0).heats = some he) ∧
    ((coH he).stroke + 1 ≠ he.launch + he.total) ∧
    ((coH heLast).canTransfer (ProcId.tile (0 : Fin 16) (0 : Fin 16)) = true) ∧
    (((coH heLast).proc (ProcId.tile (0 : Fin 16) (0 : Fin 16))).sched = true) ∧
    (List.find? (fun y => decide (y.pair = 0 / 2) && !y.ended) ((coH heLast).cx 0).heats = some heLast) ∧
    ((coH heLast).stroke + 1 = heLast.launch + heLast.total) ∧
    ((coH he).heatOn 0 0 = some he) ∧
    (he.rerun = false) ∧
    (he.home = 0) ∧
    (((coH he).cx 0).role ≠ 2) ∧
    ((coH he).lateOn 0 0 = false) ∧
    (coLate.heatOn 0 0 = some he) ∧
    ((coLate.cx 0).role ≠ 2) ∧
    ((AbortCause.lateUnit, 12, 3) ∈ [(AbortCause.lateUnit, 12, 3), (AbortCause.occMismatch, 13, 4)]) ∧
    (AbortCause.lateUnit = AbortCause.lateUnit → coLate.lateOn 0 0 = true) ∧
    ((AbortCause.occMismatch, 13, 4) ∈ [(AbortCause.lateUnit, 12, 3), (AbortCause.occMismatch, 13, 4)]) ∧
    (AbortCause.occMismatch = AbortCause.lateUnit → (coH he).lateOn 0 0 = true) ∧
    (2 < 16) ∧
    (2 ≠ eccUncorr) ∧
    (((coW wt).cx 0).table[0]? = some sprE) ∧
    (sprE.kind = 2) ∧
    ((coW wt).stroke % frameLen = sprE.off) ∧
    ((coW wt).archOn = true) ∧
    ((coW wt).enabled Block.cox sprE.scourse = true) ∧
    ((coW wt).closed 0 8 = false) ∧
    ((s2.cx 0).waiting = [v3]) ∧
    (v3.detect + 240000 ≤ s2.stroke) ∧
    (v3.heat.slot = none) := by
  refine ⟨?_, ?_, ?_, ?_, ?_, ?_, ?_, ?_, ?_, ?_, ?_, ?_, ?_, ?_, ?_, ?_, ?_, ?_, ?_, ?_, ?_, ?_, ?_, ?_, ?_, ?_, ?_, ?_, ?_, ?_,
    ?_, ?_, ?_, ?_, ?_, ?_, ?_, ?_, ?_, ?_, ?_, ?_⟩ <;>
    decide +kernel

/-- States and operands at which the hypotheses of `Obligations.EgressCoxRows` (part 2) hold together, clause by clause. -/
theorem witness_EgressCoxRows_2 :
    (z.grants ks 1 Block.cox 0 80 = true) ∧
    (bit (z.reg Block.cox 0 72) 10 = (z.cx 0).active) ∧
    (ftS.grants ks 1 Block.cox 0 80 = true) ∧
    (bit (ftS.reg Block.cox 0 72) 10 ≠ (ftS.cx 0).active) ∧
    (z.grants ks 0 Block.cox 0 80 = true) ∧
    (z.grants ks 1 Block.mort 0 120 = true) ∧
    (bit (z.reg Block.mort 0 112) 15 = (z.cx (fld (z.reg Block.mort 0 112) 11 4)).active) ∧
    (reS.grants ks 1 Block.mort 0 120 = true) ∧
    (bit (reS.reg Block.mort 0 112) 15 ≠ (reS.cx (fld (reS.reg Block.mort 0 112) 11 4)).active) ∧
    (z.grants ks 0 Block.mort 0 120 = true) ∧
    (z.grants ks 1 Block.cox 0 116 = true) ∧
    (fenced0.grants ks 1 Block.cox 0 108 = true) ∧
    (bit (24 : Word) 4 = true) ∧
    ((fenced0.cx 0).ptest = none) ∧
    (fenced0.pfence 0 8 = true ∨ bit (24 : Word) 3 = false ∧ fenced0.pfence (0) (fld (24 : Word) 0 3) = true) ∧
    (((co { ptest := some ([1], false) : Cox }).cx 0).ptest = some ([1], false)) ∧
    (1 < 8) ∧
    ((s4.cx 0).swap = some (0, [0])) ∧
    (0 ∈ [0]) ∧
    (0 + 300 ≤ s4.stroke / frameLen) := by
  refine ⟨?_, ?_, ?_, ?_, ?_, ?_, ?_, ?_, ?_, ?_, ?_, ?_, ?_, ?_, ?_, ?_, ?_, ?_, ?_, ?_⟩ <;>
    decide +kernel

/-- States and operands at which the hypotheses of `Obligations.SecureTimeRows` hold together, clause by clause. -/
theorem witness_SecureTimeRows :
    (z.grants ks 1 Block.tim 0 80 = true) ∧
    ((z.tim.slew + BitVec.toInt (0 : Word) * ↑usUnits).natAbs ≤ fld (z.reg Block.tim 0 76) 0 20 * 1000 * usUnits) ∧
    ((have __src := z.tim;
      { now := __src.now, valid := z.tim.valid || z.tim.rtcCont || z.tim.stepped, slew := z.tim.slew + BitVec.toInt (0 : Word) * ↑usUnits, slewing := decide (z.tim.slew + BitVec.toInt (0 : Word) * ↑usUnits ≠ (0 : Int)), rtcCont := __src.rtcCont, stepped := __src.stepped, lastDisc := z.secNow : Tim }).valid
      = z.tim.valid) ∧
    (fld (z.reg Block.tim 0 76) 0 20 * 1000 * usUnits < (z.tim.slew + BitVec.toInt (2147483647 : Word) * ↑usUnits).natAbs) ∧
    (z.tim.slew = (0 : Int)) ∧
    ((jup z).jnt.up = true) ∧
    (s7.tim.valid = true) ∧
    (s7.tim.lastDisc + BitVec.toNat (s7.reg Block.tim 0 72) * 1000000 ≤ s7.secNow) := by
  refine ⟨?_, ?_, ?_, ?_, ?_, ?_, ?_, ?_⟩ <;>
    decide +kernel

end Sys2Proof.Tests.Heats

namespace Sys2Proof.Tests.PortsAndFlash

set_option Elab.async false

def ef (ok : Bool) : EthFrame := { dst := 0, src := 5, vids := [], len := 100, redSeq := none, fcsOk := ok, content := .envL2 pl1 }
where pl1 : List Byte := [1, 1, 0, 0, 9, 0, 3, 0, 0xA, 0xB, 0xC]
def epl : List Byte := [1, 1, 0, 0, 9, 0, 3, 0, 0xA, 0xB, 0xC]
/-- Port 8 enabled with link, Layer 2 envelopes and untagged frames taken. -/
def et (x : Eth) : State := (({ z with eth := [(8, { x with link := true })], stroke := 9 }).setReg .eth 8 8 1).setReg .eth 8 0x40 0xC0
def rk1 : RasmKey := ⟨false, 5, 0, 9⟩
def ras : State := { et { rasm := [⟨rk1, 2, [(0, [1])], 0⟩], dup := [(5, 6, 0), (5, 7, 0)] } with wall := 1200 * 400000 }
def hsr : State := (z.setReg .eth 8 8 1).setReg .eth 8 0x40 0x20
def upl : State := (et {}).setReg .eth 8 0x78 0x8008
def etx : State := { et {} with egress := [(8, [{ tag := 7, partner := 2, released := true, bytes := [1, 2] }])], released := [7] }
def ptp : State := (et { ptpBusy := true, count := 1 }).setReg .tim 0 0x5C 0x100
def ptp0 : State := (et {}).setReg .tim 0 0x5C 0x100
def ses (x : Sess) : State := { (z.setReg .eth 8 0xD0 3) with eth := [(8, { sess := [(3, x)] })], wall := 1200 * 20000000 }
def iec (st : Nat) : Sess := { data1 := 0x30000000, st := st, sent := 1, recv := 1 }
def plain (st : Nat) : Sess := { data1 := 0x20000000, st := st }
/-- Serial port 0 with the CFG word given. -/
def fs (c : Word) (x : Fsp) : State := { (z.setReg .fsp 0 0x100 c) with fsp := [(0, x)], wall := 1200 * 1000000, stroke := 1000 }
def ftGood : List Byte := [0x68, 6, 6, 0x68, 0x53, 4, 0, 0, 0, 9, 0x60, 0x16]
def ftBad : List Byte := [0x68, 6, 6, 0x68, 0x53, 4, 0, 0, 0, 9, 0x61, 0x16]
def cxF : Ctx := { partner := 2, enabled := true, cfg := [(0x2C0, 1), (0x2C4, 64), (0x2C6, 2), (0x2C8, 9), (0x2CC, 4)] }
def ftS (bs : List Byte) : State := { fs 0x83 { rx := bs } with ptn := { z.ptn with ctx := [(2, cxF)] } }
def legS : State := { (fs 0x3 { rx := [1, 2] }).setReg .cox 0 0x40 2 with cox := [(0, { role := 2, legacyMap := [1024 + 64] })] }
def eg1 : Egress := { tag := 7, partner := 2, released := true, bytes := [1, 2] }
def fsQ (c : Word) (x : Fsp) : State := { fs c x with egress := [(64, [eg1])], released := [7] }
def l101 (x : Fsp) : State := (fs 0x83 x).setReg .fsp 0 0x110 0x13
def msg (k : MsgKind) : Msg := { src := cx, sched := false, owner := 0, kind := k, addr := 0x30100000, size := 4, data := [int 5], stroke := 0, dest := 3, pc := 0 }
def mo (k : MsgKind) : State := { z with mort := { z.mort with msgs := [msg k] }, stroke := 100 }
def moL : State := { mo .read with mort := { (mo .read).mort with link := [(3, { lastUe := some 0 })] } }
def fenceL : State := z.setReg .mort 0 0x50 1
def pmS (x : PairMode) : State := { z with pairM := x, ptn := { z.ptn with ctx := [(2, { partner := 2, enabled := true, cfg := [(0x2C0, 1)] })] }, stroke := 20000, wall := 1200 * 1000000 }
def pmSet (x : PairMode) : State := (pmS x).setReg .sys 0 0x48 1
def sm (n q : Nat) : StreamMsg := { num := n, partner := 2, version := 1, mark := true, seq := q, tag := 7, set := 0, clear := 0, rate := 0, tm := 0, cls := 5 }
def fl (x : Flc) : State := { z with flc := x, wall := 1200 * 1000 }
def fc (c o : Nat) : FCmd := { code := c, off := o }
def v1 : Msg := {msg .read with addr := 2^40}
def s2 : State := { fenceL with mort := { z.mort with test := some 0 } }
def s3 : State := {z with lcs := {z.lcs with word := 0xFFFFFF}}
def s4 : State := (fl {run := some {fc 1 0x300000 with data := zeros 32}})
def v5 : FCmd := {fc 1 0x300000 with data := zeros 32}
def moA : State := { mo .read with archOn := true, pwr := { z.pwr with dom := [(8, .on)] } }
def moW : State := { mo .write with archOn := true, pwr := { z.pwr with dom := [(8, .on)] } }
/-- A telemetry heat of source 8 has built an upward envelope and ends in this stroke. -/
def heUp : Heat := { pair := 0, cls := 5, entry := { cls := 5, tag := 7, src := 8, stroke := 0, env := [] }, launch := 0, total := 9, ended := true, up := some [1] }
def etUp : State := { et {} with cox := [(0, { heats := [heUp] })] }
/-- Port 8 with the uplink queue given. -/
def etQ : State := et { uplink := [(8, [1])] }
/-- The message's beat has not crossed its links. -/
def moFly : State := { mo .read with mort := { (mo .read).mort with flights := [{ body := .req (msg .read), sched := false, owner := 0, route := [0], start := 0 }] } }
/-- A replay owns link direction 0 at the present stroke. -/
def moOwn : State := { z with mort := { z.mort with replays := [{ course := 0, start := 0, list := [⟨0, 0x400000⟩] }] } }
/-- The way back to the source of `msg`. -/
def moBack : List Nat := ((mo .read).route? (nodeOf (msg .read).addr) (masterNode cx)).getD []
def pmA : State := pmS { role := 2, eligible := true, expect := 4 }
def pmB : State := pmSet { role := 1, unacked := [(4, 7)], held := [(8, 7, 0)] }
/-- A device in SERVICE whose last configuration was not restored. -/
def svFail : State := { s3 with kst := { s3.kst with cfgFail := true } }
/-- A flash word is loaded for programming at 0x300000; the sector there is erased or not. -/
def flP (bs : List (Nat × Byte)) : State := fl { seq := 11, seqAddr := 0x300000, seqData := [1, 2, 3, 4, 5, 6, 7, 8], bytes := bs }
/-- A command runs. -/
def flRun (c : FCmd) : State := fl { run := some c }

/-- States and operands at which the hypotheses of `Obligations.SessionRows` hold together, clause by clause. -/
theorem witness_SessionRows :
    ((ses { : Sess }).grants ks 1 Block.eth 8 (212 + 4 * 0) = true) ∧
    ((((ses { : Sess }).ethP 8).ses (fld ((ses { : Sess }).reg Block.eth 8 208) 0 8)).en = false) ∧
    (0 = 0) ∧
    ((ses { : Sess }).grants ks 1 Block.eth 8 (212 + 4 * 1) = true) ∧
    (1 = 1) ∧
    (bit (268435456 : Word) 29 = false) ∧
    (bit (805306368 : Word) 29 = true) ∧
    (8 = (ses { : Sess }).ethMain 8) ∧
    ((ses { : Sess }).sisterPort 8 = false) ∧
    ((ses { : Sess }).fieldOff = false) ∧
    ((ses (iec 1)).grants ks 1 Block.eth 8 (212 + 4 * 0) = true) ∧
    ((((ses (iec 1)).ethP 8).ses (fld ((ses (iec 1)).reg Block.eth 8 208) 0 8)).en = true) ∧
    (0 ≠ 1) ∧
    ((((ses (iec 1)).ethP ((ses (iec 1)).ethMain 8)).ses 3).en = true) ∧
    ((((ses (iec 1)).ethP ((ses (iec 1)).ethMain 8)).ses 3).st = 1) ∧
    ((((ses (iec 1)).ethP ((ses (iec 1)).ethMain 8)).ses 3).iec = true) ∧
    ((((ses (iec 1)).ethP ((ses (iec 1)).ethMain 8)).ses 3).st ≠ 0) ∧
    ((((ses (iec 1)).ethP ((ses (iec 1)).ethMain 8)).ses 3).st ≠ 4) ∧
    ((ses (iec 2)).grants ks 1 Block.eth 8 (212 + 4 * 1) = true) ∧
    ((((ses (iec 2)).ethP 8).ses (fld ((ses (iec 2)).reg Block.eth 8 208) 0 8)).en = true) ∧
    (bit (0 : Word) 29 = false) ∧
    ((((ses (iec 2)).ethP ((ses (iec 2)).ethMain 8)).ses 3).en = true) ∧
    ((((ses (iec 2)).ethP ((ses (iec 2)).ethMain 8)).ses 3).st = 2) ∧
    ((((ses (iec 2)).ethP ((ses (iec 2)).ethMain 8)).ses 3).iec = true) ∧
    ((((ses (plain 1)).ethP ((ses (plain 1)).ethMain 8)).ses 3).en = true) ∧
    ((((ses (plain 1)).ethP ((ses (plain 1)).ethMain 8)).ses 3).st = 1) ∧
    ((((ses (plain 1)).ethP ((ses (plain 1)).ethMain 8)).ses 3).iec = false) ∧
    ((((ses (iec 3)).ethP ((ses (iec 3)).ethMain 8)).ses 3).en = true) ∧
    ((((ses (iec 3)).ethP ((ses (iec 3)).ethMain 8)).ses 3).st ≠ 0) ∧
    ((((ses (iec 3)).ethP ((ses (iec 3)).ethMain 8)).ses 3).st ≠ 4) ∧
    ((((ses (iec 3)).ethP ((ses (iec 3)).ethMain 8)).ses 3).st = 3) ∧
    ((((ses (iec 3)).ethP ((ses (iec 3)).ethMain 8)).ses 3).iec = true) ∧
    (0 < (((ses (iec 3)).ethP ((ses (iec 3)).ethMain 8)).ses 3).sent) ∧
    ((((ses (iec 3)).ethP ((ses (iec 3)).ethMain 8)).ses 3).t1At + 15000000 * usUnits ≤ (ses (iec 3)).wall) ∧
    (0 < (((ses (iec 3)).ethP ((ses (iec 3)).ethMain 8)).ses 3).recv) ∧
    ((((ses (iec 3)).ethP ((ses (iec 3)).ethMain 8)).ses 3).t2At + 10000000 * usUnits ≤ (ses (iec 3)).wall) ∧
    ((((ses (iec 3)).ethP ((ses (iec 3)).ethMain 8)).ses 3).t3At + 20000000 * usUnits ≤ (ses (iec 3)).wall) ∧
    ((((ses (plain 4)).ethP ((ses (plain 4)).ethMain 8)).ses 3).en = true) ∧
    ((((ses (plain 4)).ethP ((ses (plain 4)).ethMain 8)).ses 3).st = 4) ∧
    ((((ses (plain 4)).ethP ((ses (plain 4)).ethMain 8)).ses 3).since + 5000000 * usUnits ≤ (ses (plain 4)).wall) := by
  refine ⟨?_, ?_, ?_, ?_, ?_, ?_, ?_, ?_, ?_, ?_, ?_, ?_, ?_, ?_, ?_, ?_, ?_, ?_, ?_, ?_, ?_, ?_, ?_, ?_, ?_, ?_, ?_, ?_, ?_, ?_,
    ?_, ?_, ?_, ?_, ?_, ?_, ?_, ?_, ?_, ?_⟩ <;>
    decide +kernel

/-- States and operands at which the hypotheses of `Obligations.FlashRows` hold together, clause by clause. -/
theorem witness_FlashRows :
    ((fl { : Flc }).grants ks 1 Block.flc 0 64 = true) ∧
    ((fl { : Flc }).flc.seq = 0) ∧
    (fld (32421 : Word) 0 16 = 32421) ∧
    ((fl { seq := 1 : Flc }).grants ks 1 Block.flc 0 64 = true) ∧
    ((fl { seq := 1 : Flc }).flc.seq = 1) ∧
    (fld (7227 : Word) 0 16 = 7227) ∧
    (fld (32422 : Word) 0 16 ≠ 32421) ∧
    ((fl { seq := 1 : Flc }).flc.seq ≠ 0) ∧
    ((fl { seq := 1 : Flc }).flc.seqAt + 100 * usUnits ≤ (fl { seq := 1 : Flc }).wall) ∧
    ((fl { seq := 3, seqCode := 2 : Flc }).grants ks 1 Block.flc 0 72 = true) ∧
    ((fl { seq := 3, seqCode := 2 : Flc }).flc.seq = 3) ∧
    ((fl { seq := 3, seqCode := 2 : Flc }).pwr.warn = none ∧ (fl { seq := 3, seqCode := 2 : Flc }).flc.run = none ∧ (fl
      { seq := 3, seqCode := 2 : Flc }).flc.pend = none ∧ (fl { seq := 3, seqCode := 2 : Flc }).flc.susp = none) ∧
    ((fl { seq := 3, seqCode := 2 : Flc }).flc.seqCode = 2) ∧
    (fld (3145728 : Word) 0 25 % 8192 = 0) ∧
    ((fl { seq := 3, seqCode := 2 : Flc }).flProtected (fld (3145728 : Word) 0 25) = false) ∧
    (flBank (fld (3145728 : Word) 0 25) = 1 → (fl { seq := 3, seqCode := 2 : Flc }).logBusy = false) ∧
    ((fl { seq := 3, seqCode := 6 : Flc }).grants ks 1 Block.flc 0 72 = true) ∧
    ((fl { seq := 3, seqCode := 6 : Flc }).flc.seq = 3) ∧
    ((fl { seq := 3, seqCode := 6 : Flc }).pwr.warn = none ∧ (fl { seq := 3, seqCode := 6 : Flc }).flc.run = none ∧ (fl
      { seq := 3, seqCode := 6 : Flc }).flc.pend = none ∧ (fl { seq := 3, seqCode := 6 : Flc }).flc.susp = none) ∧
    ((fl { seq := 3, seqCode := 6 : Flc }).flc.seqCode = 6) ∧
    ((fl { seq := 3, seqCode := 7 : Flc }).grants ks 1 Block.flc 0 72 = true) ∧
    ((fl { seq := 3, seqCode := 7 : Flc }).flc.seq = 3) ∧
    ((fl { seq := 3, seqCode := 7 : Flc }).pwr.warn = none ∧ (fl { seq := 3, seqCode := 7 : Flc }).flc.run = none ∧ (fl
      { seq := 3, seqCode := 7 : Flc }).flc.pend = none ∧ (fl { seq := 3, seqCode := 7 : Flc }).flc.susp = none) ∧
    ((fl { seq := 3, seqCode := 7 : Flc }).flc.seqCode = 7) ∧
    (within (fld (3145728 : Word) 0 25) logBase 2097152 = false) ∧
    (within (fld (3145728 : Word) 0 25) (twinBase (fl { seq := 3, seqCode := 7 : Flc }).kst.twin) 2097152 = false) ∧
    ((if flBank (fld (3145728 : Word) 0 25) = 0 then (fl { seq := 3, seqCode := 7 : Flc }).flc.spares0 else (fl
      { seq := 3, seqCode := 7 : Flc }).flc.spares1) < 16) ∧
    (flBank (fld (3145728 : Word) 0 25) = 1 → (fl { seq := 3, seqCode := 7 : Flc }).logBusy = false) ∧
    ((flP []).grants ks 1 Block.flc 0 104 = true) ∧
    ((flP []).flc.seq = 11) ∧
    ((flP []).pwr.warn = none ∧ (flP []).flc.run = none ∧ (flP []).flc.pend = none ∧ (flP []).flc.susp = none) ∧
    ((flP []).flProtected (flP []).flc.seqAddr = false) ∧
    (flBank (flP []).flc.seqAddr = 1 → (flP []).logBusy = false) ∧
    (∀ (b : Byte), b ∈ (flP []).flBytes (flP []).flc.seqAddr 32 → b = (255 : Byte)) ∧
    ((flP [(3145728, (0 : Byte))]).grants ks 1 Block.flc 0 104 = true) ∧
    ((flP [(3145728, (0 : Byte))]).flc.seq = 11) ∧
    ((flP [(3145728, (0 : Byte))]).pwr.warn = none ∧ (flP [(3145728, (0 : Byte))]).flc.run = none ∧ (flP [(3145728, (0 : Byte))]).flc.pend
      = none ∧ (flP [(3145728, (0 : Byte))]).flc.susp = none) ∧
    ((flP [(3145728, (0 : Byte))]).flProtected (flP [(3145728, (0 : Byte))]).flc.seqAddr = false) ∧
    (flBank (flP [(3145728, (0 : Byte))]).flc.seqAddr = 1 → (flP [(3145728, (0 : Byte))]).logBusy = false) ∧
    (∃ b, b ∈ (flP [(3145728, (0 : Byte))]).flBytes (flP [(3145728, (0 : Byte))]).flc.seqAddr 32 ∧ b ≠ (255 : Byte)) ∧
    ((flRun (fc 2 3145728)).grants ks 1 Block.flc 0 68 = true) ∧
    ((flRun (fc 2 3145728)).flc.seq = 0) ∧
    ((flRun (fc 2 3145728)).pwr.warn = none) ∧
    ((flRun (fc 2 3145728)).flc.run = some (fc 2 3145728)) ∧
    ((fc 2 3145728).erase = true) ∧
    ((flRun (fc 2 3145728)).flc.suspCount < 64) ∧
    ((fl { : Flc }).grants ks 1 Block.flc 0 68 = true) ∧
    ((fl { : Flc }).pwr.warn = none) ∧
    ((fl { : Flc }).flc.run = none) ∧
    ((fl { susp := some (fc 2 3145728) : Flc }).grants ks 1 Block.flc 0 68 = true) ∧
    ((fl { susp := some (fc 2 3145728) : Flc }).flc.seq = 0) ∧
    ((fl { susp := some (fc 2 3145728) : Flc }).pwr.warn = none) ∧
    ((fl { susp := some (fc 2 3145728) : Flc }).flc.susp = some (fc 2 3145728)) ∧
    ((fl { susp := some (fc 2 3145728) : Flc }).flc.run = none) ∧
    ((flRun v5).flc.run = some v5) ∧
    (v5.code = 1) ∧
    (v5.data.length = 32) ∧
    (4 ≤ 64) ∧
    (flashWindow ≤ flashWindow / 4 * 4) ∧
    (flashWindow / 4 * 4 < flashWindow + 2 ^ 25) ∧
    (ks ≠ Master.debug) ∧
    ((fl { : Flc }).barred ks 0 (flashWindow / 4 * 4) 4 = none) ∧
    ((fl { : Flc }).bankBusy (flBank (flashWindow / 4 * 4 - flashWindow)) = false) ∧
    ((fl { : Flc }).flc.susp = none) ∧
    (¬(flashWindow / 4 * 4 - flashWindow) / 4 ∈ (fl { : Flc }).flc.bad) ∧
    ((flRun v5).barred ks 0 (flashWindow / 4 * 4) 4 = none) ∧
    ((flRun v5).bankBusy (flBank (flashWindow / 4 * 4 - flashWindow)) = true) ∧
    ((flRun (fc 2 0x300000)).flc.run = some (fc 2 0x300000)) ∧
    ((fc 2 0x300000).code = 2 ∨ (fc 2 0x300000).code = 3) := by
  refine ⟨?_, ?_, ?_, ?_, ?_, ?_, ?_, ?_, ?_, ?_, ?_, ?_, ?_, ?_, ?_, ?_, ?_, ?_, ?_, ?_, ?_, ?_, ?_, ?_, ?_, ?_, ?_, ?_, ?_, ?_,
    ?_, ?_, ?_, ?_, ?_, ?_, ?_, ?_, ?_, ?_, ?_, ?_, ?_, ?_, ?_, ?_, ?_, ?_, ?_, ?_, ?_, ?_, ?_, ?_, ?_, ?_, ?_, ?_, ?_, ?_, ?_,
    ?_, ?_, ?_, ?_, ?_, ?_, ?_, ?_⟩ <;>
    decide +kernel

/-- States and operands at which the hypotheses of `Obligations.PairModeRows` hold together, clause by clause. -/
theorem witness_PairModeRows :
    (pmA.pairM.role = 2) ∧
    ((sm 4 9).num = pmA.pairM.expect) ∧
    ((pmA.ctx ↑(sm 4 9).partner).version = (sm 4 9).version) ∧
    ((sm 4 9).mark = true) ∧
    (pmA.ptn.draining = false) ∧
    ((pmA.ctx ↑(sm 4 9).partner).hw < (sm 4 9).seq) ∧
    ((pmA.ctx ↑(sm 4 9).partner).ringYoung pmA.stroke = false) ∧
    (pmB.pairM.role = 1) ∧
    (pmB.pairM.held = [(8, 7, 0)]) ∧
    (pmB.pairM.unacked = [(4, 7)]) ∧
    (0 + 12000 ≤ pmB.stroke) ∧
    (pmA.pairM.lastMsg + 10 * usUnits ≤ pmA.wall) ∧
    (pmB.pairSet = true) ∧
    ((pmA.ctx 2).version ≠ 0) ∧
    (pmB.grants ks 1 Block.sys 0 80 = true) ∧
    (bit (1 : Word) 0 = true) ∧
    (pmB.pairM.kick + fld (pmB.reg Block.sys 0 72) 2 10 * usUnits ≤ pmB.wall) ∧
    ((pmS { role := 2 : PairMode }).pairM.role = 2) ∧
    ((pmS { role := 2 : PairMode }).pairM.eligible = false) ∧
    (pmA.pairM.eligible = true) ∧
    (z.grants ks 1 Block.sys 0 64 = true) ∧
    (bit (0 : Word) 8 = false) ∧
    (s3.grants ks 1 Block.sys 0 64 = true) ∧
    (bit (256 : Word) 8 = true) ∧
    (s3.lcState = 3 ∨ s3.lcState = 4) ∧
    (s3.fieldOff = false) ∧
    (s3.kst.cfgFail = false) ∧
    (s3.mirrorLost = false) ∧
    (svFail.grants ks 1 Block.sys 0 64 = true) ∧
    (svFail.lcState = 3 ∨ svFail.lcState = 4) ∧
    (svFail.fieldOff = true ∨ svFail.kst.cfgFail = true ∨ svFail.mirrorLost = true) ∧
    (z.lcState ≠ 3) ∧
    (z.lcState ≠ 4) := by
  refine ⟨?_, ?_, ?_, ?_, ?_, ?_, ?_, ?_, ?_, ?_, ?_, ?_, ?_, ?_, ?_, ?_, ?_, ?_, ?_, ?_, ?_, ?_, ?_, ?_, ?_, ?_, ?_, ?_, ?_, ?_,
    ?_, ?_, ?_⟩ <;>
    decide +kernel

/-- States and operands at which the hypotheses of `Obligations.MortarRows` hold together, clause by clause. -/
theorem witness_MortarRows :
    (2 ^ 40 ≤ v1.addr) ∧
    (msg MsgKind.read ∈ moFly.mort.msgs) ∧
    ((msg MsgKind.read).addr < 2 ^ 40) ∧
    (moFly.arrived (msg MsgKind.read) = false) ∧
    (msg MsgKind.write ∈ moW.mort.msgs) ∧
    (moW.arrived (msg MsgKind.write) = true) ∧
    (805306368 ≤ (msg MsgKind.write).addr) ∧
    ((msg MsgKind.write).addr < 822083584) ∧
    ((msg MsgKind.write).addr % 4 = 0) ∧
    (inPlane (msg MsgKind.write).addr = false) ∧
    (moW.targetAsleep (msg MsgKind.write).addr = false) ∧
    ((msg MsgKind.write).size = 4) ∧
    ((msg MsgKind.write).kind = MsgKind.write) ∧
    (msg MsgKind.read ∈ moA.mort.msgs) ∧
    (moA.arrived (msg MsgKind.read) = true) ∧
    (805306368 ≤ (msg MsgKind.read).addr) ∧
    ((msg MsgKind.read).addr < 822083584) ∧
    ((msg MsgKind.read).addr % 4 = 0) ∧
    (inPlane (msg MsgKind.read).addr = false) ∧
    (moA.targetAsleep (msg MsgKind.read).addr = false) ∧
    ((msg MsgKind.read).size = 4) ∧
    ((msg MsgKind.read).kind = MsgKind.read) ∧
    (moA.isBad (msg MsgKind.read).addr = false) ∧
    ((moA.word (msg MsgKind.read).addr).tag ≠ Tag.key) ∧
    ((msg MsgKind.read).src = Master.proc (ProcId.cox (0 : Fin 16))) ∧
    ((mo MsgKind.read).route? (nodeOf (msg MsgKind.read).addr) (masterNode (msg MsgKind.read).src) = some moBack) ∧
    (moOwn.owners (0) moOwn.stroke ≠ []) ∧
    (fenceL.grants ks 1 Block.mort 0 72 = true) ∧
    (bit (1 : Word) 0 = true) ∧
    (fenceL.linkFenced (fld (fenceL.reg Block.mort 0 64) 0 7) = true) ∧
    (fenceL.mort.test = none) ∧
    (s2.grants ks 1 Block.mort 0 72 = true) ∧
    (s2.mort.test.isSome = true) ∧
    ((mo MsgKind.read).grants ks 1 Block.mort 0 72 = true) ∧
    ((mo MsgKind.read).linkFenced (fld ((mo MsgKind.read).reg Block.mort 0 64) 0 7) = false) ∧
    (s2.mort.test = some 0) := by
  refine ⟨?_, ?_, ?_, ?_, ?_, ?_, ?_, ?_, ?_, ?_, ?_, ?_, ?_, ?_, ?_, ?_, ?_, ?_, ?_, ?_, ?_, ?_, ?_, ?_, ?_, ?_, ?_, ?_, ?_, ?_,
    ?_, ?_, ?_, ?_, ?_, ?_⟩ <;>
    decide +kernel

/-- States and operands at which the hypotheses of `Obligations.EthernetRows` hold together, clause by clause. -/
theorem witness_EthernetRows :
    ((et { : Eth }).enabled Block.eth 8 = true) ∧
    ((et { : Eth }).sisterPort 8 = false) ∧
    ((et { : Eth }).ethPair 8 = 0) ∧
    ((et { : Eth }).macFrameOk (8) (ef false) = false) ∧
    ((et { : Eth }).macFrameOk (8) (ef true) = true) ∧
    ((et { : Eth }).dstOk (8) (ef true) = true) ∧
    ((et { : Eth }).vlanOk (8) (ef true) = true) ∧
    ((ef true).content = EthContent.envL2 epl) ∧
    (bit ((et { : Eth }).reg Block.eth 8 64) 7 = true) ∧
    (epl.getD 0 (0 : Byte) = (1 : Byte)) ∧
    (epl.getD 1 (0 : Byte) = (1 : Byte)) ∧
    (epl.getD 2 (0 : Byte) = (0 : Byte)) ∧
    (epl.getD 3 (0 : Byte) = (0 : Byte)) ∧
    (1 ≤ leNat (List.take 2 (List.drop 6 epl))) ∧
    (leNat (List.take 2 (List.drop 6 epl)) ≤ 1456) ∧
    (8 + leNat (List.take 2 (List.drop 6 epl)) ≤ epl.length) ∧
    (((et { : Eth }).ethP 8).rasm = []) ∧
    ({ key := rk1, segs := 2, got := [(0, [(1 : Byte)])], since := 0 : Rasm } ∈ (ras.ethP (ras.ethMain 8)).rasm) ∧
    (rk1 = rk1) ∧
    (0 + 2000 * usUnits ≤ ras.wall) ∧
    (hsr.ethPair 8 ≠ 0) ∧
    (hsr.enabled Block.eth (hsr.ethMain 8) = true) ∧
    (z.upReady 8 = none) ∧
    (bit (z.uplinkReg 8) 15 = false) ∧
    (etUp.upReady 8 = some (0, 0)) ∧
    (List.find? (fun h => decide (h.pair = 0)) (etUp.cx 0).heats = some heUp) ∧
    (heUp.ended = true) ∧
    (heUp.up = some [(1 : Byte)]) ∧
    (heUp.entry.src = 8) ∧
    (etUp.stroke = heUp.launch + heUp.total) ∧
    (bit (etUp.uplinkReg 8) 15 = false) ∧
    (upl.upReady 8 = none) ∧
    (bit (upl.uplinkReg 8) 15 = true) ∧
    (bit (upl.uplinkReg 8) 7 = false) ∧
    (upl.ethReady (fld (upl.uplinkReg 8) 0 6) = true) ∧
    ((upl.ethP (upl.ethMain (fld (upl.uplinkReg 8) 0 6))).uplink.length < 16) ∧
    (etQ.ethPair 8 = 0) ∧
    (etQ.ethReady 8 = true) ∧
    (etQ.egHead 8 = none) ∧
    ((etQ.ethP 8).uplink = [(8, [(1 : Byte)])]) ∧
    (etx.ethPair 8 = 0) ∧
    (etx.ethReady 8 = true) ∧
    (etx.egHead 8 = some eg1) ∧
    (eg1.at_ + 3 ≤ etx.stroke) ∧
    (etx.bySession eg1.partner = false) ∧
    (((et { : Eth }).ethP 8).link = true) ∧
    (Instr.ethLinkDown (8 : Fin 64) ∈ [Instr.ethLinkDown (8 : Fin 64), Instr.serdesLaneFault (8 : Fin 64)]) ∧
    (bit (3 : Word) 1 = true) ∧
    (z.grants ks 1 Block.eth 8 8 = true) ∧
    (bit (1 : Word) 1 = false) ∧
    (z.enabled Block.eth 8 = false) ∧
    ((et { : Eth }).grants ks 1 Block.eth 8 8 = true) ∧
    (bit (0 : Word) 1 = false) ∧
    (bit (0 : Word) 0 = false) ∧
    (ptp0.grants ks 1 Block.eth 8 264 = true) ∧
    (fld (257 : Word) 0 8 ≠ 0) ∧
    (bit (257 : Word) 8 = true) ∧
    ((ptp0.ethP 8).ptpBusy = false) ∧
    ((ptp0.ethP 8).tsValid = false) ∧
    (ptp0.ptpPort 8 = true) ∧
    (ptp.grants ks 1 Block.eth 8 264 = true) ∧
    ((ptp.ethP 8).ptpBusy = true) ∧
    (ptp.ethPair 8 ≠ 2) ∧
    (ptp.grants ks 1 Block.eth 8 260 = true) ∧
    (bit (257 : Word) 0 = true) ∧
    (0 < (ptp.ethP 8).count) ∧
    (ptp.grants ks 0 Block.eth 8 272 = true) := by
  refine ⟨?_, ?_, ?_, ?_, ?_, ?_, ?_, ?_, ?_, ?_, ?_, ?_, ?_, ?_, ?_, ?_, ?_, ?_, ?_, ?_, ?_, ?_, ?_, ?_, ?_, ?_, ?_, ?_, ?_, ?_,
    ?_, ?_, ?_, ?_, ?_, ?_, ?_, ?_, ?_, ?_, ?_, ?_, ?_, ?_, ?_, ?_, ?_, ?_, ?_, ?_, ?_, ?_, ?_, ?_, ?_, ?_, ?_, ?_, ?_, ?_, ?_,
    ?_, ?_, ?_, ?_, ?_, ?_⟩ <;>
    decide +kernel

/-- States and operands at which the hypotheses of `Obligations.SerialRows` hold together, clause by clause. -/
theorem witness_SerialRows :
    ((fs (0 : Word) { : Fsp }).grants ks 1 Block.fsp (0 / 16) (fsReg 0 0) = true) ∧
    ((fs (0 : Word) { : Fsp }).fsEn 0 = false) ∧
    (fld (24 : Word) 1 2 = 3 ∨ fld (24 : Word) 3 2 = 3 ∨ 6 ≤ fld (24 : Word) 6 3) ∧
    (fld (24 : Word) 1 2 ≠ 3) ∧
    (fld (131 : Word) 1 2 ≠ 3) ∧
    (fld (131 : Word) 3 2 ≠ 3) ∧
    (fld (131 : Word) 6 3 < 6) ∧
    ((fs (3 : Word) { rx := [(1 : Byte), (2 : Byte)] : Fsp }).grants ks 1 Block.fsp (0 / 16) (fsReg 0 0) = true) ∧
    ((fs (3 : Word) { rx := [(1 : Byte), (2 : Byte)] : Fsp }).fsEn 0 = true) ∧
    (bit (131 : Word) 0 = true) ∧
    ((fs (3 : Word) { rx := [(1 : Byte), (2 : Byte)] : Fsp }).fsListens 0 = true) ∧
    ((fs (3 : Word) { rx := [(1 : Byte), (2 : Byte)] : Fsp }).fsDelim 0 = 0) ∧
    (fld ((fs (3 : Word) { rx := [(1 : Byte), (2 : Byte)] : Fsp }).fsR 0 0) 1 2 ≠ 2) ∧
    (((fs (3 : Word) { rx := [(1 : Byte), (2 : Byte)] : Fsp }).fsP 0).rxBad = false) ∧
    (((fs (3 : Word) { rx := [(1 : Byte), (2 : Byte)] : Fsp }).fsP 0).rx.length < 1024) ∧
    (¬0 / 16 ∈ (fs (3 : Word) { rx := [(1 : Byte), (2 : Byte)] : Fsp }).pwr.vioBad) ∧
    (((fs (3 : Word) { rx := [(1 : Byte), (2 : Byte)] : Fsp }).fsP 0).rx ≠ []) ∧
    (fld ((fs (3 : Word) { rx := [(1 : Byte), (2 : Byte)] : Fsp }).fsR 0 12) 0 8 * (fs (3 : Word)
      { rx := [(1 : Byte), (2 : Byte)] : Fsp }).fsChar 0 ≤ (fs (3 : Word) { rx := [(1 : Byte), (2 : Byte)] : Fsp }).wall - ((fs (3 :
      Word) { rx := [(1 : Byte), (2 : Byte)] : Fsp }).fsP 0).rxLast) ∧
    (bit (130 : Word) 0 = false) ∧
    ((ftS ftGood).fsEn 0 = true) ∧
    ((ftS ftGood).fsDelim 0 = 2) ∧
    ((ftS ftGood).l101 0 = false) ∧
    (ftLen ((ftS ftGood).fsP 0).rx = some 12) ∧
    (12 ≤ ((ftS ftGood).fsP 0).rx.length) ∧
    (ftOk ((ftS ftGood).fsP 0).rx = true) ∧
    ((ftS ftGood).fsMatch 0 ((ftS ftGood).fsP 0).rx = some (2, cxF)) ∧
    (cxF.enabled = true) ∧
    ((ftS ftBad).fsEn 0 = true) ∧
    ((ftS ftBad).fsDelim 0 = 2) ∧
    ((ftS ftBad).l101 0 = false) ∧
    (ftLen ((ftS ftBad).fsP 0).rx = some 12) ∧
    (12 ≤ ((ftS ftBad).fsP 0).rx.length) ∧
    (ftOk ((ftS ftBad).fsP 0).rx = false) ∧
    (legS.fsEn 0 = true) ∧
    (legS.fsDelim 0 = 0) ∧
    ((legS.fsP 0).rx ≠ []) ∧
    (fld (legS.fsR 0 12) 0 8 * legS.fsChar 0 ≤ legS.wall - (legS.fsP 0).rxLast) ∧
    ((legS.legacyCourse (1024 + 64 + 0)).isSome = true) ∧
    ((fsQ (3 : Word) { : Fsp }).fsEn 0 = true) ∧
    ((fsQ (3 : Word) { : Fsp }).fsNext 0 = some (FsTx.frame eg1)) ∧
    ((fsQ (3 : Word) { : Fsp }).fsFull 0 = false) ∧
    (((fsQ (3 : Word) { : Fsp }).fsP 0).phase = FsPhase.idle) ∧
    ((fsQ (3 : Word) { : Fsp }).fsIdleOk 0 = true) ∧
    (((fsQ (3 : Word) { : Fsp }).fsP 0).rx = []) ∧
    ((match FsTx.frame eg1 with | FsTx.frame e => max e.at_ ((fsQ (3 : Word) { : Fsp }).fsP 0).ready + 144 | _ => ((fsQ (3 : Word)
      { : Fsp }).fsP 0).ready + 144) ≤ (fsQ (3 : Word) { : Fsp }).stroke) ∧
    (((fsQ (3 : Word) { phase := FsPhase.lead, tx := some (FsTx.frame eg1) : Fsp }).fsP 0).phase = FsPhase.lead) ∧
    (((fsQ (3 : Word) { phase := FsPhase.lead, tx := some (FsTx.frame eg1) : Fsp }).fsP 0).since + fld ((fsQ (3 : Word)
      { phase := FsPhase.lead, tx := some (FsTx.frame eg1) : Fsp }).fsR 0 8) 0 8 * (fsQ (3 : Word)
      { phase := FsPhase.lead, tx := some (FsTx.frame eg1) : Fsp }).fsBit 0 ≤ (fsQ (3 : Word)
      { phase := FsPhase.lead, tx := some (FsTx.frame eg1) : Fsp }).wall) ∧
    (((fsQ (1027 : Word) { phase := FsPhase.sending, tx := some (FsTx.frame eg1) : Fsp }).fsP 0).phase = FsPhase.sending) ∧
    (((fsQ (1027 : Word) { phase := FsPhase.sending, tx := some (FsTx.frame eg1) : Fsp }).fsP 0).tx = some (FsTx.frame eg1)) ∧
    ((fsQ (1027 : Word) { phase := FsPhase.sending, tx := some (FsTx.frame eg1) : Fsp }).fsFull 0 = false) ∧
    (bit ((fsQ (1027 : Word) { phase := FsPhase.sending, tx := some (FsTx.frame eg1) : Fsp }).fsR 0 0) 10 = true) ∧
    ([(5 : Byte)] ≠ (fsQ (1027 : Word) { phase := FsPhase.sending, tx := some (FsTx.frame eg1) : Fsp }).fsBytes 0 (FsTx.frame eg1)) ∧
    (((fsQ (1027 : Word) { phase := FsPhase.lag : Fsp }).fsP 0).phase = FsPhase.lag) ∧
    (((fsQ (1027 : Word) { phase := FsPhase.lag : Fsp }).fsP 0).since + fld ((fsQ (1027 : Word) { phase := FsPhase.lag : Fsp }).fsR 0
      8) 8 8 * (fsQ (1027 : Word) { phase := FsPhase.lag : Fsp }).fsBit 0 ≤ (fsQ (1027 : Word) { phase := FsPhase.lag : Fsp }).wall) ∧
    ((fsQ (1027 : Word) { phase := FsPhase.lag : Fsp }).fsEn 0 = true) ∧
    (((fsQ (1027 : Word) { phase := FsPhase.turn : Fsp }).fsP 0).phase = FsPhase.turn) ∧
    (((fsQ (1027 : Word) { phase := FsPhase.turn : Fsp }).fsP 0).await = false) ∧
    (((fsQ (1027 : Word) { phase := FsPhase.turn : Fsp }).fsP 0).since + fld ((fsQ (1027 : Word) { phase := FsPhase.turn : Fsp }).fsR 0
      12) 8 16 * 1000 * usUnits ≤ (fsQ (1027 : Word) { phase := FsPhase.turn : Fsp }).wall) ∧
    (((l101 { phase := FsPhase.turn, tx := some (FsTx.linkReset 4), await := true : Fsp }).fsP 0).phase = FsPhase.turn) ∧
    (((l101 { phase := FsPhase.turn, tx := some (FsTx.linkReset 4), await := true : Fsp }).fsP 0).await = true) ∧
    (((l101 { phase := FsPhase.turn, tx := some (FsTx.linkReset 4), await := true : Fsp }).fsP 0).since + fld ((l101
      { phase := FsPhase.turn, tx := some (FsTx.linkReset 4), await := true : Fsp }).fsR 0 16) 5 16 * 1000 * usUnits ≤ (l101
      { phase := FsPhase.turn, tx := some (FsTx.linkReset 4), await := true : Fsp }).wall) ∧
    (((l101 { phase := FsPhase.turn, tx := some (FsTx.linkReset 4), await := true : Fsp }).fsP 0).tries < fld ((l101
      { phase := FsPhase.turn, tx := some (FsTx.linkReset 4), await := true : Fsp }).fsR 0 16) 0 3) := by
  refine ⟨?_, ?_, ?_, ?_, ?_, ?_, ?_, ?_, ?_, ?_, ?_, ?_, ?_, ?_, ?_, ?_, ?_, ?_, ?_, ?_, ?_, ?_, ?_, ?_, ?_, ?_, ?_, ?_, ?_, ?_,
    ?_, ?_, ?_, ?_, ?_, ?_, ?_, ?_, ?_, ?_, ?_, ?_, ?_, ?_, ?_, ?_, ?_, ?_, ?_, ?_, ?_, ?_, ?_, ?_, ?_, ?_, ?_, ?_, ?_, ?_, ?_, ?_⟩
    <;>
    decide +kernel

end Sys2Proof.Tests.PortsAndFlash

namespace Sys2Proof.Tests.PowerAndKeystone

set_option Elab.async false

def lc (n : Nat) : State := { z with lcs := { z.lcs with word := lcWord n, uid := 7, trim := true, tokDigest := (List.range 8).map fun i => (i, sha384 (zeros 16)) } }
def lcB (n : Nat) (x : Lcs → Lcs) : State := { lc n with lcs := x (lc n).lcs }
/-- A granted request for the digest given, with operator approvals. -/
def gr (s : State) (dig : List Byte) : State := { s with dual := { s.dual with req := [(0, { st := 0, kind := 2, granted := true, digest := dig, kinds := [2, 2], pwVal := 0 })] } }
def dm (d : Nat) (x : DomState) : State := { z with archOn := true, wall := 1200 * 10 ^ 6, pwr := { z.pwr with dom := [(d, x)] } }
def dmAuto (d : Nat) : State := (dm d .on).setReg .pwr 0 (0x54 + 4 * (d / 32)) (w32 (2 ^ (d % 32)))
def need (d : Nat) (x : DomState) : State := (dm d x).setReg .pwr 0 (0x5C + 4 * (d / 32)) (w32 (2 ^ (d % 32)))
def mp (s : State) : State := { s with aon := { s.aon with mainPower := true } }
def warnS : State := mp { z with pwr := { z.pwr with warn := some 0 }, wall := 1200 * 200 }
def crst : State := { z with wall := 1200 * 50, pwr := { z.pwr with courseRst := [(0, 0)] } }
def srv : State := z.setReg .sys 0 0x40 0x100
def cert (st : Nat) : List (Nat × Word) := [(0, 0x44424743), (1, w32 ((if st = 3 ∨ st = 4 then 2 else 1) + st * 256 + 0x3F0000)), (2, 7)]
def dbgS (n : Nat) (p : Bool) : State := { lc n with dbg := { z.dbg with pending := p, cert := cert n, chal := [0, 0, 0, 0] } }
def dbgR (r : BitVec 6) : State := { lc 4 with dbg := { z.dbg with rights := r } }
def bi (a b c : Bool) : BootInputs := ⟨a, b, c, c, none, none⟩
def bodyFF : List Byte := List.replicate 4096 0xFF
def hdr : List Byte := leBytes 4 0x4B534254 ++ leBytes 2 1 ++ leBytes 2 1 ++ leBytes 4 4096 ++ leBytes 4 ksSram ++ [BitVec.ofNat 8 (fld (pageCap .sys 0) 28 4)] ++ zeros 15 ++ sha384 bodyFF
def boot (n : Nat) : State := mp (lc n)
def bootI : State := { boot 4 with flc := { z.flc with bytes := (List.range 80).zip hdr } }
def ksRun (st : Bool) : State := { (mp z).setProc (.ks 0) { running := true, stopped := st } with wall := 1200 * 1000 * 100, regs := (z.setReg .kst 0 0x54 0x10001).regs }
def jn (x : Jnt) : State := { mp z with jnt := x, wall := 1200 * 1000 }
def jU (d : JDir) : State := jn { up := true, keyed := true, tx := d, rx := d }
/-- A sealed link frame of eight KEY words to the Arch die, under the root of no bytes. -/
def lf (typ f : Nat) : List Byte :=
  let j : Jnt := {}
  let h := jointHead typ 8 f 0 0
  let ct := gcmText (j.epochKey true 0) (jointIv true 0 f) ((List.replicate 8 (leBytes 6 (5 + 2 ^ 32 * Tag.key.toNat))).flatten)
  h ++ ct ++ gcmTag (j.epochKey true 0) (jointIv true 0 f) h ct
def s1 : State := (lcB 2 fun x => {x with tokens := [(0,0xFFFFFFFF)]})
def s2 : State := (lcB 1 fun x => {x with tokDigest := []})
def s3 : State := {(lc 1) with dbg := {z.dbg with rights := 0x10}}
def s4 : State := {(lc 5) with dbg := {z.dbg with rights := 0x20}}
def s5 : State := (lcB 4 fun x => {x with word := 5})
def s6 : State := (lcB 3 fun x => {x with busy := true})
def s7 : State := (lcB 3 fun x => {x with busy := true, target := some 0xFFFFFFFFFFFF})
def s8 : State := (mp (lcB 3 fun x => {x with resetAt := some 0}))
def s9 : State := ({(dbgR 4) with procs := ((dbgR 4).setProc (.tile 0 0) {sched := true}).procs})
def s10 : State := (mp (lcB 4 fun x => {x with word := 5}))
def s11 : State := {z with kst := {z.kst with trngOk := true}}
def s13 : State := { mp z with wall := 5, stroke := 4 }
def s14 : State := { dbgS 3 false with acuAttr := [(acuKey (Master.acu cx) 2 0, 0x3C0 ||| 40)] }
def s15 : State := { jn {} with archOn := true }
def s16 : State := { z with aon := {z.aon with mainPower := false}}
def jKeyed (r : Bool) : State := jU { rekey := r }
/-- The joint has keys and is down. -/
def jDown : State := { jn { keyed := true } with archOn := true }
def keyF : List Byte := lf 2 0

/-- States and operands at which the hypotheses of `Obligations.ResetRows` hold together, clause by clause. -/
theorem witness_ResetRows :
    ((mp z).aon.mainPower = true) ∧
    ((mp z).pwr.warn = none) ∧
    ((mp z).grants ks 1 Block.rst 0 72 = true) ∧
    (warnS.pwr.warn = some 0) ∧
    (0 + 150 * usUnits ≤ warnS.wall) ∧
    (warnS.lcs.target = none ∧ warnS.lcs.tokTarget = none ∧ warnS.flc.run = none) ∧
    (srv.grants ks 1 Block.rst 0 72 = true) ∧
    (srv.svc ≠ 0) ∧
    ((mp z).pfence (fld (0 : Word) 8 4) 8 = true ∨ (mp z).tablesEmpty (fld (0 : Word) 8 4) = true) ∧
    (List.find? (fun e => decide (e.fst = 0)) crst.pwr.courseRst = some (0, 0)) ∧
    (0 + 40 * usUnits ≤ crst.wall) ∧
    (s16.lcs.target = none ∧ s16.lcs.tokTarget = none ∧ s16.flc.run = none) ∧
    (s16.aon.mainPower = false) ∧
    ((mp z).lcs.target = none ∧ (mp z).lcs.tokTarget = none ∧ (mp z).flc.run = none) ∧
    (crst.grants ks 1 Block.rst 0 68 = true) ∧
    (bit (1 : Word) 0 = true) ∧
    ((mp z).svc = 0) ∧
    ((mp z).pwr.warn = none) := by
  refine ⟨?_, ?_, ?_, ?_, ?_, ?_, ?_, ?_, ?_, ?_, ?_, ?_, ?_, ?_, ?_, ?_, ?_, ?_⟩ <;>
    decide +kernel

/-- States and operands at which the hypotheses of `Obligations.LifeCycleRows` hold together, clause by clause. -/
theorem witness_LifeCycleRows :
    (Master.debug = Master.debug ∧ (lc 0).lcState = 15 ∨ (lc 0).grants Master.debug 1 Block.lcs 0 76 = true) ∧
    ((lc 0).lcs.busy = false) ∧
    ((lc 0).lcs.resetAt = none) ∧
    (Master.debug = Master.debug) ∧
    ((lc 0).lcState = 0) ∧
    ((lc 0).lcs.uid ≠ 0) ∧
    ((lc 0).lcs.trim = true) ∧
    (∀ (j : Nat), j < 8 → Sparse.get [] (lc 0).lcs.tokDigest j ≠ []) ∧
    ((lc 0).lcState = 0 ∨ (lc 0).lcState = 1 ∨ (lc 0).lcState = 2 ∨ (lc 0).lcState = 15 ∨ (lc 0).lcState = 5 ∧ (lc
      0).dbg.rights.getLsbD 5 = true) ∧
    (Master.debug = Master.debug ∧ s1.lcState = 15 ∨ s1.grants Master.debug 1 Block.lcs 0 76 = true) ∧
    (s1.lcs.busy = false) ∧
    (s1.lcs.resetAt = none) ∧
    (s1.lcState = 2) ∧
    (List.find? (fun j => decide (s1.token j = (4294967295 : BitVec 64))) (List.range 8) = some 0) ∧
    (Master.debug = Master.debug ∧ (lc 1).lcState = 15 ∨ (lc 1).grants Master.debug 1 Block.lcs 0 76 = true) ∧
    ((lc 1).lcs.busy = false) ∧
    ((lc 1).lcs.resetAt = none) ∧
    ((lc 1).lcState = 1) ∧
    ((lc 1).nextToken = some 0) ∧
    ((lc 1).lcs.fails < 3) ∧
    (sha384 ((lc 1).regBytes Block.lcs 0 80 4) = Sparse.get [] (lc 1).lcs.tokDigest 0) ∧
    (Master.debug = Master.debug ∧ s2.lcState = 15 ∨ s2.grants Master.debug 1 Block.lcs 0 76 = true) ∧
    (s2.lcs.busy = false) ∧
    (s2.lcs.resetAt = none) ∧
    (s2.lcState = 1) ∧
    (s2.nextToken = some 0) ∧
    (s2.lcs.fails < 3) ∧
    (sha384 (s2.regBytes Block.lcs 0 80 4) ≠ Sparse.get [] s2.lcs.tokDigest 0) ∧
    (Master.debug = Master.debug ∧ s3.lcState = 15 ∨ s3.grants Master.debug 1 Block.lcs 0 76 = true) ∧
    (s3.lcs.busy = false) ∧
    (s3.lcs.resetAt = none) ∧
    (s3.lcState = 1) ∧
    (s3.dbg.rights.getLsbD 4 = true) ∧
    (ks = Master.debug ∧ (gr (lc 3) ((lc 3).lcDigest 4)).lcState = 15 ∨ (gr (lc 3) ((lc 3).lcDigest 4)).grants ks 1 Block.lcs 0 76 =
      true) ∧
    ((gr (lc 3) ((lc 3).lcDigest 4)).lcs.busy = false) ∧
    ((gr (lc 3) ((lc 3).lcDigest 4)).lcs.resetAt = none) ∧
    (ks.isKs = true) ∧
    ((gr (lc 3) ((lc 3).lcDigest 4)).lcState = 3) ∧
    ((gr (lc 3) ((lc 3).lcDigest 4)).lcGrant 4 = true) ∧
    ((gr (lc 3) ((lc 3).lcDigest 4)).svc = 0) ∧
    ((gr (lc 3) ((lc 3).lcDigest 4)).lcState = 3 ∨ (gr (lc 3) ((lc 3).lcDigest 4)).lcState = 4) ∧
    ((gr (lc 3) ((lc 3).lcDigest 4)).lcState = 3 ∨ (gr (lc 3) ((lc 3).lcDigest 4)).lcState = 4 ∨ (gr (lc 3) ((lc 3).lcDigest
      4)).lcState = 5) ∧
    (ks = Master.debug ∧ (lc 3).lcState = 15 ∨ (lc 3).grants ks 1 Block.lcs 0 76 = true) ∧
    ((lc 3).lcs.busy = false) ∧
    ((lc 3).lcs.resetAt = none) ∧
    ((lc 3).lcState = 3) ∧
    ((lc 3).lcGrant 4 = false ∨ (lc 3).svc ≠ 0 ∨ true = false) ∧
    (ks = Master.debug ∧ (gr (lc 3) ((lc 3).lcDigest 5)).lcState = 15 ∨ (gr (lc 3) ((lc 3).lcDigest 5)).grants ks 1 Block.lcs 0 76 =
      true) ∧
    ((gr (lc 3) ((lc 3).lcDigest 5)).lcs.busy = false) ∧
    ((gr (lc 3) ((lc 3).lcDigest 5)).lcs.resetAt = none) ∧
    ((gr (lc 3) ((lc 3).lcDigest 5)).lcState = 3 ∨ (gr (lc 3) ((lc 3).lcDigest 5)).lcState = 4) ∧
    ((gr (lc 3) ((lc 3).lcDigest 5)).lcGrant 5 = true) ∧
    ((gr (lc 3) ((lc 3).lcDigest 5)).svc = 0) ∧
    (ks = Master.debug ∧ (gr (lc 4) ((lc 3).lcDigest 6)).lcState = 15 ∨ (gr (lc 4) ((lc 3).lcDigest 6)).grants ks 1 Block.lcs 0 76 =
      true) ∧
    ((gr (lc 4) ((lc 3).lcDigest 6)).lcs.busy = false) ∧
    ((gr (lc 4) ((lc 3).lcDigest 6)).lcs.resetAt = none) ∧
    ((gr (lc 4) ((lc 3).lcDigest 6)).lcState = 3 ∨ (gr (lc 4) ((lc 3).lcDigest 6)).lcState = 4 ∨ (gr (lc 4) ((lc 3).lcDigest
      6)).lcState = 5) ∧
    ((gr (lc 4) ((lc 3).lcDigest 6)).lcGrant 6 = true) ∧
    (ks = Master.debug ∧ (lc 6).lcState = 15 ∨ (lc 6).grants ks 1 Block.lcs 0 76 = true) ∧
    ((lc 6).lcs.busy = false) ∧
    ((lc 6).lcs.resetAt = none) ∧
    ((lc 6).lcState = 6) ∧
    (ks = Master.debug ∧ s6.lcState = 15 ∨ s6.grants ks 1 Block.lcs 0 76 = true) ∧
    (s6.lcs.busy = true ∨ s6.lcs.resetAt ≠ none) ∧
    (s6.lcs.busy = true) ∧
    (s6.lcs.since + s6.lcTime ≤ s6.wall) ∧
    (s6.lcs.target = none) ∧
    (s7.lcs.busy = true) ∧
    (s7.wall < s7.lcs.since + s7.lcTime) ∧
    (({ s7 with wall := 300000 } : State).lcs.since + ({ s7 with wall := 300000 } : State).lcTime ≤ ({ s7 with wall := 300000 } : State).wall) ∧
    (s7.lcs.target = some (281474976710655 : BitVec 64) ∨ s7.lcs.target = some (1152921504606846975 : BitVec 64)) ∧
    (s8.lcs.resetAt = some 0) ∧
    (0 ≤ s8.wall) ∧
    (s8.aon.mainPower = true) ∧
    (s8.pwr.warn = none) := by
  refine ⟨?_, ?_, ?_, ?_, ?_, ?_, ?_, ?_, ?_, ?_, ?_, ?_, ?_, ?_, ?_, ?_, ?_, ?_, ?_, ?_, ?_, ?_, ?_, ?_, ?_, ?_, ?_, ?_, ?_, ?_, ?_, ?_, ?_,
    ?_, ?_, ?_, ?_, ?_, ?_, ?_, ?_, ?_, ?_, ?_, ?_, ?_, ?_, ?_, ?_, ?_, ?_, ?_, ?_, ?_, ?_, ?_, ?_, ?_, ?_, ?_, ?_, ?_, ?_, ?_, ?_,
    ?_, ?_, ?_, ?_, ?_, ?_, ?_, ?_, ?_, ?_⟩ <;>
    decide +kernel

/-- States and operands at which the hypotheses of `Obligations.KeystoneRows` hold together, clause by clause. -/
theorem witness_KeystoneRows :
    (s10.aon.mainPower = true) ∧
    (s10.kst.resetAt = none) ∧
    (s10.kst.stage = 0) ∧
    ((s10.proc (ProcId.ks (0 : Fin 2))).running = false) ∧
    (s10.lcState = 15) ∧
    ((boot 4).aon.mainPower = true) ∧
    ((boot 4).kst.resetAt = none) ∧
    ((boot 4).kst.stage = 0) ∧
    (((boot 4).proc (ProcId.ks (0 : Fin 2))).running = false) ∧
    ((boot 4).lcState ≠ 15) ∧
    ((bi false true true).selfTestOk = false) ∧
    ((boot 2).aon.mainPower = true) ∧
    ((boot 2).kst.resetAt = none) ∧
    ((boot 2).kst.stage = 0) ∧
    (((boot 2).proc (ProcId.ks (0 : Fin 2))).running = false) ∧
    ((boot 2).lcState ≤ 2) ∧
    ((bi true true true).selfTestOk = true) ∧
    ((boot 6).aon.mainPower = true) ∧
    ((boot 6).kst.resetAt = none) ∧
    ((boot 6).kst.stage = 0) ∧
    (((boot 6).proc (ProcId.ks (0 : Fin 2))).running = false) ∧
    ((boot 6).lcState = 6) ∧
    ((boot 4).lcState = 3 ∨ (boot 4).lcState = 4) ∧
    ((bi true false true).selfTestOk = true) ∧
    ((bi true false true).helperOk = false) ∧
    (bit (2 : Word) 1 = true) ∧
    (z.grants ks 1 Block.kst 0 8 = true) ∧
    (bit (0 : Word) 1 = false) ∧
    (s11.grants ks 0 Block.kst 0 68 = true) ∧
    (s11.kst.trngOk = true) ∧
    (z.grants ks 0 Block.kst 0 68 = true) ∧
    (z.kst.trngOk = false) ∧
    (z.grants ks 1 Block.kst 0 88 = true) ∧
    (bit (1 : Word) 0 = true) ∧
    ((ksRun true).kst.resetAt = none) ∧
    (bit ((ksRun true).reg Block.kst 0 84) 16 = true) ∧
    ((ksRun true).kst.kick + fld ((ksRun true).reg Block.kst 0 84) 0 16 * msUnits ≤ (ksRun true).wall) ∧
    (((ksRun true).proc (ProcId.ks (0 : Fin 2))).running = true) ∧
    (((ksRun true).proc (ProcId.ks (0 : Fin 2))).stopped = true ∨ ((ksRun true).proc (ProcId.ks (1 : Fin 2))).stopped = true) := by
  refine ⟨?_, ?_, ?_, ?_, ?_, ?_, ?_, ?_, ?_, ?_, ?_, ?_, ?_, ?_, ?_, ?_, ?_, ?_, ?_, ?_, ?_, ?_, ?_, ?_, ?_, ?_, ?_, ?_, ?_, ?_,
    ?_, ?_, ?_, ?_, ?_, ?_, ?_, ?_, ?_⟩ <;>
    decide +kernel

/-- States and operands at which the hypotheses of `Obligations.DomainRows` hold together, clause by clause. -/
theorem witness_DomainRows :
    (7 ≤ 7) ∧
    (7 ≠ 28) ∧
    (7 ≠ 29) ∧
    (7 ≠ 35) ∧
    ((dmAuto 7).domState 7 = DomState.on) ∧
    ((dmAuto 7).domAuto 7 = true) ∧
    ((dmAuto 7).domNeed 7 = false) ∧
    ((dmAuto 7).domForce 7 = false) ∧
    ((dmAuto 7).domHeld 7 = true) ∧
    (7 ≤ 30) ∧
    (30 ≠ 28) ∧
    (30 ≠ 29) ∧
    (30 ≠ 35) ∧
    ((dmAuto 30).domState 30 = DomState.on) ∧
    ((dmAuto 30).domAuto 30 = true) ∧
    ((dmAuto 30).domNeed 30 = false) ∧
    ((dmAuto 30).domForce 30 = false) ∧
    ((dmAuto 30).domHeld 30 = true) ∧
    (30 = 30 ∨ 30 = 31) ∧
    (7 ≤ 8) ∧
    (8 ≠ 28) ∧
    (8 ≠ 35) ∧
    ((need 8 DomState.off).archOn = true) ∧
    ((need 8 DomState.off).domState 8 = DomState.off ∨ (need 8 DomState.off).domState 8 = DomState.selfRefresh) ∧
    ((need 8 DomState.off).domNeed 8 = true ∨ (need 8 DomState.off).domForce 8 = true) ∧
    (7 ≤ 9) ∧
    ((dm 9 DomState.waking).domState 9 = DomState.waking) ∧
    (Sparse.get 0 (dm 9 DomState.waking).pwr.wakeAt 9 + 2 * (dm 9 DomState.waking).wakeUs 9 * usUnits ≤ (dm 9 DomState.waking).wall) ∧
    (9 < 23) ∧
    ((dmAuto 7).grants ks 1 Block.pwr 0 100 = true) ∧
    (fld (29 : Word) 0 6 = 29 ∨ fld (29 : Word) 0 6 = 30 ∨ fld (29 : Word) 0 6 = 31) ∧
    ((dmAuto 7).domNeed (fld (29 : Word) 0 6) = false) ∧
    ((dmAuto 7).domForce (fld (29 : Word) 0 6) = false) ∧
    (bit ((dmAuto 7).reg Block.jnl 0 64) 0 = false) ∧
    ((need 8 DomState.off).grants ks 1 Block.pwr 0 100 = true) ∧
    (fld (5 : Word) 0 6 ≠ 29) ∧
    (fld (5 : Word) 0 6 ≠ 30) ∧
    (fld (5 : Word) 0 6 ≠ 31) := by
  refine ⟨?_, ?_, ?_, ?_, ?_, ?_, ?_, ?_, ?_, ?_, ?_, ?_, ?_, ?_, ?_, ?_, ?_, ?_, ?_, ?_, ?_, ?_, ?_, ?_, ?_, ?_, ?_, ?_, ?_, ?_,
    ?_, ?_, ?_, ?_, ?_, ?_, ?_, ?_⟩ <;>
    decide +kernel

/-- States and operands at which the hypotheses of `Obligations.DebugRows` hold together, clause by clause. -/
theorem witness_DebugRows :
    ((dbgS 3 false).grants ks 1 Block.dbg 0 80 = true) ∧
    ((dbgS 3 false).dbg.pending = false) ∧
    ((dbgS 3 false).lcState = 1 ∨ (dbgS 3 false).lcState = 3 ∨ (dbgS 3 false).lcState = 4 ∨ (dbgS 3 false).lcState = 5) ∧
    ((dbgS 3 true).grants ks 1 Block.dbg 0 80 = true) ∧
    ((dbgS 3 true).dbg.pending = true ∨ (dbgS 3 true).lcState ≠ 1 ∧ (dbgS 3 true).lcState ≠ 3 ∧ (dbgS 3 true).lcState ≠ 4 ∧ (dbgS 3
      true).lcState ≠ 5) ∧
    ((dbgS 3 false).grants ks 1 Block.dbg 0 84 = true) ∧
    (ks.isKs = true) ∧
    ((dbgS 3 true).grants ks 1 Block.dbg 0 84 = true) ∧
    ((dbgS 3 true).dbg.pending = true) ∧
    (bit (63 : Word) 8 = false) ∧
    ((dbgS 3 true).certOk = true) ∧
    (bit (319 : Word) 8 = true ∨ (dbgS 3 true).certOk = false) ∧
    ((dbgS 5 true).grants Master.debug 1 Block.dbg 0 84 = true) ∧
    (Master.isKs .debug = false) ∧
    (bit (2 : Word) 1 = true) ∧
    ((dbgS 3 false).grants ks 1 Block.dbg 0 8 = true) ∧
    (bit (0 : Word) 1 = false) ∧
    (ks = Master.debug ∨ ks.isKs = true) ∧
    (s14.grants cx 1 Block.dbg 0 8 = true) ∧
    (cx ≠ Master.debug) ∧
    (cx.isKs = false) ∧
    ((dbgR (4 : BitVec 6)).grants Master.debug 1 Block.dbg 0 88 = true) ∧
    (fld (0 : Word) 0 9 ≤ 256) ∧
    ((dbgR (4 : BitVec 6)).dbgRights.getLsbD (if fld (0 : Word) 0 9 = 256 then 3 else 2) = true) ∧
    ((dbgR (4 : BitVec 6)).haltRefused (fld (0 : Word) 0 9) = false) ∧
    (s9.grants Master.debug 1 Block.dbg 0 88 = true) ∧
    (s9.dbgRights.getLsbD (if fld (0 : Word) 0 9 = 256 then 3 else 2) = true) ∧
    (s9.haltRefused (fld (0 : Word) 0 9) = true) ∧
    ((dbgS 3 false).grants ks 1 Block.dbg 0 88 = true) ∧
    ((dbgS 3 false).dbgRights.getLsbD (if fld (0 : Word) 0 9 = 256 then 3 else 2) = false) ∧
    ((dbgS 3 false).dbgRights.getLsbD 3 = false) ∧
    ((dbgS 3 false).grants ks 1 Block.dbg 0 100 = true) := by
  refine ⟨?_, ?_, ?_, ?_, ?_, ?_, ?_, ?_, ?_, ?_, ?_, ?_, ?_, ?_, ?_, ?_, ?_, ?_, ?_, ?_, ?_, ?_, ?_, ?_, ?_, ?_, ?_, ?_, ?_, ?_,
    ?_, ?_⟩ <;>
    decide +kernel

/-- States and operands at which the hypotheses of `Obligations.JointRows` hold together, clause by clause. -/
theorem witness_JointRows :
    ((jn { : Jnt }).aon.mainPower = true) ∧
    ((jn { : Jnt }).jnt.up = false) ∧
    ((jn { : Jnt }).jnt.keyed = false) ∧
    ((jn { : Jnt }).lcState ≠ 6) ∧
    ((jKeyed false).jnt.up = true) ∧
    ((jKeyed false).jnt.keyed = true) ∧
    (1 ≤ 3) ∧
    (3 ≤ 5) ∧
    ([int (5 : Word)].length ≤ 64) ∧
    (((jKeyed false).jnt.dir true).rekey = false) ∧
    (((jKeyed false).jnt.dir true).next < 2 ^ 32) ∧
    ((jKeyed true).jnt.up = true) ∧
    ((jKeyed true).jnt.keyed = true) ∧
    (((jKeyed true).jnt.dir true).rekey = true ∨ 2 ^ 32 ≤ ((jKeyed true).jnt.dir true).next) ∧
    ((jU { : JDir }).jnt.up = true) ∧
    ((jU { : JDir }).jnt.lastRx + msUnits ≤ (jU { : JDir }).wall) ∧
    (jDown.jnt.up = false) ∧
    (jDown.jnt.keyed = true) ∧
    (bit (2 : Word) 1 = true) ∧
    ((jU { : JDir }).grants ks 1 Block.jnt 0 8 = true) ∧
    (bit (4 : Word) 1 = false) ∧
    ((jU { : JDir }).jnt.keyed = true) ∧
    (z.grants ks 1 Block.jnt 0 8 = true) ∧
    (z.jnt.keyed = false) := by
  refine ⟨?_, ?_, ?_, ?_, ?_, ?_, ?_, ?_, ?_, ?_, ?_, ?_, ?_, ?_, ?_, ?_, ?_, ?_, ?_, ?_, ?_, ?_, ?_, ?_⟩ <;>
    decide +kernel

/-- What the receiver makes of the frames of `lf`. -/
def fr (typ : Nat) : LinkFrame :=
  { typ := typ, fcnt := 0, epoch := 0, route := 0, words := List.replicate 8 ⟨5, Tag.key⟩, tagOk := true }
theorem frame_data : (jU {}).jnt.frameIn true (lf 1 0) = fr 1 := by decide +kernel
theorem frame_key : (jU {}).jnt.frameIn true keyF = fr 2 := by decide +kernel

/-- States and operands at which the hypotheses of `Obligations.JointRows` hold together, clause by clause. -/
theorem witness_JointRows_frame :
    ((jU { : JDir }).jnt.up = true) ∧
    ((jU { : JDir }).jnt.keyed = true) ∧
    (((jU { : JDir }).jnt.frameIn true (lf 1 0)).tagOk = true) ∧
    (((jU { : JDir }).jnt.frameIn true (lf 1 0)).epoch = ((jU { : JDir }).jnt.dir true).expect.fst) ∧
    (((jU { : JDir }).jnt.frameIn true (lf 1 0)).fcnt = ((jU { : JDir }).jnt.dir true).expect.snd) ∧
    (true = false ∨ ((jU { : JDir }).jnt.frameIn true (lf 1 0)).typ ≠ 2) := by
  rw [frame_data]
  refine ⟨?_, ?_, ?_, ?_, ?_, ?_⟩ <;>
    decide +kernel

/-- States and operands at which the hypotheses of `Obligations.JointRows` hold together, clause by clause. -/
theorem witness_JointRows_key :
    ((jU { : JDir }).jnt.up = true) ∧
    ((jU { : JDir }).jnt.keyed = true) ∧
    (true = true) ∧
    (((jU { : JDir }).jnt.frameIn true keyF).tagOk = true) ∧
    (((jU { : JDir }).jnt.frameIn true keyF).epoch = ((jU { : JDir }).jnt.dir true).expect.fst) ∧
    (((jU { : JDir }).jnt.frameIn true keyF).fcnt = ((jU { : JDir }).jnt.dir true).expect.snd) ∧
    (((jU { : JDir }).jnt.frameIn true keyF).typ = 2) ∧
    (((jU { : JDir }).jnt.frameIn true keyF).route = 0) ∧
    (((jU { : JDir }).jnt.frameIn true keyF).words.length = 8) ∧
    (∀ (w : TWord), w ∈ ((jU { : JDir }).jnt.frameIn true keyF).words → w.tag = Tag.key) := by
  rw [frame_key]
  refine ⟨?_, ?_, ?_, ?_, ?_, ?_, ?_, ?_, ?_, ?_⟩ <;>
    decide +kernel

/-- States and operands at which the hypotheses of `Obligations.JointRows` hold together, clause by clause. -/
theorem witness_JointRows_bad :
    ((jU { : JDir }).jnt.up = true) ∧
    ((jU { : JDir }).jnt.keyed = true) ∧
    (((jU { : JDir }).jnt.frameIn true []).tagOk = false ∨ ((jU { : JDir }).jnt.frameIn true []).epoch ≠ ((jU
      { : JDir }).jnt.dir true).expect.fst ∨ ((jU { : JDir }).jnt.frameIn true []).fcnt ≠ ((jU { : JDir }).jnt.dir
      true).expect.snd) ∧
    (((jU { : JDir }).jnt.frameIn true []).tagOk = false) := by
  refine ⟨?_, ?_, ?_, ?_⟩ <;>
    decide +kernel

end Sys2Proof.Tests.PowerAndKeystone

namespace Sys2Proof.Tests.CardsAndTags

set_option Elab.async false

def mp (s : State) : State := { s with aon := { s.aon with mainPower := true } }
def poff (s : State) : State := { s with aon := { s.aon with mainPower := false } }
def cd (x : Crd) : State := { (z.setReg .crd 0 0x100 0x00640007) with crd := [(0, x)], wall := 1200 * 1000 * 50 }
def cdLate (x : Crd) : State := { cd x with wall := 1200 * 1000 * 500 }
/-- An ATR offering T=1, with TA1 0x18, TA2 where the mode is specific, and a class indicator where one is given; its check byte last. -/
def atr (c : Option Nat) (sp : Bool) : List Byte :=
  let b : List Byte := [0x90, 0x18] ++ (if sp then [0x91, 0x01] else [0x81]) ++ (match c with | some x => [0x1F, BitVec.ofNat 8 x] | none => [0x01])
  [0x3B] ++ b ++ [b.foldl (· ^^^ ·) 0]
def sd (x : Sdh) : State := { (((z.setReg .sdh 0 0x48 0).setReg .sdh 0 0x50 0x01100000).setReg .sdh 0 0x4C 1) with sdh := x }
def nf (x : Nfc) : State := { (z.setReg .nfc 0 0x40 0x00640103) with nfc := x, wall := 1200 * 1000 * 50 }
def nfLate (x : Nfc) : State := { nf x with wall := 1200 * 1000 * 500 }
def bdg : BadgeInfo := ⟨true, 2, [1, 2, 3, 4]⟩
def tg (x : Nfc) : State := { z with nfc := x, wall := 1200 * 1000 * 600 * 20 }
def pwOk : Nfc := { pw := [(1, 0x55)], inForce := some 1 }
def tw (p : TearPoint) : TornWrite := ⟨50, [1, 2, 3], p⟩
def trec (x : Nfc) : State := (tg x).setReg .nfc 0 0x60 50
def pwG (a : Nat) : State := { z with dual := { z.dual with req := [(0, { kind := 2, granted := true, digest := z.pwDigest 0 a })] } }
/-- What a reader takes from `atr`. -/
def atrI (c : Option Nat) (sp : Bool) : AtrInfo :=
  { classes := c, ta1 := some 24, offersT1 := true, offersT0 := false, specific := if sp then some 1 else none, clockStop := false, guard := 0, wi := 10, ifsc := 32, bwi := 77, crc := false }
/-- An ATR whose specific mode is T=14, and what a reader takes from it. -/
def atr14 : List Byte := [0x3B, 0x80, 0x1E, 0x0E, 0x90]
def atrI14 : AtrInfo := { atrI none false with ta1 := none, offersT1 := false, specific := some 14 }

/-- States and operands at which the hypotheses of `Obligations.SdHostRows` hold together, clause by clause. -/
theorem witness_SdHostRows :
    ((sd { : Sdh }).grants ks 1 Block.sdh 0 72 = true) ∧
    ((sd { : Sdh }).sdh.busy = false) ∧
    ((sd { : Sdh }).sdh.busy = true ∨ (sd { : Sdh }).sdh.present = false ∨ bit (0 : Word) 8 = true ∧ (sd { : Sdh }).sdDmaOk
      (BitVec.toNat ((sd { : Sdh }).reg Block.sdh 0 80)) (512 * fld ((sd { : Sdh }).reg Block.sdh 0 76) 0 16) = false) ∧
    ((sd { : Sdh }).grants ks 1 Block.sdh 0 112 = true) ∧
    ((sd { : Sdh }).grants ks 1 Block.sdh 0 108 = true) ∧
    ((sd { : Sdh }).sdh.present = false) ∧
    ((sd { present := true : Sdh }).grants ks 1 Block.sdh 0 72 = true) ∧
    ((sd { present := true : Sdh }).sdh.busy = false) ∧
    ((sd { present := true : Sdh }).sdh.present = true) ∧
    (bit (337 : Word) 8 = false ∨ (sd { present := true : Sdh }).sdDmaOk (BitVec.toNat ((sd { present := true : Sdh }).reg Block.sdh 0
      80)) (512 * fld ((sd { present := true : Sdh }).reg Block.sdh 0 76) 0 16) = true) ∧
    (sdWrites (337 : Word) = false ∨ (sd { present := true : Sdh }).sdProtected = false ∧ (sd { present := true : Sdh }).sdh.retain =
      false) ∧
    ((sd { present := true : Sdh }).sdh.busy = false ∨ sdWrites (sd { present := true : Sdh }).sdh.cmd = false) ∧
    (bit (856 : Word) 8 = false ∨ (sd { present := true : Sdh }).sdDmaOk (BitVec.toNat ((sd { present := true : Sdh }).reg Block.sdh 0
      80)) (512 * fld ((sd { present := true : Sdh }).reg Block.sdh 0 76) 0 16) = true) ∧
    (sdWrites (856 : Word) = true) ∧
    ((sd { present := true, wp := true : Sdh }).grants ks 1 Block.sdh 0 72 = true) ∧
    ((sd { present := true, wp := true : Sdh }).sdh.busy = false) ∧
    ((sd { present := true, wp := true : Sdh }).sdh.present = true) ∧
    (bit (856 : Word) 8 = false ∨ (sd { present := true, wp := true : Sdh }).sdDmaOk (BitVec.toNat ((sd
      { present := true, wp := true : Sdh }).reg Block.sdh 0 80)) (512 * fld ((sd { present := true, wp := true : Sdh }).reg Block.sdh 0
      76) 0 16) = true) ∧
    ((sd { present := true, wp := true : Sdh }).sdProtected = true) ∧
    ((sd { present := true, busy := true, cmd := (337 : Word) : Sdh }).sdh.busy = true) ∧
    (fld (sd { present := true, busy := true, cmd := (337 : Word) : Sdh }).sdh.cmd 6 2 = 1 ∨ fld (sd
      { present := true, busy := true, cmd := (337 : Word) : Sdh }).sdh.cmd 6 2 = 2) ∧
    ([(5 : Word)] ≠ []) ∧
    (bit (sd { present := true, busy := true, cmd := (337 : Word) : Sdh }).sdh.cmd 8 = true) ∧
    (sdWrites (sd { present := true, busy := true, cmd := (337 : Word) : Sdh }).sdh.cmd = false) ∧
    (BitVec.toNat ((sd { present := true, busy := true, cmd := (337 : Word) : Sdh }).reg Block.sdh 0 80) % 4 = 0) ∧
    ((sd { present := true, busy := true, cmd := (337 : Word) : Sdh }).sdh.present = true) ∧
    ((sd { present := true, busy := true, cmd := (856 : Word) : Sdh }).sdh.busy = true) ∧
    (bit (sd { present := true, busy := true, cmd := (856 : Word) : Sdh }).sdh.cmd 8 = false ∨ sdWrites (sd
      { present := true, busy := true, cmd := (856 : Word) : Sdh }).sdh.cmd = true) ∧
    ((sd { present := true, busy := true, cmd := (856 : Word) : Sdh }).sdh.present = true) ∧
    (sdWrites (sd { present := true, busy := true, cmd := (856 : Word) : Sdh }).sdh.cmd = true) ∧
    ((sd { present := true, retain := true, inited := true : Sdh }).grants ks 1 Block.sdh 0 108 = true) ∧
    ((sd { present := true, retain := true, inited := true : Sdh }).sdh.retain = true) ∧
    ((sd { present := true, retain := true, inited := true : Sdh }).sdh.inited = true) ∧
    ((sd { present := true, retain := true, inited := true : Sdh }).sdh.present = true) ∧
    ((sd { present := true, retain := true, inited := true : Sdh }).sdh.busy = false) ∧
    ((sd { present := true, retain := true, inited := true : Sdh }).sdProtected = false) ∧
    ((sd { retain := true, inited := true : Sdh }).grants ks 1 Block.sdh 0 108 = true) ∧
    ((sd { retain := true, inited := true : Sdh }).sdh.retain = true) ∧
    ((sd { retain := true, inited := true : Sdh }).sdh.inited = false ∨ (sd { retain := true, inited := true : Sdh }).sdh.present =
      false ∨ (sd { retain := true, inited := true : Sdh }).sdh.busy = true) := by
  refine ⟨?_, ?_, ?_, ?_, ?_, ?_, ?_, ?_, ?_, ?_, ?_, ?_, ?_, ?_, ?_, ?_, ?_, ?_, ?_, ?_, ?_, ?_, ?_, ?_, ?_, ?_, ?_, ?_, ?_, ?_,
    ?_, ?_, ?_, ?_, ?_, ?_, ?_, ?_, ?_⟩ <;>
    decide +kernel

/-- States and operands at which the hypotheses of `Obligations.ReaderRows` hold together, clause by clause. -/
theorem witness_ReaderRows :
    (bit ((nf { : Nfc }).reg Block.nfc 0 64) 0 = true) ∧
    ((nf { : Nfc }).nfc.st ≤ 1 ∨ (nf { : Nfc }).nfc.st = 5) ∧
    ((nf { : Nfc }).nfc.pollAt + fld ((nf { : Nfc }).reg Block.nfc 0 64) 8 8 * 10 * msUnits ≤ (nf { : Nfc }).wall) ∧
    ((nf { : Nfc }).nfc.extAt = none) ∧
    (bit ((nf { : Nfc }).reg Block.nfc 0 64) 1 = true ∨ bit ((nf { : Nfc }).reg Block.nfc 0 64) 2 = true) ∧
    ((nf { : Nfc }).grants ks 1 Block.nfc 0 68 = true) ∧
    (bit ((nf { : Nfc }).reg Block.nfc 0 64) 0 = false ∨ (nf { : Nfc }).nfc.st ≠ 1 ∨ (nf { : Nfc }).nfc.badges = 0) ∧
    ((nf { : Nfc }).nfc.st ≠ 3 ∨ fld (128 : Word) 4 9 < 4 ∨ 261 < fld (128 : Word) 4 9) ∧
    ((nf { st := 1, badges := 1 : Nfc }).grants ks 1 Block.nfc 0 68 = true) ∧
    (bit ((nf { st := 1, badges := 1 : Nfc }).reg Block.nfc 0 64) 0 = true) ∧
    ((nf { st := 1, badges := 1 : Nfc }).nfc.st = 1) ∧
    ((nf { st := 1, badges := 1 : Nfc }).nfc.extAt = none) ∧
    ((nf { st := 1, badges := 1 : Nfc }).nfc.badges = 1) ∧
    ((nf { st := 1, badges := 2 : Nfc }).grants ks 1 Block.nfc 0 68 = true) ∧
    (bit ((nf { st := 1, badges := 2 : Nfc }).reg Block.nfc 0 64) 0 = true) ∧
    ((nf { st := 1, badges := 2 : Nfc }).nfc.st = 1) ∧
    ((nf { st := 1, badges := 2 : Nfc }).nfc.extAt = none) ∧
    (2 ≤ (nf { st := 1, badges := 2 : Nfc }).nfc.badges) ∧
    ((nf { st := 3 : Nfc }).grants ks 1 Block.nfc 0 68 = true) ∧
    (2 ≤ (nf { st := 3 : Nfc }).nfc.st) ∧
    ((nf { st := 3 : Nfc }).nfc.st = 3) ∧
    (4 ≤ fld (128 : Word) 4 9) ∧
    (fld (128 : Word) 4 9 ≤ 261) ∧
    ((nf { st := 4 : Nfc }).nfc.st = 4) ∧
    (2 ≤ [(1 : Byte), (2 : Byte), (3 : Byte)].length) ∧
    ([(1 : Byte), (2 : Byte), (3 : Byte)].length ≤ 258) ∧
    ((nf { st := 4 : Nfc }).wall ≤ (nf { st := 4 : Nfc }).nfc.since + fld ((nf { st := 4 : Nfc }).reg Block.nfc 0 64) 16 16 * msUnits) ∧
    ((nfLate { st := 4 : Nfc }).nfc.st = 4) ∧
    ((nfLate { st := 4 : Nfc }).nfc.since + fld ((nfLate { st := 4 : Nfc }).reg Block.nfc 0 64) 16 16 * msUnits < (nfLate
      { st := 4 : Nfc }).wall) := by
  refine ⟨?_, ?_, ?_, ?_, ?_, ?_, ?_, ?_, ?_, ?_, ?_, ?_, ?_, ?_, ?_, ?_, ?_, ?_, ?_, ?_, ?_, ?_, ?_, ?_, ?_, ?_, ?_, ?_, ?_⟩ <;>
    decide +kernel

/-- States and operands at which the hypotheses of `Obligations.TagMemoryRows` hold together, clause by clause. -/
theorem witness_TagMemoryRows :
    ((tg { quiet := some 0, selected := true : Nfc }).nfc.quiet = some 0) ∧
    (0 + (tg { quiet := some 0, selected := true : Nfc }).nfc.qtime * 600 * msUnits ≤ (tg
      { quiet := some 0, selected := true : Nfc }).wall) ∧
    ((tg { quiet := some 0, selected := true : Nfc }).nfc.selected = true) ∧
    ((tg { quiet := some 0, selected := true : Nfc }).nfc.rfOn = false) ∧
    ((tg { quiet := some 0, selected := true : Nfc }).grants ks 1 Block.nfc 0 100 = true) ∧
    (fld ((tg { quiet := some 0, selected := true : Nfc }).reg Block.nfc 0 96) 0 7 < 120) ∧
    (bit (1 : Word) 1 = false) ∧
    (bit (1 : Word) 4 = false) ∧
    ((tg { quiet := some 0, selected := true : Nfc }).grants ks 1 Block.nfc 0 144 = true) ∧
    (∀ (e : Nat × Req), e ∈ (tg { quiet := some 0, selected := true : Nfc }).dual.req → e.snd.granted = true → e.snd.kind = 2 →
      e.snd.digest ≠ (tg { quiet := some 0, selected := true : Nfc }).pwDigest (fld ((tg
      { quiet := some 0, selected := true : Nfc }).reg Block.nfc 0 136) 0 2) 1) ∧
    ((tg { quiet := some 0, selected := true : Nfc }).grantFor ((tg { quiet := some 0, selected := true : Nfc }).pwDigest (fld ((tg
      { quiet := some 0, selected := true : Nfc }).reg Block.nfc 0 136) 0 2) 2) = false) ∧
    ((tg pwOk).nfc.rfOn = false) ∧
    ((tg pwOk).nfc.writeErr (tw TearPoint.beforeFlag).record = 0) ∧
    ((tg { mem := [(7680 + 50, (31 : Byte))], wip := 50 : Nfc }).nfc.wip < 120) ∧
    ((tg { mem := [(7680 + 50, (31 : Byte))], wip := 50 : Nfc }).aon.mainPower = true) ∧
    ((trec { : Nfc }).grants ks 1 Block.nfc 0 100 = true) ∧
    (fld ((trec { : Nfc }).reg Block.nfc 0 96) 0 7 < 120) ∧
    (bit (2 : Word) 0 = false) ∧
    (bit (2 : Word) 4 = false) ∧
    ((trec { contact := true : Nfc }).grants ks 1 Block.nfc 0 100 = true) ∧
    (fld ((trec { contact := true : Nfc }).reg Block.nfc 0 96) 0 7 < 120) ∧
    (bit (16 : Word) 0 = false) ∧
    (bit (16 : Word) 1 = false) ∧
    (bit (16 : Word) 3 = false) ∧
    ((pwG 1).grants ks 1 Block.nfc 0 144 = true) ∧
    (∃ e, e ∈ (pwG 1).dual.req ∧ e.snd.granted = true ∧ e.snd.kind = 2 ∧ e.snd.digest = (pwG 1).pwDigest (fld ((pwG 1).reg Block.nfc 0
      136) 0 2) 1 ∧ e.snd.pwVal = (pwG 1).reg Block.nfc 0 140) ∧
    ((pwG 2).grants ks 1 Block.nfc 0 144 = true) ∧
    ((pwG 2).grantFor ((pwG 2).pwDigest (fld ((pwG 2).reg Block.nfc 0 136) 0 2) 2) = true) ∧
    ((poff (tg { mem := [(7680 + 50, (31 : Byte))], wip := 50 : Nfc })).nfc.wip < 120) ∧
    ((poff (tg { mem := [(7680 + 50, (31 : Byte))], wip := 50 : Nfc })).aon.mainPower = false) := by
  refine ⟨?_, ?_, ?_, ?_, ?_, ?_, ?_, ?_, ?_, ?_, ?_, ?_, ?_, ?_, ?_, ?_, ?_, ?_, ?_, ?_, ?_, ?_, ?_, ?_, ?_, ?_, ?_, ?_, ?_, ?_⟩
    <;>
    decide +kernel

/-- States and operands at which the hypotheses of `Obligations.TagAirRows` hold together, clause by clause. -/
theorem witness_TagAirRows :
    ((tg { : Nfc }).nfc.rfOn = false) ∧
    ((tg { : Nfc }).nfc.quiet = none) ∧
    (0 ≤ 64) ∧
    (0 = (tg { : Nfc }).tagUid / 2 ^ (64 - 0)) ∧
    (0 ≤ 60) ∧
    ((tg { : Nfc }).tagTakes TagAddr.nonAddressed = true) ∧
    ((tg { : Nfc }).nfc.readErr 0 = 0) ∧
    ((tg { : Nfc }).nfc.writeErr 0 ≠ 0) ∧
    (2 ≤ 8) ∧
    (∀ (j : Nat), j < 2 → (tg { : Nfc }).nfc.readErr (0 + j) = 0) ∧
    (0 < 2) ∧
    (0 < 8) ∧
    (∀ (j : Nat), j < 0 → (tg { : Nfc }).nfc.readErr (0 + j) = 0) ∧
    (0 < 3) ∧
    ((tg { : Nfc }).nfc.failOf 0 < 8) ∧
    ((tg { : Nfc }).nfc.random = none) ∧
    (5 ≠ (tg { : Nfc }).tagUid) ∧
    ((tg { : Nfc }).tagTakes (TagAddr.addressed (tg { : Nfc }).tagUid) = true) ∧
    ((tg { : Nfc }).nfc.readErr 50 ≠ 0) ∧
    (TagAddr.addressed (tg { : Nfc }).tagUid = TagAddr.addressed (tg { : Nfc }).tagUid) ∧
    ((tg pwOk).nfc.rfOn = false) ∧
    ((tg pwOk).tagTakes (TagAddr.addressed (tg { : Nfc }).tagUid) = true) ∧
    ((tg pwOk).nfc.writeErr 50 = 0) ∧
    ((tg { fail := [(1, 8)] : Nfc }).nfc.rfOn = false) ∧
    ((tg { fail := [(1, 8)] : Nfc }).tagTakes TagAddr.nonAddressed = true) ∧
    (1 < 3) ∧
    (8 ≤ (tg { fail := [(1, 8)] : Nfc }).nfc.failOf 1) ∧
    ((tg { pw := [(1, (5 : Word))], fail := [(1, 7)], random := some (3 : BitVec 16) : Nfc }).nfc.rfOn = false) ∧
    ((tg { pw := [(1, (5 : Word))], fail := [(1, 7)], random := some (3 : BitVec 16) : Nfc }).tagTakes TagAddr.nonAddressed = true) ∧
    ((tg { pw := [(1, (5 : Word))], fail := [(1, 7)], random := some (3 : BitVec 16) : Nfc }).nfc.failOf 1 < 8) ∧
    ((tg { pw := [(1, (5 : Word))], fail := [(1, 7)], random := some (3 : BitVec 16) : Nfc }).nfc.random = some (3 : BitVec 16)) ∧
    ((196614 : Word) = Sparse.get (0 : Word) (tg
      { pw := [(1, (5 : Word))], fail := [(1, 7)], random := some (3 : BitVec 16) : Nfc }).nfc.pw 1 ^^^ (3 : BitVec 16) ++ (3 : BitVec
      16)) ∧
    ((tg { pw := [(1, (5 : Word))], fail := [(1, 7)], random := some (3 : BitVec 16) : Nfc }).nfc.failOf 1 = 7) ∧
    ((196615 : Word) ≠ Sparse.get (0 : Word) (tg
      { pw := [(1, (5 : Word))], fail := [(1, 7)], random := some (3 : BitVec 16) : Nfc }).nfc.pw 1 ^^^ (3 : BitVec 16) ++ (3 : BitVec
      16)) ∧
    ((tg { : Nfc }).nfc.quiet ≠ none ∨ 64 < 8 ∨ 5 ≠ (tg { : Nfc }).tagUid / 2 ^ (64 - 8)) ∧
    (∀ (j : Nat), j < 0 → (tg { : Nfc }).nfc.readErr (120 + j) = 0) ∧
    ((tg { : Nfc }).nfc.readErr (120 + 0) ≠ 0) := by
  refine ⟨?_, ?_, ?_, ?_, ?_, ?_, ?_, ?_, ?_, ?_, ?_, ?_, ?_, ?_, ?_, ?_, ?_, ?_, ?_, ?_, ?_, ?_, ?_, ?_, ?_, ?_, ?_, ?_, ?_, ?_,
    ?_, ?_, ?_, ?_, ?_, ?_, ?_⟩ <;>
    decide +kernel

/-- States and operands at which the hypotheses of `Obligations.CardRows` hold together, clause by clause. -/
theorem witness_CardRows :
    (((cd { : Crd }).slot 0).st = 0) ∧
    (((cd { st := 2, cls := 1 : Crd }).slot 0).st ≠ 0) ∧
    (((cd { st := 2, cls := 1 : Crd }).slot 0).st = 2 ∨ ((cd { st := 2, cls := 1 : Crd }).slot 0).st = 4) ∧
    ((cd { st := 1 : Crd }).grants ks 1 Block.crd 0 (260 + 64 * 0) = true) ∧
    (((cd { st := 1 : Crd }).slot 0).st = 1) ∧
    ((cd { : Crd }).grants ks 1 Block.crd 0 (260 + 64 * 0) = true) ∧
    (((cd { : Crd }).slot 0).st ≠ 1) ∧
    ((cd { st := 2, cls := 1 : Crd }).grants ks 1 Block.crd 0 (260 + 64 * 0) = true) ∧
    ((cd { st := 3, canStop := true : Crd }).grants ks 1 Block.crd 0 (260 + 64 * 0) = true) ∧
    (((cd { st := 3, canStop := true : Crd }).slot 0).st = 3) ∧
    (4 ≤ fld (128 : Word) 4 9) ∧
    (fld (128 : Word) 4 9 ≤ 261) ∧
    (((cd { : Crd }).slot 0).st ≠ 3 ∨ fld (0 : Word) 4 9 < 4 ∨ 261 < fld (0 : Word) 4 9) ∧
    (((cd { st := 2, cls := 1 : Crd }).slot 0).st = 2) ∧
    (((cd { st := 2, cls := 1 : Crd }).slot 0).ppsWait = false) ∧
    (((cd { st := 2, cls := 1 : Crd }).slot 0).cls < fld ((cd { st := 2, cls := 1 : Crd }).reg Block.crd 0 (256 + 64 * 0)) 0 2) ∧
    (((cd { st := 2, cls := 3 : Crd }).slot 0).st = 2) ∧
    (((cd { st := 2, cls := 3 : Crd }).slot 0).ppsWait = false) ∧
    (fld ((cd { st := 2, cls := 3 : Crd }).reg Block.crd 0 (256 + 64 * 0)) 0 2 ≤ ((cd { st := 2, cls := 3 : Crd }).slot 0).cls) ∧
    (atrRead [(1 : Byte)] = none) ∧
    (atrRead (atr (some 3) false) = some (atrI (some 3) false)) ∧
    ((atrI (some 3) false).classes = some 3) ∧
    (Nat.testBit 3 (3 - ((cd { st := 2, cls := 1 : Crd }).slot 0).cls) = false) ∧
    (atrRead (atr (some 0) false) = some (atrI (some 0) false)) ∧
    ((atrI (some 0) false).classes = some 0) ∧
    (Nat.testBit 0 (3 - ((cd { st := 2, cls := 3 : Crd }).slot 0).cls) = false) ∧
    (((cd { st := 2, cls := 2 : Crd }).slot 0).st = 2) ∧
    (((cd { st := 2, cls := 2 : Crd }).slot 0).ppsWait = false) ∧
    (atrRead atr14 = some atrI14) ∧
    (∀ (c : Nat), atrI14.classes = some c → c.testBit (3 - ((cd { st := 2, cls := 2 : Crd }).slot 0).cls) = true) ∧
    (atrI14.offersT1 = false ∧ atrI14.offersT0 = false ∨ Option.any (fun p => decide (1 < p % 16)) atrI14.specific = true) ∧
    (atrRead (atr none false) = some (atrI none false)) ∧
    (∀ (c : Nat), (atrI none false).classes = some c → c.testBit (3 - ((cd { st := 2, cls := 2 : Crd }).slot 0).cls) = true) ∧
    ((atrI none false).offersT1 = true ∨ (atrI none false).offersT0 = true) ∧
    (Option.any (fun p => decide (1 < p % 16)) (atrI none false).specific = false) ∧
    ((atrI none false).specific = none) ∧
    (((cd { st := 2, cls := 2 : Crd }).slot 0).noPps = false) ∧
    (((cd { st := 2, cls := 2, noPps := true : Crd }).slot 0).st = 2) ∧
    (((cd { st := 2, cls := 2, noPps := true : Crd }).slot 0).ppsWait = false) ∧
    (∀ (c : Nat), (atrI none false).classes = some c → c.testBit (3 - ((cd { st := 2, cls := 2, noPps := true : Crd }).slot 0).cls) =
      true) ∧
    (((cd { st := 2, cls := 2, noPps := true : Crd }).slot 0).noPps = true) ∧
    (atrRead (atr none true) = some (atrI none true)) ∧
    (∀ (c : Nat), (atrI none true).classes = some c → c.testBit (3 - ((cd { st := 2, cls := 2 : Crd }).slot 0).cls) = true) ∧
    ((atrI none true).offersT1 = true ∨ (atrI none true).offersT0 = true) ∧
    (Option.any (fun p => decide (1 < p % 16)) (atrI none true).specific = false) ∧
    ((atrI none true).specific.isSome = true) ∧
    (((cd { st := 2, cls := 2, ppsWait := true : Crd }).slot 0).st = 2) ∧
    (((cd { st := 2, cls := 2, ppsWait := true : Crd }).slot 0).ppsWait = true) ∧
    ([(1 : Byte), (2 : Byte)] ≠ ppsBytes ((cd { st := 2, cls := 2, ppsWait := true : Crd }).slot 0).proto ((cd
      { st := 2, cls := 2, ppsWait := true : Crd }).slot 0).ta1) ∧
    ([(1 : Byte), (2 : Byte)] ≠ ppsShort ((cd { st := 2, cls := 2, ppsWait := true : Crd }).slot 0).proto) ∧
    (((cd { st := 4 : Crd }).slot 0).st = 4) ∧
    (2 ≤ [(1 : Byte), (2 : Byte), (3 : Byte)].length) ∧
    ([(1 : Byte), (2 : Byte), (3 : Byte)].length ≤ 258) ∧
    ((cd { st := 4 : Crd }).wall ≤ ((cd { st := 4 : Crd }).slot 0).since + fld ((cd { st := 4 : Crd }).reg Block.crd 0 (256 + 64 * 0)) 16
      16 * msUnits) ∧
    (((cd { st := 4, proto := true : Crd }).slot 0).st = 4) ∧
    (((cd { st := 4, proto := true : Crd }).slot 0).proto = true) ∧
    (((cd { st := 4, proto := true : Crd }).slot 0).tries < 3) ∧
    (((cd { st := 4, proto := true, tries := 3 : Crd }).slot 0).st = 4) ∧
    (((cd { st := 4, proto := true, tries := 3 : Crd }).slot 0).proto = true) ∧
    (3 ≤ ((cd { st := 4, proto := true, tries := 3 : Crd }).slot 0).tries) ∧
    (((cd { st := 4 : Crd }).slot 0).proto = false) ∧
    (((cdLate { st := 4, proto := true, tries := 3 : Crd }).slot 0).st = 4) ∧
    (((cdLate { st := 4, proto := true, tries := 3 : Crd }).slot 0).since + fld ((cdLate { st := 4, proto := true, tries := 3 : Crd }).reg
      Block.crd 0 (256 + 64 * 0)) 16 16 * msUnits < (cdLate { st := 4, proto := true, tries := 3 : Crd }).wall) ∧
    (bit ((cd { st := 3, canStop := true : Crd }).reg Block.crd 0 (256 + 64 * 0)) 2 = true) ∧
    (((cd { st := 3, canStop := true : Crd }).slot 0).canStop = true) ∧
    (((cd { st := 3, canStop := true : Crd }).slot 0).since + 31 * ((cd { st := 3, canStop := true : Crd }).slot 0).div * usUnits ≤ (cd
      { st := 3, canStop := true : Crd }).wall) := by
  refine ⟨?_, ?_, ?_, ?_, ?_, ?_, ?_, ?_, ?_, ?_, ?_, ?_, ?_, ?_, ?_, ?_, ?_, ?_, ?_, ?_, ?_, ?_, ?_, ?_, ?_, ?_, ?_, ?_, ?_, ?_,
    ?_, ?_, ?_, ?_, ?_, ?_, ?_, ?_, ?_, ?_, ?_, ?_, ?_, ?_, ?_, ?_, ?_, ?_, ?_, ?_, ?_, ?_, ?_, ?_, ?_, ?_, ?_, ?_, ?_, ?_, ?_,
    ?_, ?_, ?_, ?_, ?_⟩ <;>
    decide +kernel

end Sys2Proof.Tests.CardsAndTags

namespace Sys2Proof.Tests.Tamper

set_option Elab.async false

def en : State := z.setReg .tmp 0 0x60 0xFFFFFFFF
def mis (lv : Word) : State := { (en.setReg .tmp 0 0x74 (lv * 0x55555555)) with lcs := { z.lcs with word := 0xFFFFFFFFF } }
def s1 : State := ({(mis 1) with aon := {z.aon with toRing := true}})
def s2 : State := (({(mis 1) with tmp := {z.tmp with testing := [5,6], qTamper := [{typ := 1, level := 2}], erasing := true}}).setReg .elg 0 0x44 0x70003)
def s3 : State := (({(mis 1) with tmp := {z.tmp with testing := [], qTamper := [{typ := 1, level := 2}]}}).setReg .elg 0 0x44 0x70003 |>.setReg .tmp 0 0x40 0xFF00FF)
def s4 : State := (({(mis 1) with tmp := {z.tmp with next := 32512}}).setReg .elg 0 0x44 0x70003 |>.setReg .tmp 0 0x40 0xFF00FF)
def e1 : LogEntry := { typ := 1, level := 2 }

/-- States and operands at which the hypotheses of `Obligations.TamperRows` hold together, clause by clause. -/
theorem witness_TamperRows :
    (en.monActive 22 = true) ∧
    (en.monEn 22 = true) ∧
    (en.alarm 22 = false) ∧
    (en.tmp.testing.head? ≠ some 22) ∧
    (en.ringing = false) ∧
    (en.elgReserveFull = false) ∧
    (en.effLevel 22 < 2) ∧
    ((mis (1 : Word)).monActive 22 = true) ∧
    ((mis (1 : Word)).monEn 22 = true) ∧
    ((mis (1 : Word)).alarm 22 = false) ∧
    ((mis (1 : Word)).tmp.testing.head? ≠ some 22) ∧
    ((mis (1 : Word)).ringing = false) ∧
    ((mis (1 : Word)).elgReserveFull = false) ∧
    ((mis (1 : Word)).effLevel 22 = 1) ∧
    ((mis (1 : Word)).effLevel 22 < 2) ∧
    ((mis (2 : Word)).monActive 22 = true) ∧
    ((mis (2 : Word)).monEn 22 = true) ∧
    ((mis (2 : Word)).alarm 22 = false) ∧
    ((mis (2 : Word)).tmp.testing.head? ≠ some 22) ∧
    ((mis (2 : Word)).ringing = false) ∧
    ((mis (2 : Word)).elgReserveFull = false) ∧
    (2 ≤ (mis (2 : Word)).effLevel 22) ∧
    (s1.monActive 22 = true) ∧
    (s1.monEn 22 = true) ∧
    (s1.alarm 22 = false) ∧
    (s1.tmp.testing.head? ≠ some 22) ∧
    (s1.ringing = true) ∧
    (s1.aon.ring.length < 64) ∧
    (s1.effLevel 22 < 3) ∧
    (en.grants ks 1 Block.tmp 0 (64 + 4 * 0) = true) ∧
    (en.grants ks 1 Block.tmp 0 164 = true) ∧
    (bit (1 : Word) 0 = true) ∧
    (en.alarmAt 1 = false) ∧
    (s3.grants ks 1 Block.tmp 0 164 = true) ∧
    (s3.alarmAt 1 = true) ∧
    (en.grants ks 1 Block.tmp 0 144 = true) ∧
    (en.tmp.testing = []) ∧
    (en.aon.mainPower = true) ∧
    (en.alarm (fld (1 : Word) 0 7) = false) ∧
    (en.monEn (fld (1 : Word) 0 7) = true) ∧
    (s2.grants ks 1 Block.tmp 0 144 = true) ∧
    (s2.tmp.testing ≠ [] ∨ s2.aon.mainPower = false) ∧
    (s2.tmp.testing = [5, 6]) ∧
    (5 < 128) ∧
    (en.grants ks 1 Block.tmp 0 180 = true) ∧
    (s2.grants ks 1 Block.elg 0 104 = true) ∧
    (bit (3 : Word) 0 = true) ∧
    (3 ≤ fld (s2.reg Block.elg 0 68) 0 8) ∧
    (fld (s2.reg Block.elg 0 68) 0 8 ≤ 14) ∧
    (s2.tmp.qFirm.length < 8) ∧
    (s2.elgFull = false) ∧
    (en.grants ks 1 Block.elg 0 104 = true) ∧
    (fld (en.reg Block.elg 0 68) 0 8 < 2 ∨ 14 < fld (en.reg Block.elg 0 68) 0 8 ∨ 8 ≤ en.tmp.qFirm.length) ∧
    (s4.grants ks 1 Block.elg 0 104 = true) ∧
    (3 ≤ fld (s4.reg Block.elg 0 68) 0 8) ∧
    (fld (s4.reg Block.elg 0 68) 0 8 ≤ 14) ∧
    (s4.tmp.qFirm.length < 8) ∧
    (s4.elgFull = true) ∧
    (s3.tmp.qTamper = [e1]) ∧
    (s3.tmp.next < 32768) ∧
    (s3.tmp.erasing = false) ∧
    (s3.kst.stage ≠ 1) ∧
    (s2.tmp.erasing = true) ∧
    (s2.tmp.qTamper ≠ []) := by
  refine ⟨?_, ?_, ?_, ?_, ?_, ?_, ?_, ?_, ?_, ?_, ?_, ?_, ?_, ?_, ?_, ?_, ?_, ?_, ?_, ?_, ?_, ?_, ?_, ?_, ?_, ?_, ?_, ?_, ?_, ?_,
    ?_, ?_, ?_, ?_, ?_, ?_, ?_, ?_, ?_, ?_, ?_, ?_, ?_, ?_, ?_, ?_, ?_, ?_, ?_, ?_, ?_, ?_, ?_, ?_, ?_, ?_, ?_, ?_, ?_, ?_, ?_,
    ?_, ?_, ?_⟩ <;>
    decide +kernel

end Sys2Proof.Tests.Tamper

/-! ### Witnesses that need a proof of their own -/

namespace Sys2Proof.Tests

set_option Elab.async false

/-- The state after reset meets the premise of `Obligations.StepKeepsMemoryForm`, and its empty queue gives a next state. -/
theorem witness_StepKeepsMemoryForm : State.reset.Inv ∧ goesOn (step State.reset) :=
  ⟨by unfold State.Inv; decide +kernel, _, rfl⟩

/-- After reset no region of any ACU is enabled: the first premise of `Obligations.AccessCheckRows`. -/
theorem witness_AccessCheckRows_region (m : Master) (c a : Nat) : z.acuRegion m.acu c a = none := by
  have h : ∀ k, regionHit (Sparse.get 0 z.acuBase k) (Sparse.get 0 z.acuAttr k) a = false := fun k => by
    have h1 : Sparse.get (0 : Word) z.acuAttr k = 0 := rfl
    rw [h1]; unfold regionHit
    have h2 : bit (0 : Word) 6 = false := by decide
    simp only [h2, Bool.false_and]
  unfold State.acuRegion
  rw [List.find?_eq_none]
  intro k _
  rw [h]; decide

/-- A value of a sparse map below a bound on its keys. -/
theorem get_range {α : Type} (P : α → Prop) (d : α) (hd : P d) (l : List (Nat × α)) (h : ∀ e ∈ l, P e.2) (k : Nat) :
    P (Sparse.get d l k) := by
  induction l with
  | nil => exact hd
  | cons e r ih =>
    rcases e with ⟨q, v⟩
    unfold Sparse.get
    split
    · exact h (q, v) List.mem_cons_self
    · exact ih fun e he => h e (List.mem_cons_of_mem _ he)

/-- Bytes of a number, in either order. -/
theorem leBytes_length (n : Nat) : ∀ v, (leBytes n v).length = n := by
  induction n with
  | zero => intro v; rfl
  | succ n ih => intro v; simp only [leBytes, List.length_cons, ih]

theorem beBytes_length (n v : Nat) : (beBytes n v).length = n := by simp only [beBytes, List.length_reverse, leBytes_length]

/-- A processor at its reset values but for its privilege. -/
def plainProc (x : Proc) : Prop := x = {} ∨ x = { super := true }

theorem plainProc_confined {x : Proc} (h : plainProc x) :
    (∀ n, (x.r n).tag ≠ Tag.key) ∧ (∀ n, (x.kr n).tag = Tag.key ∨ (x.kr n).tag = Tag.none) := by
  rcases h with rfl | rfl
  all_goals
    refine ⟨fun n => ?_, fun n => Or.inr rfl⟩
    unfold Proc.r
    split
    · decide
    · show TWord.none.tag ≠ Tag.key
      decide

/-- No register of the state after reset holds a KEY word; a NOP at the front of its queue is an instruction. -/
theorem witness_InstructionsKeepKeysConfined :
    ({ State.reset with pending := [.nop p0] } : State).keysConfined ∧
    ({ State.reset with pending := [.nop p0] } : State).pending = [.nop p0] ∧ (Instr.nop p0).isInstruction = true ∧
    ∃ t, step { State.reset with pending := [.nop p0] } = .next t := by
  refine ⟨fun p => plainProc_confined (get_range plainProc {} (Or.inl rfl) coldProcs (fun e he => ?_) p.key), rfl, rfl, _, rfl⟩
  obtain ⟨i, -, rfl⟩ := List.mem_map.1 he
  exact Or.inr rfl

end Sys2Proof.Tests

namespace Sys2Proof.Tests.HostSide

set_option Elab.async false

/-- The functions that `Obligations.FunctionRows` asks to be quiet are, where the only active function is number 1. -/
theorem witness_FunctionRows_quiet : ∀ k, (if false then 0 else 0) < k → k ≤ (if z.pci.vfEnable then z.pci.numVfs else 0) → k < 128 →
    (z.fn k).st = .quiet := fun _ _ _ _ => rfl

/-- The file's signature verifies under the one key that the flash records and the slot's digest give. -/
theorem planSigned_planFile (s : State) (hf : s.flc.bytes = planS.flc.bytes) (hl : s.lcs = planS.lcs) (h : Config.authorityKeys [(0x208000, 1)] [7] = [(0x04, planKey)]) : s.planSigned planFile = true := by
  have hk : s.authKeys = [(0x04, planKey)] := by
    unfold State.authKeys; rw [hf, hl, ← h]; rfl
  unfold State.planSigned; rw [hk]; decide +kernel
/-- PLAN_LOAD of a file that passes the audit and fits (`Obligations.MailboxRows`), where the key records (whose layout is a free value,
log entry 95) hold `planKey`. -/
theorem witness_MailboxRows_planLoad (h : Config.authorityKeys [(0x208000, 1)] [7] = [(0x04, planKey)]) :
    planS.pci.busy = false ∧ (planS.mbxOpen go 0x0040).planAudit planFile progE = 0 ∧
    (planS.mbxOpen go 0x0040).planSpace planFile.length = some 0 := by
  refine ⟨by decide +kernel, ?_, by decide +kernel⟩
  unfold State.planAudit
  rw [show State.planSigned _ planFile = true from planSigned_planFile (planS.mbxOpen go 0x0040) rfl rfl h]
  decide +kernel

/-- The same file with an instruction that the firmware's analysis refuses by rule 4 (`Obligations.MailboxRows`). -/
theorem witness_MailboxRows_planRefused (h : Config.authorityKeys [(0x208000, 1)] [7] = [(0x04, planKey)]) :
    (planS.mbxOpen go 0x0040).planAudit planFile { progE with failing := 4 } = 4 := by
  unfold State.planAudit
  rw [show State.planSigned _ planFile = true from planSigned_planFile (planS.mbxOpen go 0x0040) rfl rfl h]
  decide +kernel

/-- A text has no more blocks than asked for, each of k bytes at most. -/
theorem chunks_le (k : Nat) : ∀ n (l : List Byte), (chunks k n l).length ≤ n ∧ ∀ c ∈ chunks k n l, c.length ≤ k := by
  intro n
  induction n with
  | zero => intro l; exact ⟨Nat.le_refl _, fun c h => nomatch h⟩
  | succ n ih =>
    intro l
    unfold chunks
    split
    · exact ⟨Nat.zero_le _, fun c h => nomatch h⟩
    refine ⟨Nat.succ_le_succ (ih _).1, fun c h => ?_⟩
    rcases List.mem_cons.1 h with rfl | h
    · exact Nat.le_trans (Nat.le_of_eq List.length_take) (Nat.min_le_left _ _)
    · exact (ih _).2 c h

theorem flatten_le (k : Nat) : ∀ l : List (List Byte), (∀ c ∈ l, c.length ≤ k) → l.flatten.length ≤ k * l.length
  | [], _ => Nat.zero_le _
  | c :: r, h => by
    have h1 := flatten_le k r fun d hd => h d (List.mem_cons_of_mem _ hd)
    have h2 := h c List.mem_cons_self
    rw [List.flatten_cons, List.length_append, List.length_cons, Nat.mul_succ]
    omega

theorem xor_le (a b : List Byte) : (xorBytes a b).length ≤ a.length := by
  rw [xorBytes, List.length_zipWith]; exact Nat.min_le_left _ _

theorem gcmTag_le (key iv aad ct : List Byte) : (gcmTag key iv aad ct).length ≤ 16 := by
  refine Nat.le_trans (xor_le _ _) ?_
  exact Nat.le_of_eq (beBytes_length 16 _)

theorem gcmText_le (key iv text : List Byte) : (gcmText key iv text).length ≤ text.length + 16 := by
  have hc := chunks_le 16 (text.length / 16 + 1) text
  have h := flatten_le 16 (((chunks 16 (text.length / 16 + 1) text).zipIdx.map fun (b, i) =>
    xorBytes b (aesEnc key (ctrBlock (iv.take 12 ++ [0, 0, 0, 2]) i)))) ?_
  · refine Nat.le_trans h ?_
    rw [List.length_map, List.length_zipIdx]
    omega
  · intro c hm
    obtain ⟨e, he, rfl⟩ := List.mem_map.1 hm
    have h1 := hc.2 e.1 (List.fst_mem_of_mem_zipIdx he)
    exact Nat.le_trans (xor_le _ _) h1

/-- EXPORT of a frozen function to a region that holds the blob (`Obligations.MailboxRows`), where its text (whose layout is a free
value, log entry 109) has 4,096 bytes at most. -/
theorem witness_MailboxRows_export (h : (Config.migPlain (((fnR.mbxOpen go 0x0031)).migItems 1)).length ≤ 4096) :
    (fnR.pci.busy = false ∧ 1 ≤ fnR.pci.numVfs ∧ 1 ≤ 127) ∧ (1 : Nat) ≠ 0 ∧ (fnR.fn 1).st = .frozen ∧ (fnR.fn 1).settled = true ∧
    fnR.staging = some (0x1000000000, 1048576) ∧ 0 + ((fnR.mbxOpen go 0x0031).blob 1 0 (fnR.pci.exportId + 1)).length ≤ 1048576 := by
  refine ⟨by decide +kernel, by decide, by decide +kernel, by decide +kernel, by decide +kernel, ?_⟩
  unfold State.blob
  generalize Config.migPlain _ = pt at h
  simp only [List.length_append, blobHead, List.length_take, List.length_drop, State.freeBs, List.length_map, List.length_range]
  refine Nat.le_trans (Nat.add_le_add_left (Nat.add_le_add (Nat.add_le_add (Nat.add_le_add_left (gcmText_le _ _ _) _) (gcmTag_le _ _ _ _)) (Nat.le_refl _)) _) ?_
  simp only [leBytes_length, zeros, List.length_replicate]
  omega

end Sys2Proof.Tests.HostSide

namespace Sys2Proof.Tests.Heats

set_option Elab.async false

/-- No course has a swap pending: the premise of the plain boundary in `Obligations.LaunchRows`. -/
theorem witness_LaunchRows_noSwap : ∀ c', (coB.cx c').swap = none :=
  fun c' => get_range (fun x : Cox => x.swap = none) {} rfl coB.cox (by decide +kernel) c'

/-- Only course 0 has a swap pending, and it may take effect: the premises of the swap in `Obligations.LaunchRows`. -/
theorem witness_LaunchRows_swap : (s5.cx 0).swap = some (0, [0]) ∧ 0 < s5.stroke / frameLen ∧ s5.swapReady 0 = true ∧
    ∀ c', c' ≠ 0 → (s5.cx c').swap = none := by
  refine ⟨by decide +kernel, by decide +kernel, by decide +kernel, fun c' h => ?_⟩
  have h1 : s5.cx c' = Sparse.get {} [(15, ({ role := 1 } : Cox))] c' := by
    show Sparse.get {} s5.cox c' = _
    have h2 : s5.cox = (0, { swap := some (0, [0]), ready := true }) :: [(15, ({ role := 1 } : Cox))] := rfl
    rw [h2]
    have h3 : ¬ (0 = c') := fun e => h e.symm
    simp only [Sparse.get, h3, if_false]
  rw [h1]
  exact get_range (fun x : Cox => x.swap = none) {} rfl _ (by decide +kernel) c'

/-- The configuration area of a staged image, read byte by byte. -/
theorem cfgOf_bytes (s : State) (a : Nat) : cfgOf (s.bytes a 2048) =
    (List.range 0x540).filterMap fun i => if s.byte (a + (0x2C0 + i)) = 0 then none else some (0x2C0 + i, s.byte (a + (0x2C0 + i))) := by
  have key : ∀ l : List Nat, (∀ i ∈ l, i < 0x540) →
      (l.filterMap fun i => let b := (s.bytes a 2048).getD (0x2C0 + i) 0; if b = 0 then none else some (0x2C0 + i, b)) =
      l.filterMap fun i => if s.byte (a + (0x2C0 + i)) = 0 then none else some (0x2C0 + i, s.byte (a + (0x2C0 + i))) := by
    intro l
    induction l with
    | nil => intro _; simp only [List.filterMap_nil]
    | cons i r ih =>
      intro h
      have h1 : (s.bytes a 2048).getD (0x2C0 + i) 0 = s.byte (a + (0x2C0 + i)) := by
        have h2 : 0x2C0 + i < 2048 := by have := h i (by simp); omega
        unfold State.bytes
        rw [List.getD_eq_getElem?_getD, List.getElem?_map, List.getElem?_range h2]
        rfl
      simp only [List.filterMap_cons, h1]
      rw [ih fun j hj => h j (by simp [hj])]
  exact key _ fun i hi => List.mem_range.1 hi

/-- The configuration of the image staged in `ld` and `ld0`. -/
def cfg0 : List (Nat × Byte) := [(0x2C0, 2), (0x2C4, 64), (0x2C6, 1), (0x2D0, 10)]
def new0 : Ctx := { partner := 2, window := 1, cfg := cfg0 }
theorem cfg_ld0 : cfgOf ((ld0 1).bytes ctxStaging 2048) = cfg0 := by rw [cfgOf_bytes]; decide +kernel
theorem cfg_ld2 : cfgOf ((ld 2 false).bytes ctxStaging 2048) = cfg0 := by rw [cfgOf_bytes]; decide +kernel
theorem cfg_ldBad : cfgOf (ldBad.bytes ctxStaging 2048) = cfg0 := by rw [cfgOf_bytes]; decide +kernel

/-- INSTALL of a staged image that nothing refuses (`Obligations.PartnerLoadRows`). -/
theorem witness_PartnerLoadRows_install :
    (ld0 1).markLanding = false ∧ (ld0 1).ptn.marks = [] ∧ (ld0 1).ptn.load = some (1, 2, 0) ∧ ((ld0 1).ctx 2).enabled = false ∧
    (let new : Ctx := { partner := 2, window := 1, cfg := cfgOf ((ld0 1).bytes ctxStaging 2048) }
     new.version = ((ld0 1).reg .ptn 0 0x48).toNat ∧ new.version ≠ 0 ∧
     (ld0 1).imageBad 2 new ((ld0 1).bytes ctxStaging 2048) = false ∧ (ld0 1).unwrapAll new = some []) := by
  refine ⟨rfl, rfl, by decide +kernel, by decide +kernel, ?_⟩
  rw [cfg_ld0]
  exact ⟨by decide +kernel, by decide +kernel, by decide +kernel, by decide +kernel⟩

/-- INSTALL of an image that names another partner than the slot (`Obligations.PartnerLoadRows`). -/
theorem witness_PartnerLoadRows_bad :
    ldBad.markLanding = false ∧ ldBad.ptn.marks = [] ∧ ldBad.ptn.load = some (1, 3, 0) ∧ (ldBad.ctx 3).enabled = false ∧
    (let new : Ctx := { partner := 3, window := 1, cfg := cfgOf (ldBad.bytes ctxStaging 2048) }
     new.version = (ldBad.reg .ptn 0 0x48).toNat ∧ new.version ≠ 0 ∧ ldBad.imageBad 3 new (ldBad.bytes ctxStaging 2048) = true) := by
  refine ⟨by decide +kernel, rfl, by decide +kernel, by decide +kernel, ?_⟩
  rw [cfg_ldBad]
  exact ⟨by decide +kernel, by decide +kernel, by decide +kernel⟩

/-- UPDATE of a valid slot from version 1 to version 2 (`Obligations.PartnerLoadRows`). -/
theorem witness_PartnerLoadRows_update :
    (ld 2 false).markLanding = false ∧ (ld 2 false).ptn.marks = [] ∧ (ld 2 false).ptn.load = some (2, 2, 0) ∧ ((ld 2 false).ctx 2).version ≠ 0 ∧
    (let new : Ctx := { partner := 2, window := 1, cfg := cfgOf ((ld 2 false).bytes ctxStaging 2048) }
     new.version = ((ld 2 false).reg .ptn 0 0x48).toNat ∧ ((ld 2 false).ctx 2).version < new.version ∧
     (ld 2 false).imageBad 2 new ((ld 2 false).bytes ctxStaging 2048) = false ∧ (ld 2 false).unwrapAll new = some []) := by
  refine ⟨rfl, rfl, by decide +kernel, by decide +kernel, ?_⟩
  rw [cfg_ld2]
  exact ⟨by decide +kernel, by decide +kernel, by decide +kernel, by decide +kernel⟩

/-- INSTALL of a signer slot of P-256 keys into an empty slot (`Obligations.PartnerLoadRows`). -/
theorem witness_PartnerLoadRows_signer :
    (sg1 1).ptn.sgnLoad = some (1, 4, 0) ∧ slotAlgOk ((sg1 1).byte slotStaging).toNat 4 = true ∧
    ((sg1 1).byte slotStaging).toNat ≠ 0x22 ∧ (sg1 1).slotAlg 4 = 0 ∧ leNat ((sg1 1).bytes (slotStaging + 4) 4) ≠ 0 := by
  refine ⟨?_, ?_, ?_, ?_, ?_⟩ <;> decide +kernel

end Sys2Proof.Tests.Heats

namespace Sys2Proof.Tests.Engines

set_option Elab.async false

/-- The finished commands that `Obligations.HashCipherResults` speaks of: SHA-256 of the three bytes abc, then one of words that
are not INT, and each cipher operation. -/
theorem witness_HashCipherResults_hash :
    (let c := hcc (hw 1 3) abc
     let h := hashCmd fun n => (c.w.getD n 0).toNat
     ((hRun 1 abc).hc false 0).cmd = some c ∧ ((hRun 1 abc).hc false 0).st.running = true ∧ c.due ≤ (hRun 1 abc).stroke ∧ h.pfx = 0 ∧
       h.init = true ∧ h.final = true ∧ h.kout = false ∧ allInt c.inp = true ∧ hashBlocks h.op h.outlen 3 ≤ h.maxb ∧
       ((hRun 1 abc).hc false 0).fenceWait = false) ∧
    ((hRun 1 [ptr 5]).hc false 0).cmd = some (hcc (hw 1 3) [ptr 5]) ∧ allInt (hcc (hw 1 3) [ptr 5]).inp = false := by
  refine ⟨⟨?_, ?_, ?_, ?_, ?_, ?_, ?_, ?_, ?_, ?_⟩, ?_, ?_⟩ <;> decide +kernel

/-- The command word of a cipher command held by cipher unit 0. -/
def ccOf (s : State) : CipherCmd := cipherCmd fun n => ((((s.hc true 0).cmd.getD (hcc [] [])).w).getD n 0).toNat

theorem witness_HashCipherResults_keys :
    (let s := cS { st := .free, cmd := some (hcc [2, 0, 0, 0, 0, 0] []) }
     (s.hc true 0).st.running = true ∧ (ccOf s).op = 0x02) ∧
    (cKs.hc true 0).st.running = true ∧ (ccOf cKs).op = 0x01 ∧ (ccOf cKs).ksrc = 1 ∧ (ccOf cKs).klen = false ∧
    (∀ x ∈ cKs.words (unitBase true 0) 4, x.tag = Tag.key) := by
  refine ⟨⟨?_, ?_⟩, ?_, ?_, ?_, ?_, ?_⟩ <;> decide +kernel

theorem witness_HashCipherResults_modes :
    (ccOf (cRun 0x10 0 4 20 [])).op = 0x10 ∧ (ccOf (cRun 0x11 4 4 24 [])).op = 0x11 ∧
    ((cRun 0x11 4 4 24 []).hc true 0).key = some key16 ∧ allInt (cin 24 []) = true ∧
    (let c := ccOf (cRun 0x11 4 4 24 []); c.alen = 4 ∧ c.nlen = 4 ∧ c.alen ≤ 8 * c.amax ∧ c.nlen ≤ 8 * c.nmax) ∧
    (ccOf (cRun 0x13 4 0 20 [])).op = 0x13 ∧ (ccOf (cRun 0x13 4 0 20 [])).nlen = 0 := by
  refine ⟨?_, ?_, ?_, ?_, ⟨?_, ?_, ?_, ?_⟩, ?_, ?_⟩ <;> decide +kernel

theorem witness_HashCipherResults_tags :
    (let c := ccOf (cRun 0x12 4 4 24 (cTag (zeros 4)))
     c.op = 0x12 ∧ ((bytesOf (cin 24 (cTag (zeros 4)))).drop 24).take c.tagBytes = (gcmTag key16 (zeros 16) (zeros 4) (zeros 4)).take c.tagBytes) ∧
    (let c := ccOf (cRun 0x12 4 4 24 (zeros 16))
     c.op = 0x12 ∧ ((bytesOf (cin 24 (zeros 16))).drop 24).take c.tagBytes ≠ (gcmTag key16 (zeros 16) (zeros 4) (zeros 4)).take c.tagBytes) ∧
    (let c := ccOf (cRun 0x14 4 0 20 (cTag []))
     c.op = 0x14 ∧ c.nlen = 0 ∧
       ((bytesOf (cin 20 (cTag []))).drop 20).take c.tagBytes = (gcmTag key16 (zeros 16) (zeros 4) []).take c.tagBytes) := by
  refine ⟨⟨?_, ?_⟩, ⟨?_, ?_⟩, ?_, ?_, ?_⟩ <;> decide +kernel

end Sys2Proof.Tests.Engines

namespace Sys2Proof.Tests.PowerAndKeystone

set_option Elab.async false

/-- A block leaves eight working words. -/
theorem sha2Block_length {w : Nat} (c : Sha2 w) (h : List (BitVec w)) (b : List Byte) (hl : h.length = 8) :
    (sha2Block c h b).length = 8 := by
  have hr : ∀ (l : List (BitVec w × BitVec w)) (v : List (BitVec w)), v.length = 8 → (l.foldl (sha2Round c) v).length = 8 := by
    intro l
    induction l with
    | nil => intro v h; exact h
    | cons x r ih =>
      intro v h
      refine ih _ ?_
      unfold sha2Round
      split
      · rfl
      · exact h
  unfold sha2Block
  simp only [List.length_zipWith, hl, hr _ _ hl, Nat.min_self]

/-- A SHA-384 digest has 48 bytes. -/
theorem sha384_length (m : List Byte) : (sha384 m).length = 48 := by
  have hf : ∀ (l : List (List Byte)) (v : List (BitVec 64)), v.length = 8 → (l.foldl (sha2Block sha512P) v).length = 8 := by
    intro l
    induction l with
    | nil => intro v h; exact h
    | cons x r ih => intro v h; exact ih _ (sha2Block_length _ _ _ h)
  have hm : ∀ l : List (BitVec 64), (l.flatMap fun x => beBytes (64 / 8) x.toNat).length = 8 * l.length := by
    intro l
    induction l with
    | nil => rfl
    | cons x r ih => rw [List.flatMap_cons, List.length_append, ih, beBytes_length, List.length_cons]; omega
  unfold sha384 sha2
  rw [List.length_take, hm, hf _ _ (by rfl)]
  decide

/-- The digest field of `bootHdr`, byte by byte. -/
def digFF : List Byte := (List.range 48).map fun i => (sha384 bodyFF).getD i 0

theorem digFF_eq : digFF = sha384 bodyFF := by
  unfold digFF
  refine List.ext_getElem (by rw [List.length_map, List.length_range, sha384_length]) fun i h1 h2 => ?_
  rw [List.getElem_map, List.getElem_range, List.getD_eq_getElem?_getD, List.getElem?_eq_getElem h2, Option.getD_some]

/-- The fields of the header before the digest: one erased page of code, its entry the first word of the Keystone RAM. -/
def bootPre : List Byte := leBytes 4 0x4B534254 ++ leBytes 2 1 ++ leBytes 2 1 ++ leBytes 4 4096 ++ leBytes 4 ksSram ++
  [BitVec.ofNat 8 (fld (pageCap .sys 0) 28 4)] ++ zeros 15
def bootHdr : List Byte := bootPre ++ digFF

theorem bootHdr_length : bootHdr.length = 80 := by
  have h : bootPre.length = 32 := by decide +kernel
  rw [bootHdr, List.length_append, h, digFF, List.length_map, List.length_range]

/-- Flash that holds nothing but that header, as twin A. -/
def bootF : State := { boot 4 with flc := { z.flc with bytes := (List.range 80).zip bootHdr } }

/-- A key past the keys of a numbered list. -/
theorem get_zip_high (h : List Byte) (i : Nat) : ∀ a n, a + n ≤ i → Sparse.get 0xFF ((List.range' a n).zip h) i = 0xFF := by
  induction h with
  | nil => intro a n _; rw [List.zip_nil_right]; rfl
  | cons x r ih =>
    intro a n hi
    cases n with
    | zero => rfl
    | succ n =>
      have h1 : ¬ (a = i) := by omega
      simp only [List.range'_succ, List.zip_cons_cons, Sparse.get, h1, if_false]
      exact ih _ _ (by omega)

/-- The bytes of a numbered list, read key by key. -/
theorem get_zip_map (h : List Byte) : ∀ a, (List.range' a h.length).map (fun i => Sparse.get 0xFF ((List.range' a h.length).zip h) i) = h := by
  induction h with
  | nil => intro a; rfl
  | cons x r ih =>
    intro a
    rw [List.length_cons, List.range'_succ, List.zip_cons_cons, List.map_cons]
    rw [show Sparse.get 0xFF ((a, x) :: (List.range' (a + 1) r.length).zip r) a = x by simp only [Sparse.get, if_true]]
    refine congrArg (List.cons x) (Eq.trans (List.map_congr_left fun i hi => ?_) (ih (a + 1)))
    have h1 : ¬ (a = i) := by have := (List.mem_range'_1.1 hi).1; omega
    simp only [Sparse.get, h1, if_false]

theorem flBytes_hdr : bootF.flBytes 0 0x50 = bootHdr := by
  have h := get_zip_map bootHdr 0
  rw [bootHdr_length, ← List.range_eq_range'] at h
  refine Eq.trans (List.map_congr_left fun i _ => ?_) h
  rw [Nat.zero_add]
  rfl

theorem flBytes_body : bootF.flBytes 0x50 4096 = bodyFF := by
  unfold State.flBytes bodyFF
  refine List.ext_getElem (by rw [List.length_map, List.length_range, List.length_replicate]) fun i h1 h2 => ?_
  rw [List.getElem_map, List.getElem_range, List.getElem_replicate]
  have h := get_zip_high bootHdr (0x50 + i) 0 80 (by omega)
  rw [← List.range_eq_range'] at h
  exact h

theorem image_eq : bootF.twinImage false = bootHdr ++ bodyFF := by
  have h : State.twinImage bootF false = bootF.flBytes 0 0x50 ++ bootF.flBytes 0x50 (min (imgNat (bootF.flBytes 0 0x50) 8 4) 1015808) := rfl
  rw [h, flBytes_hdr]
  have h2 : min (imgNat bootHdr 8 4) 1015808 = 4096 := by decide +kernel
  rw [h2, flBytes_body]

theorem boot_headerOk : State.headerOk (bootHdr ++ bodyFF) = true := by decide +kernel
theorem boot_length : imgNat (bootHdr ++ bodyFF) 8 4 = 4096 := by decide +kernel
theorem boot_version : bootF.otpCount 1 ≤ imgNat (bootHdr ++ bodyFF) 6 2 := by decide +kernel
theorem boot_digest : ((bootHdr ++ bodyFF).drop 0x20).take 48 = sha384 bodyFF := by
  have hp : bootPre.length = 0x20 := by decide +kernel
  rw [bootHdr, List.append_assoc, List.drop_left' hp, List.take_left' (by rw [digFF, List.length_map, List.length_range]), digFF_eq]
theorem boot_body : ((bootHdr ++ bodyFF).drop 0x50).take 4096 = bodyFF := by
  rw [List.drop_left' bootHdr_length]
  exact List.take_of_length_le (Nat.le_of_eq (by rw [bodyFF, List.length_replicate]))

theorem imageOk_of {s : State} {img : List Byte} (hh : State.headerOk img = true)
    (hd : (img.drop 0x20).take 48 = sha384 ((img.drop 0x50).take (imgNat img 8 4))) (hv : s.otpCount 1 ≤ imgNat img 6 2) :
    s.imageOk img true = true := by
  unfold State.imageOk
  rw [hh, decide_eq_true hd, decide_eq_true hv]
  rfl

theorem imageOk_bootF : bootF.imageOk (bootHdr ++ bodyFF) true = true :=
  imageOk_of boot_headerOk (boot_digest.trans (congrArg sha384 (by rw [boot_length, boot_body]))) boot_version

theorem imageOk_twin : bootF.imageOk (bootF.twinImage false) true = true := by
  rw [image_eq]
  exact imageOk_bootF

/-- No place of the swap area holds a record. -/
theorem swapRec_none (k : Nat) : bootF.swapRec k = none := by
  have h : bootF.flBytes (0x200000 + 32 * k) 32 = List.replicate 32 0xFF := by
    unfold State.flBytes
    refine List.ext_getElem (by rw [List.length_map, List.length_range, List.length_replicate]) fun i h1 h2 => ?_
    rw [List.getElem_map, List.getElem_range, List.getElem_replicate]
    have h3 := get_zip_high bootHdr (0x200000 + 32 * k + i) 0 80 (by omega)
    rw [← List.range_eq_range'] at h3
    exact h3
  unfold State.swapRec
  rw [h]
  decide +kernel

theorem swapSel_of {s : State} (hk : ∀ k, s.swapRec k = none) : s.swapLoad.flc.swapSel = false := by
  have h : s.swapCurrent = none := by
    unfold State.swapCurrent
    generalize List.range 512 = l
    induction l with
    | nil => rfl
    | cons k r ih => rw [List.foldl_cons, hk]; exact ih
  unfold State.swapLoad
  rw [h]
  rfl

/-- The normal start of `Obligations.KeystoneRows`: a device in SERVICE whose twin A holds an image that ROM accepts. -/
theorem witness_KeystoneRows_boot :
    bootF.aon.mainPower = true ∧ bootF.kst.resetAt = none ∧ bootF.kst.stage = 0 ∧ (bootF.proc (.ks 0)).running = false ∧
    bootF.lcState = 4 ∧ bootF.swapLoad.flc.swapSel = false ∧ (bi true true true).selfTestOk = true ∧ (bi true true true).helperOk = true ∧
    (bi true true true).sigAOk = true ∧ bootF.imageOk (bootF.twinImage false) true = true :=
  ⟨by decide +kernel, by decide +kernel, by decide +kernel, by decide +kernel, by decide +kernel, swapSel_of swapRec_none, by decide +kernel,
    by decide +kernel, by decide +kernel, imageOk_twin⟩

end Sys2Proof.Tests.PowerAndKeystone
end

