-- ==== Sys2Proof/Proofs/FirstFault.lean ====
section
/-! SUPPORT. The first-fault capture of R28: single bits and fields of a word, registers of one page, and what `setSticky` does to a page
without and with a record. -/

namespace Sys2Proof.Machine

/-! ### Bits and fields of a word -/

theorem testBit_fld (v : Word) (lo w j : Nat) : (fld v lo w).testBit j = (decide (j < w) && bit v (lo + j)) := by
  simp [fld, bit, Nat.testBit_mod_two_pow, Nat.testBit_shiftRight, BitVec.getLsbD]

/-- A replaced field holds the new value's low bits, and every bit outside it is kept. -/
theorem bit_putFld (v : Word) (lo w x n : Nat) (hn : n < 32) :
    bit (putFld v lo w x) n = if lo ≤ n ∧ n < lo + w then x.testBit (n - lo) else bit v n := by
  simp only [putFld, bit, BitVec.getLsbD_or, BitVec.getLsbD_and, BitVec.getLsbD_not, BitVec.getLsbD_ofNat, hn,
    Nat.testBit_mul_two_pow, Nat.testBit_two_pow_sub_one, Nat.testBit_mod_two_pow]
  by_cases hlo : lo ≤ n
  · have hw : n < lo + w ↔ n - lo < w := by omega
    by_cases hj : n - lo < w
    · simp [hlo, hw, hj]
    · simp [hw, hj]
  · simp [hlo]

theorem bit_putFld_outside {v : Word} {lo w x n : Nat} (hn : n < 32) (h : n < lo ∨ lo + w ≤ n) :
    bit (putFld v lo w x) n = bit v n := by
  rw [bit_putFld v lo w x n hn, if_neg (by omega)]

theorem fld_putFld_same {v : Word} {lo w x : Nat} (h : lo + w ≤ 32) (hx : x < 2 ^ w) : fld (putFld v lo w x) lo w = x := by
  refine Nat.eq_of_testBit_eq fun j => ?_
  rw [testBit_fld]
  by_cases hj : j < w
  · rw [bit_putFld v lo w x (lo + j) (by omega), if_pos (by omega)]
    simp [hj]
  · have hxj : x < 2 ^ j := Nat.lt_of_lt_of_le hx (Nat.pow_le_pow_right (by decide) (by omega))
    simp [hj, Nat.testBit_lt_two_pow hxj]

theorem fld_putFld_disjoint {v : Word} {lo w x lo' w' : Nat} (h' : lo' + w' ≤ 32) (hd : lo' + w' ≤ lo ∨ lo + w ≤ lo') :
    fld (putFld v lo w x) lo' w' = fld v lo' w' := by
  refine Nat.eq_of_testBit_eq fun j => ?_
  rw [testBit_fld, testBit_fld]
  by_cases hj : j < w'
  · rw [bit_putFld_outside (by omega) (by omega)]
  · simp [hj]

/-! ### Registers of one page -/

/-- The registers of one page have different cells. -/
@[simp] theorem regKey_eq_iff (b : Block) (i off off' : Nat) : regKey b i off' = regKey b i off ↔ off' = off := by
  simp [regKey]

variable (s : State)

theorem State.reg_setReg_page (b : Block) (i off off' : Nat) (v : Word) :
    (s.setReg b i off v).reg b i off' = if off' = off then v else s.reg b i off' := by
  split
  · next h => rw [h, State.reg_setReg_self]
  · next h => exact s.reg_setReg_ne b b i i off off' v (by simpa using h)

/-- A LO/HI pair reads the low 64 bits of the number written to it. -/
theorem State.reg64_setReg64_self (b : Block) (i off v : Nat) : (s.setReg64 b i off v).reg64 b i off = v % 2 ^ 64 := by
  have hlo : (s.setReg64 b i off v).reg b i off = w32 v := by simp [State.setReg64, State.reg_setReg_page]
  have hhi : (s.setReg64 b i off v).reg b i (off + 4) = w32 (v / 2 ^ 32) := by simp [State.setReg64]
  rw [State.reg64, hlo, hhi, w32, w32, BitVec.toNat_ofNat, BitVec.toNat_ofNat]
  omega

theorem State.reg_setReg64_ne {b b' : Block} {i i' off off' v : Nat} (hlo : regKey b' i' off' ≠ regKey b i off)
    (hhi : regKey b' i' off' ≠ regKey b i (off + 4)) : (s.setReg64 b i off v).reg b' i' off' = s.reg b' i' off' := by
  rw [State.setReg64, State.reg_setReg_ne _ b b' i i' _ _ _ hhi, State.reg_setReg_ne _ b b' i i' _ _ _ hlo]

/-! ### FIRST_FAULT -/

/-- The FIRST_FAULT record of bit n with a command's offset and code (R28). -/
def firstFaultWord (n off code : Nat) : Word := putFld (putFld (putFld (flag true 31) 20 10 (off / 4)) 12 8 code) 0 5 n

theorem firstFaultWord_valid (n off code : Nat) : bit (firstFaultWord n off code) 31 = true := by
  rw [firstFaultWord, bit_putFld_outside (by decide) (by decide), bit_putFld_outside (by decide) (by decide),
    bit_putFld_outside (by decide) (by decide)]
  decide

theorem firstFaultWord_offset {n off code : Nat} (h : off < 0x1000) : fld (firstFaultWord n off code) 20 10 = off / 4 := by
  rw [firstFaultWord, fld_putFld_disjoint (by decide) (by decide), fld_putFld_disjoint (by decide) (by decide),
    fld_putFld_same (by decide) (by omega)]

theorem firstFaultWord_code {n off code : Nat} (h : code < 256) : fld (firstFaultWord n off code) 12 8 = code := by
  rw [firstFaultWord, fld_putFld_disjoint (by decide) (by decide), fld_putFld_same (by decide) h]

theorem firstFaultWord_bit {n off code : Nat} (h : n < 32) : fld (firstFaultWord n off code) 0 5 = n :=
  fld_putFld_same (by decide) h

/-! ### Setting a STKY bit -/

/-- Whether setting bit n of a page's STKY leaves FIRST_FAULT alone: the bit is set already, or a record is held. -/
def State.recordKept (s : State) (b : Block) (i n : Nat) : Prop :=
  bit (s.reg b i 0x010) n = true ∨ bit (s.reg b i 0x01C) 31 = true

theorem State.setSticky_of_kept {b : Block} {i n : Nat} (off code : Nat) (h : s.recordKept b i n) :
    s.setSticky b i n off code = s.setReg b i 0x010 (putBit (s.reg b i 0x010) n true) :=
  if_pos (by simpa [State.recordKept] using h)

theorem State.setSticky_of_first {b : Block} {i n : Nat} (off code : Nat) (h : ¬ s.recordKept b i n) :
    s.setSticky b i n off code = ((s.setReg b i 0x010 (putBit (s.reg b i 0x010) n true)).setReg b i 0x01C
      (firstFaultWord n off code)).setReg64 b i 0x020 (s.capture b i) :=
  if_neg (by simpa [State.recordKept] using h)

/-- Setting a STKY bit writes STKY, FIRST_FAULT and FAULT_TIME of its page at most. -/
theorem State.reg_setSticky_frame {b b' : Block} {i i' n off code o : Nat}
    (h : regKey b' i' o ∉ [regKey b i 0x010, regKey b i 0x01C, regKey b i 0x020, regKey b i 0x024]) :
    (s.setSticky b i n off code).reg b' i' o = s.reg b' i' o := by
  simp only [List.mem_cons, List.not_mem_nil, or_false, not_or] at h
  obtain ⟨hstky, hff, hlo, hhi⟩ := h
  by_cases hk : s.recordKept b i n
  · rw [s.setSticky_of_kept off code hk, State.reg_setReg_ne _ _ _ _ _ _ _ _ hstky]
  · rw [s.setSticky_of_first off code hk, State.reg_setReg64_ne _ hlo hhi, State.reg_setReg_ne _ _ _ _ _ _ _ _ hff,
      State.reg_setReg_ne _ _ _ _ _ _ _ _ hstky]

@[simp] theorem State.stky_setSticky (b : Block) (i n off code : Nat) :
    (s.setSticky b i n off code).reg b i 0x010 = putBit (s.reg b i 0x010) n true := by
  by_cases hk : s.recordKept b i n
  · rw [s.setSticky_of_kept off code hk, State.reg_setReg_self]
  · rw [s.setSticky_of_first off code hk, State.reg_setReg64_ne _ (by simp) (by simp), State.reg_setReg_page,
      if_neg (by decide), State.reg_setReg_self]

section
variable {s} {b : Block} {i n : Nat}

theorem State.firstFault_of_kept (off code : Nat) (h : s.recordKept b i n) :
    (s.setSticky b i n off code).reg b i 0x01C = s.reg b i 0x01C := by
  rw [s.setSticky_of_kept off code h, State.reg_setReg_page, if_neg (by decide)]

theorem State.faultTime_of_kept (off code : Nat) (h : s.recordKept b i n) :
    (s.setSticky b i n off code).reg64 b i 0x020 = s.reg64 b i 0x020 := by
  simp [s.setSticky_of_kept off code h, State.reg64, State.reg_setReg_page]

theorem State.firstFault_of_first (off code : Nat) (h : ¬ s.recordKept b i n) :
    (s.setSticky b i n off code).reg b i 0x01C = firstFaultWord n off code := by
  rw [s.setSticky_of_first off code h, State.reg_setReg64_ne _ (by simp) (by simp), State.reg_setReg_self]

theorem State.faultTime_of_first (off code : Nat) (h : ¬ s.recordKept b i n) :
    (s.setSticky b i n off code).reg64 b i 0x020 = s.capture b i % 2 ^ 64 := by
  rw [s.setSticky_of_first off code h, State.reg64_setReg64_self]

/-- After a capture the record is held against every further bit of the page. -/
theorem State.recordKept_after_first (off code n2 : Nat) (h : ¬ s.recordKept b i n) :
    (s.setSticky b i n off code).recordKept b i n2 :=
  .inr (by rw [State.firstFault_of_first off code h, firstFaultWord_valid])

end

/-- Settles O7: setting a STKY bit either keeps the record or captures the first fault, and a capture holds against every later bit. -/
theorem firstFaultCapture : Obligations.FirstFaultCapture := by
  unfold Obligations.FirstFaultCapture
  intro s b i n off code hn hoff hcode
  have first (hbit : bit (s.reg b i 0x010) n = false) (hvalid : bit (s.reg b i 0x01C) 31 = false) :
      ¬ s.recordKept b i n := by simp [State.recordKept, hbit, hvalid]
  refine ⟨s.stky_setSticky b i n off code, fun hbit hvalid => ?captures,
    fun hk => ⟨State.firstFault_of_kept off code hk, State.faultTime_of_kept off code hk⟩,
    fun n2 off2 code2 _ _ hbit hvalid => ?lowest, fun b' i' o ho => s.reg_setSticky_frame ho⟩
  case captures =>
    have hf := first hbit hvalid
    rw [State.firstFault_of_first off code hf]
    exact ⟨firstFaultWord_valid n off code, firstFaultWord_offset hoff, firstFaultWord_code hcode, firstFaultWord_bit hn,
      State.faultTime_of_first off code hf⟩
  case lowest =>
    have hk := State.recordKept_after_first off code n2 (first hbit hvalid)
    exact ⟨State.firstFault_of_kept off2 code2 hk, State.faultTime_of_kept off2 code2 hk, by simp⟩

end Sys2Proof.Machine
end

