-- ==== Sys2Proof/Proofs/LoopDepth.lean ====
section
/-! SUPPORT. LOOP and LOOPI at LDEPTH 4 (R90): when the body end is legal (R86, R88), and the check of LOOP_DEPTH as the first that fails
(R80). -/

namespace Sys2Proof.Machine

theorem State.canTransfer_iff {s : State} {p : ProcId} :
    s.canTransfer p = true ↔ s.canRun p = true ∧ (s.proc p).atLoopEnd = false := by
  simp [State.canTransfer]

/-- A word offset counts 4 bytes. -/
theorem branchTarget_eq_add_mul (pc : Word) (off : BitVec 16) : branchTarget pc off = pc + off.signExtend 32 * 4 := by
  have hfour : (4 : Word) = BitVec.twoPow 32 2 := by decide
  rw [branchTarget, BitVec.shiftLeft_eq_mul_twoPow, hfour]

/-- R86 and R88: the offset is above 0, and a loop that opens inside another ends within it. -/
theorem Proc.loopLegal_iff {x : Proc} {off : BitVec 16} {opens : Bool} :
    x.loopLegal off opens = true ↔ 0 < off.toInt ∧
      (opens = true → 0 < x.ldepth →
        (x.pc + off.signExtend 32 * 4).toNat ≤ (Sparse.get 0 x.le (x.ldepth - 1)).toNat) := by
  simp only [Proc.loopLegal, branchTarget_eq_add_mul, Bool.and_eq_true, Bool.not_eq_true', decide_eq_true_eq,
    Bool.and_eq_false_imp, decide_eq_false_iff_not, Nat.not_lt, and_imp]

section
variable {s : State} {p : ProcId} {off : BitVec 16} (ht : s.canTransfer p = true) (hs : (s.proc p).stepOne = false)
  (hd : 4 ≤ (s.proc p).ldepth)
include ht hs hd

/-- A legal LOOP with an INT count raises LOOP_DEPTH at depth 4, whatever the count. -/
theorem State.fLoop_depth_trap {a : Fin 32} (hint : ((s.proc p).r a.val).tag = Tag.int)
    (hl : (s.proc p).loopLegal off (decide (((s.proc p).r a.val).data ≠ 0)) = true) :
    fLoop p a off s = s.trap p loopDepth (s.proc p).pc 0 := by
  obtain ⟨hrun, hend⟩ := State.canTransfer_iff.mp ht
  have huse : (Tag.int : Tag) ≠ Tag.none := by decide
  unfold fLoop
  rw [State.issue_trap (c := { bad := true, code := loopDepth }) hrun hs (by simp [hend])]
  simp only [hl]
  simp [chkLegal, chkUse, chkTag, hint, huse, hd]

/-- A legal LOOPI raises LOOP_DEPTH at depth 4. -/
theorem State.fLoopi_depth_trap {n : Fin 1024} (hn : n.val ≠ 0) (hl : (s.proc p).loopLegal off true = true) :
    fLoopi p n off s = s.trap p loopDepth (s.proc p).pc 0 := by
  obtain ⟨hrun, hend⟩ := State.canTransfer_iff.mp ht
  unfold fLoopi
  rw [State.issue_trap (c := { bad := true, code := loopDepth }) hrun hs (by simp [hend])]
  simp [chkLegal, hn, hl, hd]

end

/-- Settles O18: where LOOP or LOOPI is legal, LOOP_DEPTH is the first check of R80 that fails, and its trap is the whole effect. A LOOP of
count 0 opens no loop, so its end need not lie within the enclosing one. -/
theorem loopDepthTrap : Obligations.LoopDepthTrap := by
  unfold Obligations.LoopDepthTrap
  intro s p a n off ht hs hoff x inside hdepth
  have hd : 4 ≤ (s.proc p).ldepth := Nat.le_of_eq (Eq.symm hdepth)
  have hle (h : inside) :
      (x.pc + off.signExtend 32 * 4).toNat ≤ (Sparse.get 0 x.le (x.ldepth - 1)).toNat := by rw [hdepth]; exact h
  refine ⟨fun hint hin => ?loop, fun hn hin => ?loopi⟩
  case loop =>
    have hl : x.loopLegal off (decide ((x.r a.val).data ≠ 0)) = true := by
      refine Proc.loopLegal_iff.mpr ⟨hoff, fun hopens _ => ?_⟩
      rcases hin with hin | hzero
      · exact hle hin
      · exact absurd hzero (of_decide_eq_true hopens)
    have hready : exec (.loop p a off) s = .next (fLoop p a off s) :=
      congrArg _ (State.whenReady_canRun [a.val] _ (State.canTransfer_iff.mp ht).1)
    rw [hready, State.fLoop_depth_trap ht hs hd hint hl]
  case loopi =>
    have hl : x.loopLegal off true = true := Proc.loopLegal_iff.mpr ⟨hoff, fun _ _ => hle hin⟩
    have hready : exec (.loopi p n off) s = .next (fLoopi p n off s) := rfl
    rw [hready, State.fLoopi_depth_trap ht hs hd hn hl]

end Sys2Proof.Machine
end
